-- ==== Sys2Proof/Word.lean ====
section
/-! DEFINITION. The word types of the model and their plainest arithmetic. -/

namespace Sys2Proof

/-- One byte of a memory or of a packet. -/
abbrev Byte := BitVec 8

/-- A 32-bit register (R32). -/
abbrev Word := BitVec 32

/-- A 64-bit quantity: an s register, a CSR, an instruction word. -/
abbrev DWord := BitVec 64

/-- A 44-bit physical address (R10). -/
abbrev PAddr := BitVec 44

/-- A physical tile slot, numbered c * 34 + s for slot s of cluster c (the numbering of R397). -/
abbrev TileId := Fin 136

/-- A task context of a tile (R85). -/
abbrev CtxId := Fin 4

end Sys2Proof
end

