-- ==== Sys2Proof/Syntax.lean ====
section
/-! DEFINITION. The commands of the block: one constructor of `Instr` per row of spec/opcode_table.json, with the row's operands.
What the spec lets an event bring from outside (a packet, a measurement, an acknowledgement, the outcome of an error-correcting code) is an operand. -/

namespace Sys2Proof

/-- The initiator classes of the fabric firewall (R365). -/
inductive Cls where
  | isl | mgs | app | sch | dbg
  deriving DecidableEq, Repr

/-- An initiator of a register or memory access: its firewall class and its SRC code in an error record (R397). -/
structure Initiator where
  cls : Cls
  src : BitVec 8
  deriving DecidableEq, Repr

/-- The holders of a hold request (R53, R55). -/
inductive HoldUnit where
  | window (w : Fin 256) | ing (n : Fin 32) | isp (n : Fin 32) | prs
  deriving DecidableEq, Repr

/-- The guard of an instruction: predicate number and negation (R99, R100). -/
structure Guard where
  pg : BitVec 3
  pn : Bool
  deriving DecidableEq, Repr

/-- The second operand of format SA: a register (I = 0) or an immediate (I = 1). -/
inductive Src2 where
  | reg (rs2 : BitVec 5) | imm (v : BitVec 32)
  deriving DecidableEq, Repr

/-- Format SA (R101). -/
structure SA where
  rd : BitVec 5
  rs1 : BitVec 5
  fn : BitVec 8
  src2 : Src2
  deriving DecidableEq, Repr

/-- Format SM (R101). -/
structure SM where
  rd : BitVec 5
  ab : BitVec 4
  fn : BitVec 8
  imm : BitVec 32
  deriving DecidableEq, Repr

/-- Format SB (R101). -/
structure SB where
  rs1 : BitVec 5
  rs2 : BitVec 5
  fn : BitVec 8
  off : BitVec 32
  deriving DecidableEq, Repr

/-- Format SC (R101). -/
structure SC where
  rd : BitVec 5
  rs1 : BitVec 5
  csr : BitVec 12
  deriving DecidableEq, Repr

/-- Format TS (R101). -/
structure TS where
  d : BitVec 4
  ar : BitVec 4
  rs1 : BitVec 5
  rs2 : BitVec 5
  imm : BitVec 32
  deriving DecidableEq, Repr

/-- Format TX (R101); the format calls the source and destination fields AS and AD. -/
structure TX where
  as_ : BitVec 4
  ad : BitVec 4
  rt : BitVec 5
  nrow : BitVec 7
  cnt : BitVec 14
  deriving DecidableEq, Repr

/-- Format TR (R101); `i` is the header's bit I. -/
structure TR where
  i : Bool
  cnt : BitVec 14
  rc : BitVec 5
  xc : Bool
  rv : BitVec 5
  uimm : BitVec 25
  deriving DecidableEq, Repr

/-- Format TB (R101). -/
structure TB where
  kind : BitVec 8
  ch0 : BitVec 10
  nch : BitVec 11
  en : Bool
  clr : Bool
  deriving DecidableEq, Repr

/-- Format VR (R101). -/
structure VR where
  vd : BitVec 5
  dm : Bool
  vs1 : BitVec 5
  m1 : Bool
  vs2 : BitVec 5
  m2 : Bool
  vs3 : BitVec 5
  ty : BitVec 3
  pd : BitVec 3
  inc : Bool
  xf : BitVec 4
  fn : BitVec 16
  deriving DecidableEq, Repr

/-- Format MX (R101). -/
structure MX where
  slm : BitVec 4
  bank : BitVec 2
  set : Bool
  ar : BitVec 4
  fmt : BitVec 4
  m0 : BitVec 6
  mcnt : BitVec 7
  sfb : BitVec 10
  ofmt : BitVec 4
  mode : BitVec 2
  acc : Bool
  inc : Bool
  st : Bool
  deriving DecidableEq, Repr

/-- The three matrix engines and the partition control (R75, R82). -/
inductive Engine where
  | loader | streamer | drainer | partition
  deriving DecidableEq, Repr

/-- What the code of a memory finds when data is read (R290, R294). -/
inductive Ecc where
  | clean | corrected | uncorrectable
  deriving DecidableEq, Repr

/-- The requester whose translation miss a walk serves (R299). -/
inductive WalkSrc where
  | tile (t : TileId) | codec (k : Fin 3)
  deriving DecidableEq, Repr

/-- What a CSI-2 packet carries after unpacking of its header (R242, R245, R246). -/
inductive CsiKind where
  | frameStart | frameEnd | lineStart | lineEnd | long (dt : BitVec 6) | other
  deriving DecidableEq, Repr

/-- The outcome of the header's protection (R246). -/
inductive HdrCheck where
  | good | fixed | bad
  deriving DecidableEq, Repr

/-- A CSI-2 packet as it arrives at a port: virtual channel, kind, payload as unpacked pixel codes or embedded bytes, payload CRC. -/
structure CsiPkt where
  vc : BitVec 5
  kind : CsiKind
  hdr : HdrCheck
  crcOk : Bool
  data : List Nat
  deriving DecidableEq, Repr

/-- The source address of a datagram (R342). -/
structure NetSrc where
  kind : BitVec 2
  addr : List Word
  port : BitVec 16
  deriving DecidableEq, Repr

/-- How a received frame stands under MACsec (R340). -/
inductive Macsec where
  | unprotected | good | failed
  deriving DecidableEq, Repr

/-- What a received frame carries above its link layer (R335, R343). -/
inductive FrameBody where
  | udp (src : NetSrc) (dport : BitVec 16) (fragment checksumOk : Bool) (payload : List Byte)
  | gptp
  | other
  deriving DecidableEq, Repr

/-- A received Ethernet frame: length, MACsec standing, the R-TAG sequence number if there is one, body. -/
structure EthFrame where
  len : Nat
  macsec : Macsec
  rtag : Option (BitVec 16)
  body : FrameBody
  deriving DecidableEq, Repr

/-- A management request (R349): a register step, a write into a vat staging area, or a register read. -/
inductive MgmtReq where
  | regWrite (addr : PAddr) (data : Word)
  | regRead (addr : PAddr)
  | stage (addr : PAddr) (data : List Byte)
  deriving DecidableEq, Repr

/-- The causes of a boot reset (R423). -/
inductive BootCause where
  | check | wdog0 | swreq
  deriving DecidableEq, Repr

/-- Why the firmware ends a job (R330). -/
inductive EndCause where
  | fault | killEntry | miss
  deriving DecidableEq, Repr

/-- What Press measures at an interval boundary: class powers in 1/8 W (R379) and the hottest sensor of each die in degrees (R382). -/
structure PressSample where
  comp : Nat
  mem : Nat
  lnk : Nat
  uncap : Nat
  cd0 : Int
  cd1 : Int
  iod : Int
  deriving DecidableEq, Repr

/-- The dies of thermal control (R374). -/
inductive Die where
  | cd0 | cd1 | iod
  deriving DecidableEq, Repr

/-- What enters and leaves a power state: one cluster, or the whole device (CAVE) (R386). -/
inductive PDomain where
  | cluster (c : Fin 4) | device
  deriving DecidableEq, Repr

/-- A block's answer to an entry request (R389). -/
inductive Answer where
  | ack | delay | refuse
  deriving DecidableEq, Repr

/-- A wake event other than a write of PRS_WAKE (R391). -/
inductive WakeEv where
  | pin (i : Fin 4) (high : Bool)
  | phase (d : PDomain)
  | access (c : Fin 4)
  | frame
  deriving DecidableEq, Repr

/-- One error signal on its way to the management block (R395, R397). -/
structure ErrSig where
  cls : Fin 15
  code : BitVec 8
  src : BitVec 8
  inst : BitVec 8
  addr : PAddr
  data : Word
  deriving DecidableEq, Repr

/-- Which signal reaches the management block: the oldest one a modelled event has sent, or one of a unit whose errors arise outside the commands (a corrected SRAM error, a lockstep mismatch). -/
inductive SigSrc where
  | oldest | unit (g : ErrSig)
  deriving DecidableEq, Repr

/-- What holds the device in reset besides PORST_N (R424). -/
inductive HoldSrc where
  | bor | trip
  deriving DecidableEq, Repr

/-- The commands: one constructor per row of spec/opcode_table.json, in the table's order. -/
inductive Instr where
  -- register interface (chapter 02)
  | registerWrite (ini : Initiator) (addr : PAddr) (width : Nat) (data : Word)
  | maskedWrite (ini : Initiator) (addr : PAddr) (data : Word)
  | loStagedWrite (ini : Initiator) (addr : PAddr) (data : Word)
  | hiCommitWrite (ini : Initiator) (addr : PAddr) (data : Word)
  | holdRequest (ini : Initiator) (u : HoldUnit)
  | heldSet (u : HoldUnit)
  | holdRelease (ini : Initiator) (u : HoldUnit)
  -- sweep unit (chapter 03)
  | sweepCycle
  | phaseWrap
  | syncIdxPulse (stamp widthNs : Nat) (falling : Bool)
  | swpEnable (ini : Initiator) (data : Word)
  | swpDisable (ini : Initiator) (data : Word)
  | swpCntclr (ini : Initiator)
  | swpMissPop (ini : Initiator)
  | ptNone (i : Fin 1024)
  | badAct (i : Fin 1024)
  | trig (i : Fin 1024)
  | i3c (i : Fin 1024)
  | release (i : Fin 1024)
  | scan (i : Fin 1024)
  | statwin (i : Fin 1024)
  | opset (i : Fin 1024)
  | refresh (i : Fin 1024)
  | pstate (i : Fin 1024)
  | deadline (i : Fin 1024)
  | jobCompletionReport (jid : BitVec 8)
  -- tile issue (chapters 04, 05) and the Ralok instructions (chapter 06)
  | tileClock (t : TileId)
  | contextReady (t : TileId) (k : CtxId)
  | add (t : TileId) (k : CtxId) (g : Guard) (f : SA)
  | sub (t : TileId) (k : CtxId) (g : Guard) (f : SA)
  | and (t : TileId) (k : CtxId) (g : Guard) (f : SA)
  | or (t : TileId) (k : CtxId) (g : Guard) (f : SA)
  | xor (t : TileId) (k : CtxId) (g : Guard) (f : SA)
  | shl (t : TileId) (k : CtxId) (g : Guard) (f : SA)
  | shr (t : TileId) (k : CtxId) (g : Guard) (f : SA)
  | ldn (t : TileId) (k : CtxId) (g : Guard) (f : SM)
  | stn (t : TileId) (k : CtxId) (g : Guard) (f : SM)
  | br (t : TileId) (k : CtxId) (g : Guard) (f : SB)
  | brc (t : TileId) (k : CtxId) (g : Guard) (f : SB)
  | loop (t : TileId) (k : CtxId) (g : Guard) (f : SB)
  | call (t : TileId) (k : CtxId) (g : Guard) (f : SB)
  | ret (t : TileId) (k : CtxId) (g : Guard)
  | csrrd (t : TileId) (k : CtxId) (g : Guard) (f : SC)
  | csrwr (t : TileId) (k : CtxId) (g : Guard) (f : SC)
  | yield (t : TileId) (k : CtxId) (g : Guard)
  | halt (t : TileId) (k : CtxId) (g : Guard)
  | sopen (t : TileId) (k : CtxId) (g : Guard) (f : TS)
  | sidx (t : TileId) (k : CtxId) (g : Guard) (f : TS)
  | sblk (t : TileId) (k : CtxId) (g : Guard) (f : TS)
  | sland (t : TileId) (k : CtxId) (g : Guard) (f : TS)
  | send (t : TileId) (k : CtxId) (g : Guard) (f : TX)
  | rnadd (t : TileId) (k : CtxId) (g : Guard) (f : TR)
  | rnset (t : TileId) (k : CtxId) (g : Guard) (f : TR)
  | rnwait (t : TileId) (k : CtxId) (g : Guard) (f : TR)
  | bar (t : TileId) (k : CtxId) (g : Guard) (f : TB)
  | fence (t : TileId) (k : CtxId) (g : Guard) (f : TB)
  | msest (t : TileId) (k : CtxId) (g : Guard) (f : TB)
  | vadd (t : TileId) (k : CtxId) (g : Guard) (f : VR)
  | vsub (t : TileId) (k : CtxId) (g : Guard) (f : VR)
  | vmul (t : TileId) (k : CtxId) (g : Guard) (f : VR)
  | vfma (t : TileId) (k : CtxId) (g : Guard) (f : VR)
  | vmax (t : TileId) (k : CtxId) (g : Guard) (f : VR)
  | vmin (t : TileId) (k : CtxId) (g : Guard) (f : VR)
  | vexp (t : TileId) (k : CtxId) (g : Guard) (f : VR)
  | vrcp (t : TileId) (k : CtxId) (g : Guard) (f : VR)
  | vrsq (t : TileId) (k : CtxId) (g : Guard) (f : VR)
  | vcvt (t : TileId) (k : CtxId) (g : Guard) (f : VR)
  | vqnt (t : TileId) (k : CtxId) (g : Guard) (f : VR)
  | vdqnt (t : TileId) (k : CtxId) (g : Guard) (f : VR)
  | vred (t : TileId) (k : CtxId) (g : Guard) (f : VR)
  | vperm (t : TileId) (k : CtxId) (g : Guard) (f : VR)
  | vsel (t : TileId) (k : CtxId) (g : Guard) (f : VR)
  | vcmp (t : TileId) (k : CtxId) (g : Guard) (f : VR)
  | mldi (t : TileId) (k : CtxId) (g : Guard) (f : MX)
  | mstw (t : TileId) (k : CtxId) (g : Guard) (f : MX)
  | mdrn (t : TileId) (k : CtxId) (g : Guard) (f : MX)
  | mpart (t : TileId) (k : CtxId) (g : Guard) (f : MX)
  | mclr (t : TileId) (k : CtxId) (g : Guard) (f : MX)
  | matrixStart (t : TileId) (e : Engine)
  | matrixComplete (t : TileId) (e : Engine)
  | sliceFree (t : TileId) (j : Fin 4)
  | icacheFill (t : TileId) (k : CtxId) (ecc : Ecc)
  | tileEnable (ini : Initiator) (t : TileId)
  | tileReady (t : TileId)
  | tileDisable (ini : Initiator) (t : TileId)
  | start (ini : Initiator) (t : TileId) (k : CtxId)
  | stop (ini : Initiator) (t : TileId) (k : CtxId)
  | lockstep (ini : Initiator) (t : TileId) (on : Bool)
  | stallCountersClear (ini : Initiator) (t : TileId)
  -- streams, scale file, statistics (chapters 07, 09)
  | streamFetchSend (t : TileId)
  | rowLanding (t : TileId) (n : Nat) (ecc : Ecc)
  | streamWriteAck (t : TileId) (n : Nat)
  | discardedRowLanding (t : TileId)
  | sendRowArrival (t : TileId)
  | regulatorRefill (c : Fin 4)
  | scaleLoadGo (ini : Initiator) (t : TileId) (data : Word)
  | scaleLoadData (t : TileId) (n : Nat) (ecc : Ecc)
  | statSnap (ini : Initiator) (t : TileId)
  | statClr (ini : Initiator) (t : TileId)
  -- counters, windows, hoops, barriers, kills (chapter 08)
  | counterOpEffect (k : BitVec 14) (n : Nat)
  | rnOldValueReturn (t : TileId) (k : CtxId)
  | rntValWrite (ini : Initiator) (k : BitVec 14) (data : Word)
  | rntAddWrite (ini : Initiator) (k : BitVec 14) (data : Word)
  | windowMessage (w : Fin 256) (peer : Option (Fin 256)) (off : Nat) (data : List Byte)
  | windowRead (w : Fin 256) (peer : Option (Fin 256)) (off len : Nat)
  | hoopArm (ini : Initiator) (c : Fin 4) (h : Fin 64) (data : Word)
  | hoopLog (c : Fin 4) (h : Fin 64)
  | barrierArrival (t : TileId) (k : CtxId)
  | fabBarWrite (ini : Initiator) (j : BitVec 8) (data : Word)
  | killRequest (ini : Option Initiator) (jid : BitVec 8)
  | killStart
  | killComplete
  -- attention engines (chapter 11)
  | attGo (ini : Initiator) (c : Fin 4)
  | attPassStart (c : Fin 4)
  | attTranslationMiss (c : Fin 4) (page : BitVec 32) (ecc : Ecc)
  | attReadReturn (c : Fin 4) (line : BitVec 41) (ecc : Ecc)
  | attBucketItem (c : Fin 4) (overran : Bool)
  | attSequenceMerge (c : Fin 4) (q : Nat)
  | attEpochEnd (c : Fin 4)
  | attTfence (ini : Initiator) (c : Fin 4)
  | attFenceAckIdle (c : Fin 4)
  | attStop (ini : Initiator) (c : Fin 4)
  -- camera ingest, sensor control, image pipeline (chapters 12, 13)
  | csiPacket (p : Fin 8) (pkt : CsiPkt)
  | frameStart (p : Fin 8)
  | frameEnd (p : Fin 8)
  | linePacket (p : Fin 8)
  | embeddedLine (p : Fin 8)
  | frameTimeout (n : Fin 32)
  | phaseWindowClose (n : Fin 32) (k : Fin 4)
  | ingContextEnable (ini : Initiator) (n : Fin 32)
  | ingContextDisable (ini : Initiator) (n : Fin 32)
  | stripSelect (q : Fin 4)
  | stripComplete (q : Fin 4)
  | statRecordDone (n : Fin 32)
  | fsyncPulseEnd (i : Fin 16)
  | i3cWrite (c : Fin 4) (ack : Bool)
  | i3cDcmd (ini : Initiator) (c : Fin 4) (data : Word) (ack : Bool) (rdata : Word)
  -- codecs (chapter 14)
  | codGo (ini : Initiator) (k : Fin 3)
  | codecJobStart (k : Fin 3)
  | codecJobComplete (k : Fin 3)
  | codecStop (ini : Initiator) (k : Fin 3)
  -- memory and fabric (chapter 15)
  | vatScrub (c : Fin 4) (fixed : Nat)
  | lpxInit (ini : Initiator) (data : Word)
  | lpxInitDone (fail : Word) (cap : BitVec 8) (pprFail : BitVec 8)
  | refreshTick (ch : Fin 32) (quiet : Bool)
  | mmuWalk (w : WalkSrc) (ecc : Ecc)
  | mmuInv (ini : Initiator) (data : Word)
  | mmuInvDone
  | seal (ini : Initiator) (r : Fin 64)
  | sealed (r : Fin 64)
  | unseal (ini : Initiator) (r : Fin 64)
  | unsealDone (r : Fin 64)
  | brineGo (ini : Initiator) (data : Word)
  | brineRequestDone
  -- scheduler cores and scheduling firmware (chapter 16)
  | schRst (ini : Initiator) (c : Fin 4)
  | schBrineDone (c : Fin 4)
  | schLock (ini : Initiator) (c : Fin 4) (lock4k : BitVec 7)
  | schStart (ini : Initiator) (c : Fin 4)
  | schCheckDone (c : Fin 4)
  | schedulerScan (c : Fin 4)
  | jobAdmit (q : Fin 256)
  | jobLaunch (c : Fin 4) (q : Fin 256)
  | jobComplete (jid : BitVec 8)
  | jobEnd (jid : BitVec 8) (cause : EndCause)
  -- network and PCIe (chapter 17)
  | ethFrameRx (p : Fin 3) (f : EthFrame)
  | ethLinkChange (p : Fin 3) (up : Bool)
  | gptpSync (offsetNs : Int)
  | gptpSyncLoss
  | gateInterval (p : Fin 3)
  | gateListChange (p : Fin 3)
  | cbRecoveryReset (peer : Fin 256)
  | vwpWrite (peer : Option (Fin 256)) (payload : List Byte)
  | vwpRead (peer : Option (Fin 256)) (payload : List Byte)
  | vwpRdata (q : Fin 4) (payload : List Byte)
  | txRingPoll (q : Fin 4)
  | txEntryComplete (q : Fin 4)
  | txReadTimeout (q : Fin 4)
  | pcieWrite (rid : BitVec 16) (addr : DWord) (ideOk : Bool) (data : List Byte)
  | pcieRead (rid : BitVec 16) (addr : DWord) (ideOk : Bool) (len : Nat)
  | pcieLaneLoss (width : BitVec 3)
  | pcieEnable (ini : Initiator) (data : Word)
  | mgmtRequest (peer : Option (Fin 256)) (secure : Bool) (req : MgmtReq)
  -- boot, keys, security, debug (chapter 18)
  | porRelease
  | islandStart
  | starterCheck
  | bootReset (cause : BootCause)
  | secGateClose (ini : Initiator)
  | check (ini : Initiator) (desc : BitVec 14)
  | derive (ini : Initiator) (desc : BitVec 14)
  | sign (ini : Initiator) (desc : BitVec 14)
  | pubkey (ini : Initiator) (desc : BitVec 14)
  | erase (ini : Initiator) (desc : BitVec 14)
  | keyCommandDone
  | minverAdvance (ini : Initiator) (goal : BitVec 7)
  | lcAdvance (ini : Initiator) (goal : BitVec 3)
  | fuseProgramDone (verified : Bool)
  | dbgChal
  | dbgResp (scope : Word) (pub : List Byte) (sig : List Byte)
  | appLock (ini : Initiator) (g : Fin 2) (lock4k : BitVec 7)
  | appStart (ini : Initiator) (g : Fin 2)
  | appRst (ini : Initiator) (g : Fin 2)
  | mpuLock (ini : Initiator) (r : Fin 8) (data : Word)
  | firewallLock (ini : Initiator) (e : Fin 32) (data : Word)
  -- Press (chapter 19)
  | controlInterval (m : PressSample)
  | domainRequestWrite (ini : Initiator) (d : Fin 7) (data : Word)
  | opTransitionStep (c : Fin 4)
  | thermalLimit (d : Die)
  | droop (c : Fin 4) (low : Bool)
  | overcurrent (c : Fin 4) (beyond : Bool)
  | entryHandshakeAnswer (d : PDomain) (a : Answer)
  | entryComplete (d : PDomain)
  | wakeEvent (e : WakeEv)
  | prsWake (ini : Initiator) (data : Word)
  | exitComplete (d : PDomain)
  -- availability (chapter 20)
  | errorSignal (g : SigSrc)
  | elogPop (ini : Initiator)
  | eoutRun (ini : Initiator)
  | errOutRise
  | mgtClsClr (ini : Initiator) (c : Fin 16)
  | kick (ini : Initiator) (w : Fin 7)
  | watchdogExpiry (w : Fin 7)
  | cmpGo (ini : Initiator) (data : Word)
  | cmpDone
  | spareArm (ini : Initiator) (c : Fin 4) (data : Word)
  | spareCopyStart (c : Fin 4)
  | spareCopyEnd (c : Fin 4)
  | vatRepair (ini : Initiator) (c : Fin 4) (k : Fin 256) (data : Word)
  | vatRepairDone (c : Fin 4) (k : Fin 256)
  | hartOffline (ini : Initiator) (off : BitVec 12)
  -- package, reset, supplies (chapter 21)
  | porstNAssert
  | brownOut (mV : Nat) (ns : Nat)
  | thermalTrip
  | resetHoldEnd (h : HoldSrc)
  | glbRstreqBoot (ini : Initiator)
  | pmbAlert (highMs : Bool)
  | syncPpsEdge (widthNs : Nat)
  | initiatorMemoryWrite (ini : Initiator) (addr : PAddr) (data : List Byte)
  | csiStopState (p : Fin 8)
  | pcieLinkChange (up : Bool) (rate : BitVec 3) (width : BitVec 3)
  | thermalLimitEnd (d : Die)
  | appCheckDone (g : Fin 2)
  | debugInstruction (code : BitVec 8) (data : Word)
  deriving DecidableEq, Repr

end Sys2Proof
end

