-- ==== Sys2Proof/Decode.lean ====
section
/-! DEFINITION. Commands as words of the command table. -/

namespace Sys2Proof

/-- The command that a word spells by the bits spec/opcode_table.json gives its rows. The table gives no row any bits, so no word spells a command:
commands reach the block as bus accesses, events and pins. The words of Ralok programs are decoded by `Machine.decodeWord`. -/
def decodeTableWord (_nbits _w : Nat) : Option Instr := none

end Sys2Proof
end

