-- ==== Sys2Proof/Config.lean ====
section
/-! DEFINITION. What an implementation fixes and the values the manual leaves open: constants with no body, so that no proof can see what they are. -/

namespace Sys2Proof

/-- The fused curve PRS_VF0 to PRS_VF7 (R375): VSEL in bits 15:8, FMAX in bits 7:0. The manual gives no fuse contents (log 6). -/
opaque Config.vfCurve : Nat → Word

/-- A value nothing constrains, by the number of free values taken before it (log 2). -/
opaque Config.freeValue : Nat → DWord

/-- The sign of an exact zero that the V slot or a conversion produces: mnemonic number, the element codes of the operands (log 3). -/
opaque Config.zeroSign : Nat → List Nat → Bool

/-- VEXP, VRCP and VRSQ as FP32 functions: bits of the result for an ordinary operand, within the bounds of R138 (log 4). -/
opaque Config.vexp : Bool → Word → Word
opaque Config.vrcp : Word → Word
opaque Config.vrsq : Word → Word

/-- The sealed-region tag of R304: the 64-byte line, its physical address, the region number, the generation number (log 5). -/
opaque Config.sealTag : List Byte → Nat → Nat → Nat → DWord

/-- What CTXID names as the logical tile of a physical slot that no logical tile is bound to (R108; log 15). -/
opaque Config.unboundTile : Nat → Nat

/-- Which of each 16 tile clocks a throttle of `n` blocks (R385 gives only their number): the `n` positions of lowest key (log 16). -/
opaque Config.throttleKey : Nat → Nat → Nat

/-- The fixed demosaic kernel (R264): CFA, CFA position of the window's centre, ring depth, the 9 x 9 window of stage 4 by rows; one FP32 code per channel (log 24). -/
opaque Config.demosaic : Nat → Nat → Nat → List Nat → Nat → Word

/-- The fixed spatial noise kernel (R264): strength, channel, the 9 x 9 window of the channel's FP32 codes (log 24). -/
opaque Config.denoise : Nat → Nat → List Nat → Word

/-- A pixel of a row that the pipe has not read, or that came poisoned, as a neighbour of another: row and column (log 25). -/
opaque Config.ispUnread : Nat → Nat → Nat

/-- The matrices of FILT.CSC (R264): selection, component, R, G, B as FP32 codes (log 24). -/
opaque Config.csc : Nat → Nat → Nat → Nat → Nat → Word

/-- The fixed 4-tap polyphase filters (R267): column fraction and its denominator, row fraction and its denominator, 16 FP32 codes by rows (log 24). -/
opaque Config.scaler : Nat → Nat → Nat → Nat → List Nat → Word

/-- The bytes of the carry area that hold 8 input rows (R263), and the rows that other bytes would stand for: rows, byte number; bytes, row, column (log 26). -/
opaque Config.carryByte : List (List Nat) → Nat → Byte
opaque Config.carryPixel : List Byte → Nat → Nat → Nat

/-- What the encoders make of a picture (R277, R282; log 27): the coded bytes and the mean QP, from the descriptor, the source samples, the stream's key-frame choice and number. -/
opaque Config.encBytes : List Byte → List Nat → Bool → Nat → List Byte
opaque Config.encQp : List Byte → List Nat → Bool → Nat → Byte

/-- What the decoder makes of a unit (R277, R284; log 27): 0 decoded, 2 a feature outside R277, 6 broken syntax; bytes consumed; key frame; 8-bit stream; mean QP;
sample `i`, luma and then interleaved chroma. The arguments are descriptor, bitstream, number of the stream's last writer. -/
opaque Config.decCode : List Byte → List Byte → Nat → Nat
opaque Config.decUsed : List Byte → List Byte → Nat → Nat
opaque Config.decInter : List Byte → List Byte → Nat → Bool
opaque Config.decEight : List Byte → List Byte → Nat → Bool
opaque Config.decQp : List Byte → List Byte → Nat → Byte
opaque Config.decSample : List Byte → List Byte → Nat → Nat → Nat

/-- The bytes of a stream context, in the internal format of R281: frames, frames since the last key frame, key mark, last writer, byte number (log 28). -/
opaque Config.strmByte : Nat → Nat → Bool → Nat → Nat → Byte

/-- The Ethernet port that carries the datagrams of a peer with CB = 0: the manual names none (log 29). -/
opaque Config.peerPort : Nat → Nat

/-- The serial bytes of a debug challenge: SHA-256 of UDS under label "SERIAL", whose exact input R373 does not give (log 35). -/
opaque Config.serial : List Byte → List Byte

/-- The IDCODE instruction of IEEE 1149.1, whose code the manual does not give (log 36). -/
opaque Config.idcode : Nat

end Sys2Proof
end

