-- ==== Sys2Proof/Machine/Num.lean ====
section
/-! DEFINITION. Exact numbers, the formats of R147 and the roundings of R148 and R149. -/

namespace Sys2Proof.Machine
open Sys2Proof

/-- An exact value: NaN, an infinity, or plus or minus `mag * 2 ^ exp` (R147; a zero keeps its sign). -/
inductive FV where
  | nan
  | inf (neg : Bool)
  | fin (neg : Bool) (mag : Nat) (exp : Int)
  deriving DecidableEq, Repr

/-- A floating-point format: mantissa bits, bias, the largest finite code (sign clear), its infinity and its NaN if it has them. -/
structure FSpec where
  width : Nat
  man : Nat
  bias : Nat
  maxFin : Nat
  inf : Option Nat
  nan : Option Nat
  deriving DecidableEq, Repr

def fspecE4M3 : FSpec := ⟨8, 3, 7, 0x7E, none, some 0x7F⟩
def fspecE5M2 : FSpec := ⟨8, 2, 15, 0x7B, some 0x7C, some 0x7E⟩
def fspecE3M2 : FSpec := ⟨6, 2, 3, 0x1F, none, none⟩
def fspecE2M3 : FSpec := ⟨6, 3, 1, 0x1F, none, none⟩
def fspecE2M1 : FSpec := ⟨4, 1, 1, 0x7, none, none⟩
def fspecBF16 : FSpec := ⟨16, 7, 127, 0x7F7F, some 0x7F80, some 0x7FC0⟩
def fspecFP16 : FSpec := ⟨16, 10, 15, 0x7BFF, some 0x7C00, some 0x7E00⟩
def fspecFP32 : FSpec := ⟨32, 23, 127, 0x7F7FFFFF, some 0x7F800000, some 0x7FC00000⟩

/-- A format under its code of R103: an integer of `bits` bits scaled by `2 ^ exp`, or a floating-point format. -/
inductive Fmt where
  | int (signed : Bool) (bits : Nat) (exp : Int)
  | flt (f : FSpec)
  deriving DecidableEq, Repr

/-- The formats of R103 and R147; code 0xF is not listed. -/
def fmtOf (code : Nat) : Option Fmt :=
  match code with
  | 0x0 => some (.int true 8 0)
  | 0x1 => some (.int false 8 0)
  | 0x2 => some (.int true 4 0)
  | 0x3 => some (.flt fspecE4M3)
  | 0x4 => some (.flt fspecE5M2)
  | 0x5 => some (.flt fspecE4M3)
  | 0x6 => some (.flt fspecE5M2)
  | 0x7 => some (.flt fspecE3M2)
  | 0x8 => some (.flt fspecE2M3)
  | 0x9 => some (.flt fspecE2M1)
  | 0xA => some (.int true 8 (-6))
  | 0xB => some (.flt fspecBF16)
  | 0xC => some (.flt fspecFP16)
  | 0xD => some (.int true 32 0)
  | 0xE => some (.flt fspecFP32)
  | _ => none

/-- The element width of a format code in bits as memory holds it (MXFP6 elements occupy one byte, R142). -/
def fmtBits (code : Nat) : Nat :=
  match code with
  | 0x2 | 0x9 => 4
  | 0xB | 0xC => 16
  | 0xD | 0xE => 32
  | _ => 8

/-- Two's complement reading of the low `n` bits. -/
def toSigned (n v : Nat) : Int :=
  let u := v % 2 ^ n
  if u < 2 ^ (n - 1) then (u : Int) else (u : Int) - (2 ^ n : Nat)

/-- The low `n` bits of an integer. -/
def ofSigned (n : Nat) (v : Int) : Nat := (v % (2 ^ n : Nat)).toNat

def FV.ofInt (v : Int) : FV := .fin (decide (v < 0)) v.natAbs 0

/-- The value of a floating-point code (R147). -/
def FSpec.decode (f : FSpec) (code : Nat) : FV :=
  let c := code % 2 ^ f.width
  let neg := decide (2 ^ (f.width - 1) ≤ c)
  let m := c % 2 ^ (f.width - 1)
  if m ≤ f.maxFin then
    let e := m / 2 ^ f.man
    let x := m % 2 ^ f.man
    if e = 0 then .fin neg x (1 - (f.bias : Int) - f.man)
    else .fin neg (2 ^ f.man + x) ((e : Int) - f.bias - f.man)
  else if f.inf = some m then .inf neg
  else .nan

/-- The value of an element code of a format. -/
def Fmt.decode (f : Fmt) (code : Nat) : FV :=
  match f with
  | .int true n e => match FV.ofInt (toSigned n code) with | .fin s m _ => .fin s m e | v => v
  | .int false n e => .fin false (code % 2 ^ n) e
  | .flt f => f.decode code

def FV.neg : FV → FV
  | .nan => .nan
  | .inf s => .inf (!s)
  | .fin s m e => .fin (!s) m e

/-- The value scaled by `2 ^ k`. -/
def FV.scale (k : Int) : FV → FV
  | .fin s m e => .fin s m (e + k)
  | v => v

/-- The finite value as an integer multiple of `2 ^ e`, for `e` at most its exponent. -/
def alignTo (neg : Bool) (mag : Nat) (exp e : Int) : Int :=
  let v : Int := (mag <<< (exp - e).toNat : Nat)
  if neg then -v else v

/-- An integer multiple of `2 ^ e` as a value. -/
def FV.ofScaled (v e : Int) : FV := .fin (decide (v < 0)) v.natAbs e

/-- Exact sum; opposite infinities give NaN. -/
def FV.add : FV → FV → FV
  | .nan, _ => .nan
  | _, .nan => .nan
  | .inf a, .inf b => if a = b then .inf a else .nan
  | .inf a, .fin _ _ _ => .inf a
  | .fin _ _ _, .inf b => .inf b
  | .fin sa ma ea, .fin sb mb eb =>
    let e := min ea eb
    FV.ofScaled (alignTo sa ma ea e + alignTo sb mb eb e) e

/-- Exact product; zero times infinity gives NaN. -/
def FV.mul : FV → FV → FV
  | .nan, _ => .nan
  | _, .nan => .nan
  | .inf a, .inf b => .inf (a ^^ b)
  | .inf a, .fin b m _ => if m = 0 then .nan else .inf (a ^^ b)
  | .fin a m _, .inf b => if m = 0 then .nan else .inf (a ^^ b)
  | .fin a m e, .fin b n f => .fin (a ^^ b) (m * n) (e + f)

def FV.isNan : FV → Bool
  | .nan => true
  | _ => false

def FV.isInf : FV → Bool
  | .inf _ => true
  | _ => false

def FV.isZero : FV → Bool
  | .fin _ m _ => m == 0
  | _ => false

def FV.isNeg : FV → Bool
  | .nan => false
  | .inf s => s
  | .fin s _ _ => s

/-- `a < b` for values that are not NaN; zeros are equal. -/
def FV.lt : FV → FV → Bool
  | .nan, _ => false
  | _, .nan => false
  | .inf a, .inf b => a && !b
  | .inf a, .fin _ _ _ => a
  | .fin _ _ _, .inf b => !b
  | .fin sa ma ea, .fin sb mb eb =>
    let e := min ea eb
    decide (alignTo sa ma ea e < alignTo sb mb eb e)

/-- `⌊m * 2 ^ e⌋ + 1/2` rounding of R148 for a magnitude: ties away from zero. -/
def rnaMag (m : Nat) (e : Int) : Nat :=
  if 0 ≤ e then m <<< e.toNat
  else
    let d := (-e).toNat
    (m + 2 ^ (d - 1)) >>> d

/-- Round-to-nearest, ties away from zero, to an integer (R148). -/
def rnaInt (neg : Bool) (m : Nat) (e : Int) : Int :=
  let v : Int := rnaMag m e
  if neg then -v else v

/-- What a rounding met: a clamped or overflowed result (R149). -/
structure Rounded where
  code : Nat
  beyond : Bool
  deriving DecidableEq, Repr

/-- Rounding of a nonzero magnitude `mag * 2 ^ exp` to the code of a floating-point format, sign clear, not yet limited (R148). -/
def FSpec.roundMag (f : FSpec) (mag : Nat) (exp : Int) : Nat :=
  let k := max ((Nat.log2 mag : Int) + exp) (1 - (f.bias : Int))
  let q := k - f.man
  let n := rnaMag mag (exp - q)
  (q + f.bias + f.man - 1).toNat * 2 ^ f.man + n

/-- The code of an infinite value or of one beyond the range (R149): the infinity, or the largest finite code where the format has none. -/
def FSpec.overCode (f : FSpec) : Nat := f.inf.getD f.maxFin

/-- Rounding of an exact value to a floating-point format (R148, R149); `zs` is the sign an exact zero takes.
`beyond` tells a finite value beyond the range, and an infinite one that a format without infinity clamps. -/
def FSpec.round (f : FSpec) (zs : Bool) (v : FV) : Rounded :=
  let sgn (s : Bool) (c : Nat) : Nat := if s then c + 2 ^ (f.width - 1) else c
  match v with
  | .nan => ⟨f.nan.getD 0, false⟩
  | .inf s => ⟨sgn s f.overCode, f.inf.isNone⟩
  | .fin s m e =>
    if m = 0 then ⟨sgn zs 0, false⟩
    else
      let c := f.roundMag m e
      if c ≤ f.maxFin then ⟨sgn s c, false⟩ else ⟨sgn s f.overCode, true⟩

/-- The least and largest value of an integer format. -/
def intRange (signed : Bool) (bits : Nat) : Int × Int :=
  if signed then (-(2 ^ (bits - 1) : Nat), (2 ^ (bits - 1) : Nat) - 1) else (0, (2 ^ bits : Nat) - 1)

def clampInt (lo hi v : Int) : Int := if v < lo then lo else if hi < v then hi else v

/-- Rounding of an exact value to an integer format (R148, R149); a NaN gives the clamped `z`. -/
def roundInt (signed : Bool) (bits : Nat) (z : Int) (v : FV) : Rounded :=
  let (lo, hi) := intRange signed bits
  match v with
  | .nan => ⟨ofSigned bits (clampInt lo hi z), false⟩
  | .inf s => ⟨ofSigned bits (if s then lo else hi), true⟩
  | .fin s m e =>
    let r := rnaInt s m e
    let c := clampInt lo hi r
    ⟨ofSigned bits c, decide (c ≠ r)⟩

/-- Rounding to the format of a code; an integer format with scale `2 ^ exp` rounds the value over that scale. -/
def Fmt.round (f : Fmt) (zs : Bool) (z : Int) (v : FV) : Rounded :=
  match f with
  | .int sg n e => roundInt sg n z (v.scale (-e))
  | .flt f => f.round zs v

/-- FP32 code of an exact value; `zs` is the sign of an exact zero. -/
def toFP32 (zs : Bool) (v : FV) : Nat := (fspecFP32.round zs v).code

def ofFP32 (c : Nat) : FV := fspecFP32.decode c

/-- Sum of exact values. -/
def FV.sum (vs : List FV) : FV := vs.foldl FV.add (.fin false 0 0)

/-- The order key of a finite magnitude: `⌊log2⌋` of it. -/
def FV.log2 : FV → Option Int
  | .fin _ m e => if m = 0 then none else some ((Nat.log2 m : Int) + e)
  | _ => none

/-- The larger of two optional logs. -/
def maxLog : Option Int → Option Int → Option Int
  | none, b => b
  | a, none => a
  | some a, some b => some (max a b)

/-- A finite value truncated toward zero to a multiple of `2 ^ q`, as that multiple (R155). -/
def truncTo (q : Int) : FV → Int
  | .fin s m e =>
    let n : Int := if 0 ≤ e - q then (m <<< (e - q).toNat : Nat) else (m >>> (q - e).toNat : Nat)
    if s then -n else n
  | _ => 0

/-- One MSTW step of one column of one group in a floating-point accumulator (R155): the FP32 code of the new entry. -/
def fpStep (terms : List FV) : Nat :=
  let nan := terms.any FV.isNan || (terms.any (· == .inf false) && terms.any (· == .inf true))
  if nan then 0x7FC00000
  else if terms.any (· == .inf false) then 0x7F800000
  else if terms.any (· == .inf true) then 0xFF800000
  else
    match terms.foldl (fun a v => maxLog a v.log2) none with
    | none => 0
    | some e =>
      let q := e - 35
      let s := terms.foldl (fun a v => a + truncTo q v) 0
      toFP32 false (FV.ofScaled s q)

/-- The INT32 accumulator step of R154. -/
def intStep (old : Nat) (sum : Int) : Nat := ofSigned 32 ((toSigned 32 old) + sum)

/-- A division rounded to nearest, ties away from zero, of two naturals (`0` for a zero divisor). -/
def divRna (n d : Nat) : Nat := if d = 0 then 0 else (2 * n + d) / (2 * d)

end Sys2Proof.Machine
end

