-- ==== Sys2Proof/Machine/RegMap.lean ====
section
/-! DEFINITION. The register tables of chapters 02 to 21: every register the spec lists, under the spec's own name, with its address, its index ranges,
the access codes of its fields (R13) as bit masks, and its reset value. -/

namespace Sys2Proof.Machine
open Sys2Proof

/-- Every register of the control window, under the name its table gives it (lower-case letters are its indices). -/
inductive Reg where
  | CLU_REMAPl | CLU_SENDDROP | CLU_HOOPh_FILL | CLU_HOOPh_DRAIN | CLU_HOOPh_CFG | CLU_HOOPh_LOG | CLU_HOOPh_TALLY | CLU_SPARE
  | GLB_ID | GLB_REV | GLB_CYCLES_LO | GLB_CYCLES_HI | GLB_SIZE0 | GLB_SIZE1 | GLB_SIZE2 | GLB_SIZE3 | GLB_SIZE4 | GLB_SIZE5 | GLB_RSTCAUSE
  | GLB_RSTREQ | GLB_PPS_LO | GLB_PPS_HI
  | SWP_CTRL | SWP_PERIOD | SWP_ORIGIN_LO | SWP_ORIGIN_HI | SWP_IDX | SWP_JUMP | SWP_STATUS | SWP_NOW | SWP_SWEEP_LO | SWP_SWEEP_HI | SWP_CNT0
  | SWP_CNT1 | SWP_CNTCLR | SWP_EVT | SWP_MISS_LO | SWP_MISS_HI | SWP_MISS_POP | SWP_QCFGq | SWP_PTi_LO | SWP_PTi_HI
  | TILE_CTRL | TILE_STATUS | TILE_ARR | TILE_CYCLES_LO | TILE_CYCLES_HI | TILE_CTXk_CFG | TILE_CTXk_STATE | TILE_CTXk_ENTRY_LO | TILE_CTXk_ENTRY_HI
  | TILE_CTXk_CMD | TILE_CTXk_FAULT | TILE_CTXk_FPC_LO | TILE_CTXk_FPC_HI | TILE_STALLc_LO | TILE_STALLc_HI | TILE_STALLCLR | TILE_SFj_LO
  | TILE_SFj_HI | TILE_SFLD_LO | TILE_SFLD_HI | TILE_SFLD_CTL | TILE_STATCTL | TILE_STATj_SUM | TILE_STATj_CNT | TILE_JOB | TILE_STRM_Q
  | TILE_STRM_ERR | TILE_GEN_OOB | TILE_RPRk
  | RNT_VALk | RNT_ADDk | RNT_CFGk | RNT_WAITk
  | FAB_WINw_BASE_LO | FAB_WINw_BASE_HI | FAB_WINw_LIMIT_LO | FAB_WINw_LIMIT_HI | FAB_WINw_CFG | FAB_WINw_CTRL | FAB_WINw_CNTS | FAB_BARj
  | FAB_BARj_STAT | FAB_KILL | FAB_KILL_PENDi | FAB_TREGg | FAB_CREGc | FAB_CSELc | FAB_REGMIS | FAB_TLVLg | FAB_CLVLc | FAB_SEALr_BASE
  | FAB_SEALr_SIZE | FAB_SEALr_CTRL | FAB_SEALr_CNT | FAB_BRN_ADDR | FAB_BRN_CTL
  | ATT_CTRL | ATT_STATUS | ATT_PASS_LO | ATT_PASS_HI | ATT_GO | ATT_CNT | ATT_TFENCE | ATT_ERR | ATT_PACE | ATT_LAST | ATT_EPOCH | ATT_XLAT
  | PAD_FSYNC_CFG | PAD_I3Cc_CTRL | PAD_I3Cc_STAT | PAD_I3Cc_DCMD | PAD_I3Cc_DDATA | PAD_I3Cc_WLe_A | PAD_I3Cc_WLe_R | PAD_I3Cc_WLe_D0
  | PAD_I3Cc_WLe_D1
  | ING_PORTp_CFG | ING_PORTp_STAT | ING_PORTp_ERR | ING_CTXn_SRC | ING_CTXn_DT | ING_CTXn_GEOM | ING_CTXn_RING | ING_CTXn_RBASE_LO
  | ING_CTXn_RBASE_HI | ING_CTXn_FILL | ING_CTXn_CTRL | ING_CTXn_WINk | ING_CTXn_REC_LO | ING_CTXn_REC_HI | ING_CTXn_RECN | ING_CTXn_FRAME
  | ING_CTXn_CNT | ING_CTXn_EMBj
  | ISP_CTXn_CTRL | ISP_CTXn_LIN | ISP_CTXn_FILT | ISP_CTXn_STATUS | ISP_CTXn_WS | ISP_CTXn_STAT_BASE | ISP_CTXn_STAT_CFG | ISP_CTXn_EXPe_LVL
  | ISP_CTXn_EXPe_GAIN | ISP_CTXn_CCMi | ISP_CTXn_MVSc | ISP_CTXn_MVOc | ISP_CTXn_KNEEk_X | ISP_CTXn_KNEEk_Y | ISP_CTXn_OUTo_CFG | ISP_CTXn_OUTo_SIZE
  | ISP_CTXn_OUTo_CROPX | ISP_CTXn_OUTo_CROPY | ISP_CTXn_OUTo_BASE | ISP_CTXn_TAPt_CFG | ISP_CTXn_TAPt_BASE | ISP_CTXn_LUTi | ISP_CTXn_LSCj
  | ISP_CTXn_LTMj
  | COD_COREk_CTRL | COD_COREk_STATUS | COD_COREk_JOB_LO | COD_COREk_JOB_HI | COD_COREk_GO | COD_COREk_ERR
  | VAT_ERRc | VAT_RPRc_k
  | LPX_GCTRL | LPX_CHEN | LPX_GSTAT | LPX_CHFAIL | LPX_ERRk | LPX_REFk | LPX_PPRk
  | MMU_ROOTc | MMU_INV_VA | MMU_INV_CTL | MMU_FLOG_LO | MMU_FLOG_HI
  | SCH_CTRL | SCH_STATUS
  | NET_PORTp_CFG | NET_PORTp_STAT | NET_TCFG | NET_TSTAT | NET_QBVp_CTRL | NET_QBVp_CYCLE | NET_QBVp_CHG_LO | NET_QBVp_CHG_HI | NET_QBVp_GCLk
  | NET_SHAPEp_c | NET_CB_STAT | NET_PEERi_ADDRj | NET_PEERi_CFG | NET_VWP_CFG | NET_VWP_STAT | NET_TXq_BASE | NET_TXq_CFG | NET_TXq_HEAD
  | PCI_CTRL | PCI_STAT | PCI_CTO
  | SEC_BOOT | SEC_GATE | SEC_LC | SEC_MINVER_LO | SEC_MINVER_HI | SEC_FUSEADV | SEC_KCMD | SEC_APPg | SEC_MPUr_RANGE | SEC_MPUr_CFG | SEC_FWe_BASE
  | SEC_FWe_LIMIT | SEC_FWe_PERM
  | PRS_CTRL | PRS_STATE | PRS_WLAT | PRS_PERM | PRS_CAP | PRS_FLOOR0 | PRS_FLOOR1 | PRS_DOMd | PRS_OPk | PRS_VFi | PRS_THERM | PRS_TEMP | PRS_PWR0
  | PRS_PWR1 | PRS_CNT0 | PRS_CNT1 | PRS_CNT2 | PRS_CNT3 | PRS_WAKECFG | PRS_WAKE
  | MGT_CLSc | MGT_ELOGk | MGT_ELOG_CTL | MGT_EOUT | MGT_WDGw | MGT_DLMONm | MGT_CMP_A | MGT_CMP_B | MGT_CMP_LEN | MGT_CMP_CTL | MGT_CMP_RES
  | CTL_HARTOFF
  deriving DecidableEq, Repr

/-- How a register takes a write: whole (`plain`), as a masked write (`mw`, R39), or as half of a writable 64-bit value (`lo`, `hi`, R41). -/
inductive RegKind where
  | plain | mw | lo | hi
  deriving DecidableEq, Repr

/-- One row of a register table: the address of its first instance, one (stride, count) per index with the largest stride first,
the masks of its RW, W1C, W1S, WO and MW fields, the mask of the fields that any write clears, its kind and its reset value. -/
structure RegDesc where
  base : Nat
  dims : List (Nat × Nat)
  rw : Nat
  w1c : Nat
  w1s : Nat
  wo : Nat
  mw : Nat
  clr : Nat
  kind : RegKind
  reset : Nat
  deriving DecidableEq, Repr

/-- The register tables. A reset value that a table gives by index or from the fuses stands in `Reg.resetAt`. -/
def Reg.desc : Reg → RegDesc
  | .CLU_REMAPl => ⟨0x2000100, [(0x1000000, 4), (0x4, 32)], 0x3f, 0, 0, 0, 0, 0, .plain, 0⟩
  | .GLB_ID => ⟨0, [], 0, 0, 0, 0, 0, 0, .plain, 0x44164d59⟩
  | .GLB_REV => ⟨4, [], 0, 0, 0, 0, 0, 0, .plain, 0xe0210⟩
  | .GLB_CYCLES_LO => ⟨0x200, [], 0, 0, 0, 0, 0, 0, .plain, 0⟩
  | .GLB_CYCLES_HI => ⟨0x204, [], 0, 0, 0, 0, 0, 0, .plain, 0⟩
  | .GLB_SIZE0 => ⟨0x100, [], 0, 0, 0, 0, 0, 0, .plain, 0x4022004⟩
  | .GLB_SIZE1 => ⟨0x104, [], 0, 0, 0, 0, 0, 0, .plain, 0x4000400⟩
  | .GLB_SIZE2 => ⟨0x108, [], 0, 0, 0, 0, 0, 0, .plain, 0x10100⟩
  | .GLB_SIZE3 => ⟨0x10c, [], 0, 0, 0, 0, 0, 0, .plain, 0x8000e00⟩
  | .GLB_SIZE4 => ⟨0x110, [], 0, 0, 0, 0, 0, 0, .plain, 0x40200400⟩
  | .GLB_SIZE5 => ⟨0x114, [], 0, 0, 0, 0, 0, 0, .plain, 0x1000100⟩
  | .SWP_CTRL => ⟨0x300000, [], 7, 0, 0, 0, 0, 0, .plain, 0⟩
  | .SWP_PERIOD => ⟨0x300004, [], 0xffffffff, 0, 0, 0, 0, 0, .plain, 0x5f5e100⟩
  | .SWP_ORIGIN_LO => ⟨0x300008, [], 0xffffffff, 0, 0, 0, 0, 0, .lo, 0⟩
  | .SWP_ORIGIN_HI => ⟨0x30000c, [], 0xffffffff, 0, 0, 0, 0, 0, .hi, 0⟩
  | .SWP_IDX => ⟨0x300010, [], 0xfffff1, 0, 0, 0, 0, 0, .plain, 0x28f10⟩
  | .SWP_JUMP => ⟨0x300014, [], 0xfff, 0, 0, 0, 0, 0, .plain, 0x40⟩
  | .SWP_STATUS => ⟨0x300020, [], 0, 0, 0, 0, 0, 0, .plain, 0⟩
  | .SWP_NOW => ⟨0x300024, [], 0, 0, 0, 0, 0, 0, .plain, 0⟩
  | .SWP_SWEEP_LO => ⟨0x300028, [], 0, 0, 0, 0, 0, 0, .plain, 0⟩
  | .SWP_SWEEP_HI => ⟨0x30002c, [], 0, 0, 0, 0, 0, 0, .plain, 0⟩
  | .SWP_CNT0 => ⟨0x300030, [], 0, 0, 0, 0, 0, 0, .plain, 0⟩
  | .SWP_CNT1 => ⟨0x300034, [], 0, 0, 0, 0, 0, 0, .plain, 0⟩
  | .SWP_CNTCLR => ⟨0x300038, [], 0, 0, 0, 1, 0, 0, .plain, 0⟩
  | .SWP_EVT => ⟨0x30003c, [], 0, 0xf, 0, 0, 0, 0, .plain, 0⟩
  | .SWP_MISS_LO => ⟨0x300040, [], 0, 0, 0, 0, 0, 0, .plain, 0⟩
  | .SWP_MISS_HI => ⟨0x300044, [], 0, 0, 0, 0, 0, 0, .plain, 0⟩
  | .SWP_MISS_POP => ⟨0x300048, [], 0, 0, 0, 1, 0, 0, .plain, 0⟩
  | .SWP_QCFGq => ⟨0x301000, [(0x4, 256)], 3, 0, 0, 0, 0, 0, .plain, 0⟩
  | .SWP_PTi_LO => ⟨0x310000, [(0x8, 1024)], 0x1fffff, 0, 0, 0, 0, 0, .lo, 0⟩
  | .SWP_PTi_HI => ⟨0x310004, [(0x8, 1024)], 0xffffffff, 0, 0, 0, 0, 0, .hi, 0⟩
  | .TILE_CTRL => ⟨0x2100000, [(0x1000000, 4), (0x10000, 34)], 7, 0, 0, 0, 0, 0, .plain, 0⟩
  | .TILE_STATUS => ⟨0x2100004, [(0x1000000, 4), (0x10000, 34)], 0, 0, 0, 0, 0, 0, .plain, 0⟩
  | .TILE_ARR => ⟨0x2100008, [(0x1000000, 4), (0x10000, 34)], 0, 0, 0, 0, 0, 0, .plain, 0⟩
  | .TILE_CYCLES_LO => ⟨0x2100010, [(0x1000000, 4), (0x10000, 34)], 0, 0, 0, 0, 0, 0, .plain, 0⟩
  | .TILE_CYCLES_HI => ⟨0x2100014, [(0x1000000, 4), (0x10000, 34)], 0, 0, 0, 0, 0, 0, .plain, 0⟩
  | .TILE_CTXk_CFG => ⟨0x2100100, [(0x1000000, 4), (0x10000, 34), (0x40, 4)], 0x3f03, 0, 0, 0, 0, 0, .plain, 0⟩
  | .TILE_CTXk_STATE => ⟨0x2100104, [(0x1000000, 4), (0x10000, 34), (0x40, 4)], 0, 0, 0, 0, 0, 0, .plain, 0⟩
  | .TILE_CTXk_ENTRY_LO => ⟨0x2100108, [(0x1000000, 4), (0x10000, 34), (0x40, 4)], 0xfffffff8, 0, 0, 0, 0, 0, .lo, 0⟩
  | .TILE_CTXk_ENTRY_HI => ⟨0x210010c, [(0x1000000, 4), (0x10000, 34), (0x40, 4)], 0xffff, 0, 0, 0, 0, 0, .hi, 0⟩
  | .TILE_CTXk_CMD => ⟨0x2100110, [(0x1000000, 4), (0x10000, 34), (0x40, 4)], 0, 0, 0, 3, 0, 0, .plain, 0⟩
  | .TILE_CTXk_FAULT => ⟨0x2100114, [(0x1000000, 4), (0x10000, 34), (0x40, 4)], 0, 0x80000000, 0, 0, 0, 0, .plain, 0⟩
  | .TILE_CTXk_FPC_LO => ⟨0x2100118, [(0x1000000, 4), (0x10000, 34), (0x40, 4)], 0, 0, 0, 0, 0, 0, .plain, 0⟩
  | .TILE_CTXk_FPC_HI => ⟨0x210011c, [(0x1000000, 4), (0x10000, 34), (0x40, 4)], 0, 0, 0, 0, 0, 0, .plain, 0⟩
  | .TILE_STALLc_LO => ⟨0x2100200, [(0x1000000, 4), (0x10000, 34), (0x8, 8)], 0, 0, 0, 0, 0, 0, .plain, 0⟩
  | .TILE_STALLc_HI => ⟨0x2100204, [(0x1000000, 4), (0x10000, 34), (0x8, 8)], 0, 0, 0, 0, 0, 0, .plain, 0⟩
  | .TILE_STALLCLR => ⟨0x2100280, [(0x1000000, 4), (0x10000, 34)], 0, 0, 0, 1, 0, 0, .plain, 0⟩
  | .TILE_SFj_LO => ⟨0x2102000, [(0x1000000, 4), (0x10000, 34), (0x8, 1024)], 0xffffffff, 0, 0, 0, 0, 0, .lo, 0⟩
  | .TILE_SFj_HI => ⟨0x2102004, [(0x1000000, 4), (0x10000, 34), (0x8, 1024)], 0xffffff, 0, 0, 0, 0, 0, .hi, 0⟩
  | .TILE_SFLD_LO => ⟨0x2100300, [(0x1000000, 4), (0x10000, 34)], 0xfffffff8, 0, 0, 0, 0, 0, .lo, 0⟩
  | .TILE_SFLD_HI => ⟨0x2100304, [(0x1000000, 4), (0x10000, 34)], 0xffff, 0, 0, 0, 0, 0, .hi, 0⟩
  | .TILE_SFLD_CTL => ⟨0x2100308, [(0x1000000, 4), (0x10000, 34)], 0x7ffffff, 0x20000000, 0, 0x80000000, 0, 0, .plain, 0⟩
  | .TILE_STATCTL => ⟨0x2100310, [(0x1000000, 4), (0x10000, 34)], 0, 0, 0, 3, 0, 0, .plain, 0⟩
  | .TILE_STATj_SUM => ⟨0x2104000, [(0x1000000, 4), (0x10000, 34), (0x8, 1024)], 0, 0, 0, 0, 0, 0, .plain, 0⟩
  | .TILE_STATj_CNT => ⟨0x2104004, [(0x1000000, 4), (0x10000, 34), (0x8, 1024)], 0, 0, 0, 0, 0, 0, .plain, 0⟩
  | .TILE_JOB => ⟨0x2100018, [(0x1000000, 4), (0x10000, 34)], 0x1ff, 0, 0, 0, 0, 0, .plain, 0⟩
  | .CLU_SENDDROP => ⟨0x2000180, [(0x1000000, 4)], 0, 0, 0, 0, 0, 0xffffffff, .plain, 0⟩
  | .RNT_VALk => ⟨0x1000000, [(0x10, 16384)], 0xffffffff, 0, 0, 0, 0, 0, .plain, 0⟩
  | .RNT_ADDk => ⟨0x1000004, [(0x10, 16384)], 0, 0, 0, 0xffffffff, 0, 0, .plain, 0⟩
  | .RNT_CFGk => ⟨0x1000008, [(0x10, 16384)], 0x1ff, 0, 0, 0, 0, 0, .plain, 0⟩
  | .RNT_WAITk => ⟨0x100000c, [(0x10, 16384)], 0, 0, 0, 0, 0, 0, .plain, 0⟩
  | .FAB_WINw_BASE_LO => ⟨0x480000, [(0x40, 256)], 0xffffffff, 0, 0, 0, 0, 0, .lo, 0⟩
  | .FAB_WINw_BASE_HI => ⟨0x480004, [(0x40, 256)], 0xfff, 0, 0, 0, 0, 0, .hi, 0⟩
  | .FAB_WINw_LIMIT_LO => ⟨0x480008, [(0x40, 256)], 0xffffffff, 0, 0, 0, 0, 0, .lo, 0⟩
  | .FAB_WINw_LIMIT_HI => ⟨0x48000c, [(0x40, 256)], 0xfff, 0, 0, 0, 0, 0, .hi, 0⟩
  | .FAB_WINw_CFG => ⟨0x480010, [(0x40, 256)], 0xffffffff, 0, 0, 0, 0, 0, .plain, 0⟩
  | .FAB_WINw_CTRL => ⟨0x480014, [(0x40, 256)], 3, 0, 0, 0, 0, 0, .plain, 0⟩
  | .FAB_WINw_CNTS => ⟨0x480018, [(0x40, 256)], 0, 0, 0, 0, 0, 0xffffffff, .plain, 0⟩
  | .CLU_HOOPh_FILL => ⟨0x2001000, [(0x1000000, 4), (0x20, 64)], 0xf3fff, 0, 0, 0, 0, 0, .plain, 0⟩
  | .CLU_HOOPh_DRAIN => ⟨0x2001004, [(0x1000000, 4), (0x20, 64)], 0xf3fff, 0, 0, 0, 0, 0, .plain, 0⟩
  | .CLU_HOOPh_CFG => ⟨0x2001008, [(0x1000000, 4), (0x20, 64)], 0x801fffff, 0, 0, 0, 0, 0, .plain, 0⟩
  | .CLU_HOOPh_LOG => ⟨0x200100c, [(0x1000000, 4), (0x20, 64)], 0, 0x80000000, 0, 0, 0, 0, .plain, 0⟩
  | .CLU_HOOPh_TALLY => ⟨0x2001010, [(0x1000000, 4), (0x20, 64)], 0, 0, 0, 0, 0, 0, .plain, 0⟩
  | .FAB_BARj => ⟨0x460000, [(0x8, 256)], 0xffffffff, 0, 0, 0, 0, 0, .plain, 0⟩
  | .FAB_BARj_STAT => ⟨0x460004, [(0x8, 256)], 0, 0x10000, 0, 0, 0, 0, .plain, 0⟩
  | .FAB_KILL => ⟨0x470000, [], 0xff, 0, 0, 0x80000000, 0, 0, .plain, 0⟩
  | .FAB_KILL_PENDi => ⟨0x470010, [(0x4, 8)], 0, 0, 0, 0, 0, 0, .plain, 0⟩
  | .FAB_TREGg => ⟨0x410000, [(0x4, 128)], 0, 0, 0, 0, 0xffffffff, 0, .mw, 0xffff⟩
  | .FAB_CREGc => ⟨0x410200, [(0x4, 4)], 0, 0, 0, 0, 0xffffffff, 0, .mw, 0xffff⟩
  | .FAB_CSELc => ⟨0x410280, [(0x4, 4)], 7, 0, 0, 0, 0, 0, .plain, 7⟩
  | .FAB_REGMIS => ⟨0x410300, [], 0, 0, 0, 0, 0, 0xffffffff, .plain, 0⟩
  | .FAB_TLVLg => ⟨0x410400, [(0x4, 128)], 0, 0, 0, 0, 0, 0, .plain, 0x20000⟩
  | .FAB_CLVLc => ⟨0x410600, [(0x4, 4)], 0, 0, 0, 0, 0, 0, .plain, 0x400000⟩
  | .TILE_STRM_Q => ⟨0x2100400, [(0x1000000, 4), (0x10000, 34)], 0, 0, 0, 0, 0, 0, .plain, 0⟩
  | .TILE_STRM_ERR => ⟨0x2100404, [(0x1000000, 4), (0x10000, 34)], 0, 0, 0, 0, 0, 0xffffffff, .plain, 0⟩
  | .TILE_GEN_OOB => ⟨0x2100408, [(0x1000000, 4), (0x10000, 34)], 0, 0, 0, 0, 0, 0xffff, .plain, 0⟩
  | .ATT_CTRL => ⟨0x2080000, [(0x1000000, 4)], 0x3f01, 0, 0, 0, 0, 0, .plain, 0⟩
  | .ATT_STATUS => ⟨0x2080004, [(0x1000000, 4)], 0, 0, 0, 0, 0, 0, .plain, 0⟩
  | .ATT_PASS_LO => ⟨0x2080010, [(0x1000000, 4)], 0xffffffc0, 0, 0, 0, 0, 0, .lo, 0⟩
  | .ATT_PASS_HI => ⟨0x2080014, [(0x1000000, 4)], 0xffff, 0, 0, 0, 0, 0, .hi, 0⟩
  | .ATT_GO => ⟨0x2080018, [(0x1000000, 4)], 0, 0, 0, 1, 0, 0, .plain, 0⟩
  | .ATT_CNT => ⟨0x208001c, [(0x1000000, 4)], 0x3fff3fff, 0, 0, 0, 0, 0, .plain, 0⟩
  | .ATT_TFENCE => ⟨0x2080020, [(0x1000000, 4)], 0, 0, 0, 1, 0, 0, .plain, 0⟩
  | .ATT_ERR => ⟨0x2080024, [(0x1000000, 4)], 0, 0x1f, 0, 0, 0, 0, .plain, 0⟩
  | .ATT_PACE => ⟨0x2080028, [(0x1000000, 4)], 0xfffff, 0, 0, 0, 0, 0, .plain, 0x800⟩
  | .ATT_LAST => ⟨0x208002c, [(0x1000000, 4)], 0, 0, 0, 0, 0, 0, .plain, 0⟩
  | .ATT_EPOCH => ⟨0x2080030, [(0x1000000, 4)], 0, 0, 0, 0, 0, 0, .plain, 0⟩
  | .ATT_XLAT => ⟨0x2080034, [(0x1000000, 4)], 0, 0, 0, 0, 0, 0, .plain, 0⟩
  | .PAD_FSYNC_CFG => ⟨0xf000100, [], 0xffffffff, 0, 0, 0, 0, 0, .plain, 0⟩
  | .ING_PORTp_CFG => ⟨0x8000000, [(0x100, 8)], 0x1ff0f, 0, 0, 0, 0, 0, .plain, 0⟩
  | .ING_PORTp_STAT => ⟨0x8000004, [(0x100, 8)], 0, 0, 0, 0, 0, 0xffffff00, .plain, 0⟩
  | .ING_PORTp_ERR => ⟨0x8000008, [(0x100, 8)], 0, 0, 0, 0, 0, 0xffffffff, .plain, 0⟩
  | .ING_CTXn_SRC => ⟨0x8010000, [(0x100, 32)], 0xfff7ff, 0, 0, 0, 0, 0, .plain, 0⟩
  | .ING_CTXn_DT => ⟨0x8010004, [(0x100, 32)], 0x3f3f3f3f, 0, 0, 0, 0, 0, .plain, 0⟩
  | .ING_CTXn_GEOM => ⟨0x8010008, [(0x100, 32)], 0xffffffff, 0, 0, 0, 0, 0, .plain, 0x10001⟩
  | .ING_CTXn_RING => ⟨0x801000c, [(0x100, 32)], 0x3fff, 0, 0, 0, 0, 0, .plain, 0x101⟩
  | .ING_CTXn_RBASE_LO => ⟨0x8010010, [(0x100, 32)], 0xffffff00, 0, 0, 0, 0, 0, .lo, 0⟩
  | .ING_CTXn_RBASE_HI => ⟨0x8010014, [(0x100, 32)], 0xfff, 0, 0, 0, 0, 0, .hi, 0⟩
  | .ING_CTXn_FILL => ⟨0x8010018, [(0x100, 32)], 0xffffff, 0, 0, 0, 0, 0, .plain, 0⟩
  | .ING_CTXn_CTRL => ⟨0x801001c, [(0x100, 32)], 0xfffffff1, 0, 0, 0, 0, 0, .plain, 0⟩
  | .ING_CTXn_WINk => ⟨0x8010020, [(0x100, 32), (0x4, 4)], 0xffffffff, 0, 0, 0, 0, 0, .plain, 0⟩
  | .ING_CTXn_REC_LO => ⟨0x8010030, [(0x100, 32)], 0xffffff80, 0, 0, 0, 0, 0, .lo, 0⟩
  | .ING_CTXn_REC_HI => ⟨0x8010034, [(0x100, 32)], 0xfff, 0, 0, 0, 0, 0, .hi, 0⟩
  | .ING_CTXn_RECN => ⟨0x8010038, [(0x100, 32)], 0xff, 0, 0, 0, 0, 0, .plain, 0⟩
  | .ING_CTXn_FRAME => ⟨0x801003c, [(0x100, 32)], 0, 0, 0, 0, 0, 0, .plain, 0⟩
  | .ING_CTXn_CNT => ⟨0x8010040, [(0x100, 32)], 0, 0, 0, 0, 0, 0xffffffff, .plain, 0⟩
  | .ING_CTXn_EMBj => ⟨0x8010080, [(0x100, 32), (0x4, 16)], 0xfffffff, 0, 0, 0, 0, 0, .plain, 0⟩
  | .PAD_I3Cc_CTRL => ⟨0xf020000, [(0x100, 4)], 0xfff3, 0, 0, 0, 0, 0, .plain, 0⟩
  | .PAD_I3Cc_STAT => ⟨0xf020004, [(0x100, 4)], 0, 0, 0, 0, 0, 0xffff00, .plain, 0⟩
  | .PAD_I3Cc_DCMD => ⟨0xf020008, [(0x100, 4)], 0x7ffff8, 0x20000000, 0, 0x80000000, 0, 0, .plain, 0⟩
  | .PAD_I3Cc_DDATA => ⟨0xf02000c, [(0x100, 4)], 0xffffffff, 0, 0, 0, 0, 0, .plain, 0⟩
  | .PAD_I3Cc_WLe_A => ⟨0xf010000, [(0x1000, 4), (0x10, 256)], 0x1f3f7f, 0, 0, 0, 0, 0, .plain, 0⟩
  | .PAD_I3Cc_WLe_R => ⟨0xf010004, [(0x1000, 4), (0x10, 256)], 0xffff, 0, 0, 0, 0, 0, .plain, 0⟩
  | .PAD_I3Cc_WLe_D0 => ⟨0xf010008, [(0x1000, 4), (0x10, 256)], 0xffffffff, 0, 0, 0, 0, 0, .plain, 0⟩
  | .PAD_I3Cc_WLe_D1 => ⟨0xf01000c, [(0x1000, 4), (0x10, 256)], 0xffffffff, 0, 0, 0, 0, 0, .plain, 0⟩
  | .ISP_CTXn_CTRL => ⟨0x9000000, [(0x10000, 32)], 0x1fffd, 0, 0, 0, 0, 0, .plain, 0x400⟩
  | .ISP_CTXn_LIN => ⟨0x9000004, [(0x10000, 32)], 0xfff1f3f, 0, 0, 0, 0, 0, .plain, 0xc00⟩
  | .ISP_CTXn_FILT => ⟨0x9000008, [(0x10000, 32)], 0x7ffffff, 0, 0, 0, 0, 0, .plain, 0⟩
  | .ISP_CTXn_STATUS => ⟨0x900000c, [(0x10000, 32)], 0, 0, 0, 0, 0, 0, .plain, 0⟩
  | .ISP_CTXn_WS => ⟨0x9000010, [(0x10000, 32)], 0xffffffff, 0, 0, 0, 0, 0, .plain, 0⟩
  | .ISP_CTXn_STAT_BASE => ⟨0x9000014, [(0x10000, 32)], 0xffffffff, 0, 0, 0, 0, 0, .plain, 0⟩
  | .ISP_CTXn_STAT_CFG => ⟨0x9000018, [(0x10000, 32)], 0xffffffff, 0, 0, 0, 0, 0, .plain, 0xffff00⟩
  | .ISP_CTXn_EXPe_LVL => ⟨0x9000040, [(0x10000, 32), (0x8, 4)], 0xffffffff, 0, 0, 0, 0, 0, .plain, 0⟩
  | .ISP_CTXn_EXPe_GAIN => ⟨0x9000044, [(0x10000, 32), (0x8, 4)], 0xffffffff, 0, 0, 0, 0, 0, .plain, 0x3f800000⟩
  | .ISP_CTXn_CCMi => ⟨0x9000080, [(0x10000, 32), (0x4, 15)], 0xffffffff, 0, 0, 0, 0, 0, .plain, 0⟩
  | .ISP_CTXn_MVSc => ⟨0x90000c0, [(0x10000, 32), (0x8, 4)], 0xffffffff, 0, 0, 0, 0, 0, .plain, 0x3f800000⟩
  | .ISP_CTXn_MVOc => ⟨0x90000c4, [(0x10000, 32), (0x8, 4)], 0xffffffff, 0, 0, 0, 0, 0, .plain, 0⟩
  | .ISP_CTXn_KNEEk_X => ⟨0x9000100, [(0x10000, 32), (0x8, 32)], 0xffffff, 0, 0, 0, 0, 0, .plain, 0⟩
  | .ISP_CTXn_KNEEk_Y => ⟨0x9000104, [(0x10000, 32), (0x8, 32)], 0xffffff, 0, 0, 0, 0, 0, .plain, 0⟩
  | .ISP_CTXn_OUTo_CFG => ⟨0x9000200, [(0x10000, 32), (0x20, 3)], 0xffff00ff, 0, 0, 0, 0, 0, .plain, 0⟩
  | .ISP_CTXn_OUTo_SIZE => ⟨0x9000204, [(0x10000, 32), (0x20, 3)], 0xffffffff, 0, 0, 0, 0, 0, .plain, 0⟩
  | .ISP_CTXn_OUTo_CROPX => ⟨0x9000208, [(0x10000, 32), (0x20, 3)], 0xffffffff, 0, 0, 0, 0, 0, .plain, 0⟩
  | .ISP_CTXn_OUTo_CROPY => ⟨0x900020c, [(0x10000, 32), (0x20, 3)], 0xffffffff, 0, 0, 0, 0, 0, .plain, 0⟩
  | .ISP_CTXn_OUTo_BASE => ⟨0x9000210, [(0x10000, 32), (0x20, 3)], 0xffffffff, 0, 0, 0, 0, 0, .plain, 0⟩
  | .ISP_CTXn_TAPt_CFG => ⟨0x9000280, [(0x10000, 32), (0x8, 4)], 0xffff001f, 0, 0, 0, 0, 0, .plain, 0⟩
  | .ISP_CTXn_TAPt_BASE => ⟨0x9000284, [(0x10000, 32), (0x8, 4)], 0xffffffff, 0, 0, 0, 0, 0, .plain, 0⟩
  | .ISP_CTXn_LUTi => ⟨0x9001000, [(0x10000, 32), (0x4, 257)], 0xffffffff, 0, 0, 0, 0, 0, .plain, 0⟩
  | .ISP_CTXn_LSCj => ⟨0x9002000, [(0x10000, 32), (0x4, 1536)], 0xffffffff, 0, 0, 0, 0, 0, .plain, 0x3c003c00⟩
  | .ISP_CTXn_LTMj => ⟨0x9004000, [(0x10000, 32), (0x4, 1536)], 0xffffffff, 0, 0, 0, 0, 0, .plain, 0x3c003c00⟩
  | .COD_COREk_CTRL => ⟨0xa000000, [(0x100, 3)], 0x3f01, 0, 0, 0, 0, 0, .plain, 0⟩
  | .COD_COREk_STATUS => ⟨0xa000004, [(0x100, 3)], 0, 0, 0, 0, 0, 0, .plain, 0⟩
  | .COD_COREk_JOB_LO => ⟨0xa000008, [(0x100, 3)], 0xffffffc0, 0, 0, 0, 0, 0, .lo, 0⟩
  | .COD_COREk_JOB_HI => ⟨0xa00000c, [(0x100, 3)], 0xffff, 0, 0, 0, 0, 0, .hi, 0⟩
  | .COD_COREk_GO => ⟨0xa000010, [(0x100, 3)], 0, 0, 0, 1, 0, 0, .plain, 0⟩
  | .COD_COREk_ERR => ⟨0xa000014, [(0x100, 3)], 0, 7, 0, 0, 0, 0, .plain, 0⟩
  | .VAT_ERRc => ⟨0x800000, [(0x200000, 4)], 0, 0, 0, 0, 0, 0xffffff00, .plain, 0⟩
  | .LPX_GCTRL => ⟨0x608000, [], 0x32, 0, 0, 1, 0, 0, .plain, 2⟩
  | .LPX_CHEN => ⟨0x608004, [], 0xffffffff, 0, 0, 0, 0, 0, .plain, 0xffffffff⟩
  | .LPX_GSTAT => ⟨0x608008, [], 0, 0, 0, 0, 0, 0, .plain, 0⟩
  | .LPX_CHFAIL => ⟨0x60800c, [], 0, 0, 0, 0, 0, 0, .plain, 0⟩
  | .LPX_ERRk => ⟨0x600000, [(0x10000, 8)], 0, 0, 0, 0, 0, 0xfffffff0, .plain, 0⟩
  | .LPX_REFk => ⟨0x600004, [(0x10000, 8)], 0, 0, 0, 0, 0, 0xffffff00, .plain, 0⟩
  | .MMU_ROOTc => ⟨0x500000, [(0x4, 64)], 0x87ffffff, 0, 0, 0, 0, 0, .plain, 0⟩
  | .MMU_INV_VA => ⟨0x501000, [], 0xffffffff, 0, 0, 0, 0, 0, .plain, 0⟩
  | .MMU_INV_CTL => ⟨0x501004, [], 0x3f9fff, 0, 0, 0x80000000, 0, 0, .plain, 0⟩
  | .MMU_FLOG_LO => ⟨0x501010, [], 0, 0, 0, 0, 0, 0, .plain, 0⟩
  | .MMU_FLOG_HI => ⟨0x501014, [], 0, 0x80000000, 0, 0, 0, 0, .plain, 0⟩
  | .FAB_SEALr_BASE => ⟨0x420000, [(0x10, 64)], 0xfffffff, 0, 0, 0, 0, 0, .plain, 0⟩
  | .FAB_SEALr_SIZE => ⟨0x420004, [(0x10, 64)], 0xfffffff, 0, 0, 0, 0, 0, .plain, 0⟩
  | .FAB_SEALr_CTRL => ⟨0x420008, [(0x10, 64)], 1, 4, 0, 0, 0, 0, .plain, 0⟩
  | .FAB_SEALr_CNT => ⟨0x42000c, [(0x10, 64)], 0, 0, 0, 0, 0, 0xffffffff, .plain, 0⟩
  | .FAB_BRN_ADDR => ⟨0x430000, [], 0xfffffff, 0, 0, 0, 0, 0, .plain, 0⟩
  | .FAB_BRN_CTL => ⟨0x430004, [], 0x7ffffff, 0x20000000, 0, 0x80000000, 0, 0, .plain, 0⟩
  | .SCH_CTRL => ⟨0x2400000, [(0x1000000, 4)], 0x7f00, 0, 5, 8, 0, 0, .plain, 0⟩
  | .SCH_STATUS => ⟨0x2400004, [(0x1000000, 4)], 0, 4, 0, 0, 0, 0, .plain, 0⟩
  | .NET_PORTp_CFG => ⟨0xb000000, [(0x1000, 3)], 0x3d, 0, 0, 0, 0, 0, .plain, 0⟩
  | .NET_PORTp_STAT => ⟨0xb000004, [(0x1000, 3)], 0, 0, 0, 0, 0, 0xffffff00, .plain, 0⟩
  | .NET_TCFG => ⟨0xb010000, [], 0x7ffd, 0, 0, 0, 0, 0, .plain, 0x30⟩
  | .NET_TSTAT => ⟨0xb010004, [], 0, 0, 0, 0, 0, 0, .plain, 0⟩
  | .NET_QBVp_CTRL => ⟨0xb000100, [(0x1000, 3)], 0xff01, 0, 0, 0, 0, 0, .plain, 0x100⟩
  | .NET_QBVp_CYCLE => ⟨0xb000104, [(0x1000, 3)], 0xffffffff, 0, 0, 0, 0, 0, .plain, 0xf4240⟩
  | .NET_QBVp_CHG_LO => ⟨0xb000108, [(0x1000, 3)], 0xffffffff, 0, 0, 0, 0, 0, .lo, 0⟩
  | .NET_QBVp_CHG_HI => ⟨0xb00010c, [(0x1000, 3)], 0xffffffff, 0, 0, 0, 0, 0, .hi, 0⟩
  | .NET_QBVp_GCLk => ⟨0xb000200, [(0x1000, 3), (0x4, 64)], 0xffffffff, 0, 0, 0, 0, 0, .plain, 0xff000000⟩
  | .NET_SHAPEp_c => ⟨0xb000010, [(0x1000, 3), (0x4, 2)], 0x1ffff, 0, 0, 0, 0, 0, .plain, 0⟩
  | .NET_CB_STAT => ⟨0xb020008, [], 0, 0, 0, 0, 0, 0xffffffff, .plain, 0⟩
  | .NET_PEERi_ADDRj => ⟨0xb030000, [(0x20, 256), (0x4, 4)], 0xffffffff, 0, 0, 0, 0, 0, .plain, 0⟩
  | .NET_PEERi_CFG => ⟨0xb030010, [(0x20, 256)], 0xffff00f3, 0, 0, 0, 0, 0, .plain, 0⟩
  | .NET_VWP_CFG => ⟨0xb020000, [], 0xffff0003, 0, 0, 0, 0, 0, .plain, 0xba5e0000⟩
  | .NET_VWP_STAT => ⟨0xb020004, [], 0, 0, 0, 0, 0, 0xffff0000, .plain, 0⟩
  | .NET_TXq_BASE => ⟨0xb040000, [(0x10, 4)], 0xffffffff, 0, 0, 0, 0, 0, .plain, 0⟩
  | .NET_TXq_CFG => ⟨0xb040004, [(0x10, 4)], 0x870f3fff, 0, 0, 0, 0, 0, .plain, 0⟩
  | .NET_TXq_HEAD => ⟨0xb040008, [(0x10, 4)], 0, 0, 0, 0, 0, 0xffff0000, .plain, 0⟩
  | .PCI_CTRL => ⟨0xc000000, [], 7, 0, 0, 0, 0, 0, .plain, 0⟩
  | .PCI_STAT => ⟨0xc000004, [], 0, 0x180, 0, 0, 0, 0xffff0000, .plain, 0⟩
  | .PCI_CTO => ⟨0xc000008, [], 0xffff, 0, 0, 0, 0, 0, .plain, 0x3e8⟩
  | .SEC_BOOT => ⟨0x200000, [], 0, 0, 0, 0, 0, 0, .plain, 0⟩
  | .SEC_GATE => ⟨0x200004, [], 0, 0, 2, 0, 0, 0, .plain, 0⟩
  | .SEC_LC => ⟨0x200008, [], 0, 0x80000000, 0, 0x70, 0, 0, .plain, 0⟩
  | .SEC_MINVER_LO => ⟨0x200010, [], 0, 0, 0, 0, 0, 0, .plain, 0⟩
  | .SEC_MINVER_HI => ⟨0x200014, [], 0, 0, 0, 0, 0, 0, .plain, 0⟩
  | .SEC_FUSEADV => ⟨0x200018, [], 0, 0, 0, 0x7f, 0, 0, .plain, 0⟩
  | .SEC_KCMD => ⟨0x200100, [], 0, 0, 0, 0x3ffffc0, 0, 0, .plain, 0⟩
  | .SEC_APPg => ⟨0x200200, [(0x4, 2)], 0x7f, 0x40000, 0xc000, 0x10000, 0, 0, .plain, 0⟩
  | .SEC_MPUr_RANGE => ⟨0x201000, [(0x8, 8)], 0x1ff00ff, 0, 0, 0, 0, 0, .plain, 0⟩
  | .SEC_MPUr_CFG => ⟨0x201004, [(0x8, 8)], 0x3f, 0, 0x80000000, 0, 0, 0, .plain, 0⟩
  | .SEC_FWe_BASE => ⟨0x202000, [(0x10, 32)], 0xfffffff, 0, 0, 0, 0, 0, .plain, 0⟩
  | .SEC_FWe_LIMIT => ⟨0x202004, [(0x10, 32)], 0xfffffff, 0, 0, 0, 0, 0, .plain, 0⟩
  | .SEC_FWe_PERM => ⟨0x202008, [(0x10, 32)], 0x400003ff, 0, 0x80000000, 0, 0, 0, .plain, 0⟩
  | .PRS_CTRL => ⟨0x100000, [], 3, 0, 0, 0, 0, 0, .plain, 0⟩
  | .PRS_STATE => ⟨0x100004, [], 0, 0, 0, 0, 0, 0, .plain, 0⟩
  | .PRS_WLAT => ⟨0x100008, [], 0xffffff, 0, 0, 0, 0, 0, .plain, 0⟩
  | .PRS_PERM => ⟨0x10000c, [], 0xff, 0, 0, 0, 0, 0, .plain, 0⟩
  | .PRS_CAP => ⟨0x100010, [], 0xfff, 0, 0, 0, 0, 0, .plain, 0x7d0⟩
  | .PRS_FLOOR0 => ⟨0x100014, [], 0xfff0fff, 0, 0, 0, 0, 0, .plain, 0x7801e0⟩
  | .PRS_FLOOR1 => ⟨0x100018, [], 0x70fff, 0, 0, 0, 0, 0, .plain, 0x50⟩
  | .PRS_DOMd => ⟨0x100040, [(0x4, 7)], 0x1ff, 0, 0, 0, 0, 0, .plain, 0⟩
  | .PRS_OPk => ⟨0x100100, [(0x4, 16)], 0, 0, 0, 0, 0xffffffff, 0, .mw, 0⟩
  | .PRS_VFi => ⟨0x100180, [(0x4, 8)], 0, 0, 0, 0, 0, 0, .plain, 0⟩
  | .PRS_THERM => ⟨0x100200, [], 0xfff, 0, 0, 0, 0, 0, .plain, 0x373⟩
  | .PRS_TEMP => ⟨0x100204, [], 0, 0, 0, 0, 0, 0, .plain, 0⟩
  | .PRS_PWR0 => ⟨0x100210, [], 0, 0, 0, 0, 0, 0, .plain, 0⟩
  | .PRS_PWR1 => ⟨0x100214, [], 0, 0, 0, 0, 0, 0, .plain, 0⟩
  | .PRS_CNT0 => ⟨0x100220, [], 0, 0, 0, 0, 0, 0xffffffff, .plain, 0⟩
  | .PRS_CNT1 => ⟨0x100224, [], 0, 0, 0, 0, 0, 0xffffffff, .plain, 0⟩
  | .PRS_CNT2 => ⟨0x100228, [], 0, 0, 0, 0, 0, 0xffffffff, .plain, 0⟩
  | .PRS_CNT3 => ⟨0x10022c, [], 0, 0, 0, 0, 0, 0xffffffff, .plain, 0⟩
  | .PRS_WAKECFG => ⟨0x100300, [], 0x7777, 0, 0, 0, 0, 0, .plain, 0⟩
  | .PRS_WAKE => ⟨0x100304, [], 0, 0, 0, 0x1f, 0, 0, .plain, 0⟩
  | .MGT_CLSc => ⟨0xe000000, [(0x4, 16)], 3, 0, 0, 4, 0, 0, .plain, 0⟩
  | .MGT_ELOGk => ⟨0xe000100, [(0x4, 4)], 0, 0, 0, 0, 0, 0, .plain, 0⟩
  | .MGT_ELOG_CTL => ⟨0xe000110, [], 0, 0, 0, 0x80000000, 0, 0, .plain, 0⟩
  | .MGT_EOUT => ⟨0xe000080, [], 0x40000000, 0xffff, 0x80000000, 0, 0, 0, .plain, 0⟩
  | .MGT_WDGw => ⟨0xe000200, [(0x4, 7)], 0x300fffff, 0x40000000, 0, 0x80000000, 0, 0, .plain, 0⟩
  | .MGT_DLMONm => ⟨0xe000300, [(0x4, 8)], 0x80ff00ff, 0, 0, 0, 0, 0, .plain, 0⟩
  | .MGT_CMP_A => ⟨0xe000400, [], 0xffffffff, 0, 0, 0, 0, 0, .plain, 0⟩
  | .MGT_CMP_B => ⟨0xe000404, [], 0xffffffff, 0, 0, 0, 0, 0, .plain, 0⟩
  | .MGT_CMP_LEN => ⟨0xe000408, [], 0x1fffff, 0, 0, 0, 0, 0, .plain, 0⟩
  | .MGT_CMP_CTL => ⟨0xe00040c, [], 0xfff3fff, 0x20000000, 0, 0x80000000, 0, 0, .plain, 0⟩
  | .MGT_CMP_RES => ⟨0xe000410, [], 0, 0, 0, 0, 0, 0, .plain, 0⟩
  | .CLU_SPARE => ⟨0x2000200, [(0x1000000, 4)], 0x3f001f, 0x20000000, 0x80000000, 0, 0, 0, .plain, 0⟩
  | .VAT_RPRc_k => ⟨0x800100, [(0x200000, 4), (0x4, 256)], 0x3f, 0, 0x80000000, 0, 0, 0, .plain, 0⟩
  | .TILE_RPRk => ⟨0x2100500, [(0x1000000, 4), (0x10000, 34), (0x4, 16)], 0x800000ff, 0, 0, 0, 0, 0, .plain, 0⟩
  | .LPX_PPRk => ⟨0x600010, [(0x10000, 8)], 0xcffffff0, 0, 0, 0, 0, 0, .plain, 0⟩
  | .CTL_HARTOFF => ⟨0xd000000, [], 0xfff, 0, 0, 0, 0, 0, .plain, 0⟩
  | .GLB_RSTCAUSE => ⟨0x300, [], 0, 0, 0, 0, 0, 0, .plain, 0⟩
  | .GLB_RSTREQ => ⟨0x304, [], 0, 0, 0, 1, 0, 0, .plain, 0⟩
  | .GLB_PPS_LO => ⟨0x310, [], 0, 0, 0, 0, 0, 0, .plain, 0⟩
  | .GLB_PPS_HI => ⟨0x314, [], 0, 0, 0, 0, 0, 0, .plain, 0⟩

/-- The registers of block or window CLU. -/
def regsCLU : List Reg :=
    [.CLU_REMAPl, .CLU_SENDDROP, .CLU_HOOPh_FILL, .CLU_HOOPh_DRAIN, .CLU_HOOPh_CFG, .CLU_HOOPh_LOG, .CLU_HOOPh_TALLY, .CLU_SPARE]

/-- The registers of block or window GLB. -/
def regsGLB : List Reg :=
    [.GLB_ID, .GLB_REV, .GLB_CYCLES_LO, .GLB_CYCLES_HI, .GLB_SIZE0, .GLB_SIZE1, .GLB_SIZE2, .GLB_SIZE3, .GLB_SIZE4, .GLB_SIZE5, .GLB_RSTCAUSE,
   .GLB_RSTREQ, .GLB_PPS_LO, .GLB_PPS_HI]

/-- The registers of block or window SWP. -/
def regsSWP : List Reg :=
    [.SWP_CTRL, .SWP_PERIOD, .SWP_ORIGIN_LO, .SWP_ORIGIN_HI, .SWP_IDX, .SWP_JUMP, .SWP_STATUS, .SWP_NOW, .SWP_SWEEP_LO, .SWP_SWEEP_HI, .SWP_CNT0,
   .SWP_CNT1, .SWP_CNTCLR, .SWP_EVT, .SWP_MISS_LO, .SWP_MISS_HI, .SWP_MISS_POP, .SWP_QCFGq, .SWP_PTi_LO, .SWP_PTi_HI]

/-- The registers of block or window CLU_TILE. -/
def regsCLU_TILE : List Reg :=
    [.TILE_CTRL, .TILE_STATUS, .TILE_ARR, .TILE_CYCLES_LO, .TILE_CYCLES_HI, .TILE_CTXk_CFG, .TILE_CTXk_STATE, .TILE_CTXk_ENTRY_LO,
   .TILE_CTXk_ENTRY_HI, .TILE_CTXk_CMD, .TILE_CTXk_FAULT, .TILE_CTXk_FPC_LO, .TILE_CTXk_FPC_HI, .TILE_STALLc_LO, .TILE_STALLc_HI, .TILE_STALLCLR,
   .TILE_SFj_LO, .TILE_SFj_HI, .TILE_SFLD_LO, .TILE_SFLD_HI, .TILE_SFLD_CTL, .TILE_STATCTL, .TILE_STATj_SUM, .TILE_STATj_CNT, .TILE_JOB, .TILE_STRM_Q,
   .TILE_STRM_ERR, .TILE_GEN_OOB, .TILE_RPRk]

/-- The registers of block or window RNT. -/
def regsRNT : List Reg :=
    [.RNT_VALk, .RNT_ADDk, .RNT_CFGk, .RNT_WAITk]

/-- The registers of block or window FAB. -/
def regsFAB : List Reg :=
    [.FAB_WINw_BASE_LO, .FAB_WINw_BASE_HI, .FAB_WINw_LIMIT_LO, .FAB_WINw_LIMIT_HI, .FAB_WINw_CFG, .FAB_WINw_CTRL, .FAB_WINw_CNTS, .FAB_BARj,
   .FAB_BARj_STAT, .FAB_KILL, .FAB_KILL_PENDi, .FAB_TREGg, .FAB_CREGc, .FAB_CSELc, .FAB_REGMIS, .FAB_TLVLg, .FAB_CLVLc, .FAB_SEALr_BASE,
   .FAB_SEALr_SIZE, .FAB_SEALr_CTRL, .FAB_SEALr_CNT, .FAB_BRN_ADDR, .FAB_BRN_CTL]

/-- The registers of block or window CLU_ATT. -/
def regsCLU_ATT : List Reg :=
    [.ATT_CTRL, .ATT_STATUS, .ATT_PASS_LO, .ATT_PASS_HI, .ATT_GO, .ATT_CNT, .ATT_TFENCE, .ATT_ERR, .ATT_PACE, .ATT_LAST, .ATT_EPOCH, .ATT_XLAT]

/-- The registers of block or window PAD. -/
def regsPAD : List Reg :=
    [.PAD_FSYNC_CFG, .PAD_I3Cc_CTRL, .PAD_I3Cc_STAT, .PAD_I3Cc_DCMD, .PAD_I3Cc_DDATA, .PAD_I3Cc_WLe_A, .PAD_I3Cc_WLe_R, .PAD_I3Cc_WLe_D0,
   .PAD_I3Cc_WLe_D1]

/-- The registers of block or window ING. -/
def regsING : List Reg :=
    [.ING_PORTp_CFG, .ING_PORTp_STAT, .ING_PORTp_ERR, .ING_CTXn_SRC, .ING_CTXn_DT, .ING_CTXn_GEOM, .ING_CTXn_RING, .ING_CTXn_RBASE_LO,
   .ING_CTXn_RBASE_HI, .ING_CTXn_FILL, .ING_CTXn_CTRL, .ING_CTXn_WINk, .ING_CTXn_REC_LO, .ING_CTXn_REC_HI, .ING_CTXn_RECN, .ING_CTXn_FRAME,
   .ING_CTXn_CNT, .ING_CTXn_EMBj]

/-- The registers of block or window ISP. -/
def regsISP : List Reg :=
    [.ISP_CTXn_CTRL, .ISP_CTXn_LIN, .ISP_CTXn_FILT, .ISP_CTXn_STATUS, .ISP_CTXn_WS, .ISP_CTXn_STAT_BASE, .ISP_CTXn_STAT_CFG, .ISP_CTXn_EXPe_LVL,
   .ISP_CTXn_EXPe_GAIN, .ISP_CTXn_CCMi, .ISP_CTXn_MVSc, .ISP_CTXn_MVOc, .ISP_CTXn_KNEEk_X, .ISP_CTXn_KNEEk_Y, .ISP_CTXn_OUTo_CFG, .ISP_CTXn_OUTo_SIZE,
   .ISP_CTXn_OUTo_CROPX, .ISP_CTXn_OUTo_CROPY, .ISP_CTXn_OUTo_BASE, .ISP_CTXn_TAPt_CFG, .ISP_CTXn_TAPt_BASE, .ISP_CTXn_LUTi, .ISP_CTXn_LSCj,
   .ISP_CTXn_LTMj]

/-- The registers of block or window COD. -/
def regsCOD : List Reg :=
    [.COD_COREk_CTRL, .COD_COREk_STATUS, .COD_COREk_JOB_LO, .COD_COREk_JOB_HI, .COD_COREk_GO, .COD_COREk_ERR]

/-- The registers of block or window VAT. -/
def regsVAT : List Reg :=
    [.VAT_ERRc, .VAT_RPRc_k]

/-- The registers of block or window LPX. -/
def regsLPX : List Reg :=
    [.LPX_GCTRL, .LPX_CHEN, .LPX_GSTAT, .LPX_CHFAIL, .LPX_ERRk, .LPX_REFk, .LPX_PPRk]

/-- The registers of block or window MMU. -/
def regsMMU : List Reg :=
    [.MMU_ROOTc, .MMU_INV_VA, .MMU_INV_CTL, .MMU_FLOG_LO, .MMU_FLOG_HI]

/-- The registers of block or window CLU_SCH. -/
def regsCLU_SCH : List Reg :=
    [.SCH_CTRL, .SCH_STATUS]

/-- The registers of block or window NET. -/
def regsNET : List Reg :=
    [.NET_PORTp_CFG, .NET_PORTp_STAT, .NET_TCFG, .NET_TSTAT, .NET_QBVp_CTRL, .NET_QBVp_CYCLE, .NET_QBVp_CHG_LO, .NET_QBVp_CHG_HI, .NET_QBVp_GCLk,
   .NET_SHAPEp_c, .NET_CB_STAT, .NET_PEERi_ADDRj, .NET_PEERi_CFG, .NET_VWP_CFG, .NET_VWP_STAT, .NET_TXq_BASE, .NET_TXq_CFG, .NET_TXq_HEAD]

/-- The registers of block or window PCI. -/
def regsPCI : List Reg :=
    [.PCI_CTRL, .PCI_STAT, .PCI_CTO]

/-- The registers of block or window SEC. -/
def regsSEC : List Reg :=
    [.SEC_BOOT, .SEC_GATE, .SEC_LC, .SEC_MINVER_LO, .SEC_MINVER_HI, .SEC_FUSEADV, .SEC_KCMD, .SEC_APPg, .SEC_MPUr_RANGE, .SEC_MPUr_CFG, .SEC_FWe_BASE,
   .SEC_FWe_LIMIT, .SEC_FWe_PERM]

/-- The registers of block or window PRS. -/
def regsPRS : List Reg :=
    [.PRS_CTRL, .PRS_STATE, .PRS_WLAT, .PRS_PERM, .PRS_CAP, .PRS_FLOOR0, .PRS_FLOOR1, .PRS_DOMd, .PRS_OPk, .PRS_VFi, .PRS_THERM, .PRS_TEMP, .PRS_PWR0,
   .PRS_PWR1, .PRS_CNT0, .PRS_CNT1, .PRS_CNT2, .PRS_CNT3, .PRS_WAKECFG, .PRS_WAKE]

/-- The registers of block or window MGT. -/
def regsMGT : List Reg :=
    [.MGT_CLSc, .MGT_ELOGk, .MGT_ELOG_CTL, .MGT_EOUT, .MGT_WDGw, .MGT_DLMONm, .MGT_CMP_A, .MGT_CMP_B, .MGT_CMP_LEN, .MGT_CMP_CTL, .MGT_CMP_RES]

/-- The registers of block or window CTL. -/
def regsCTL : List Reg :=
    [.CTL_HARTOFF]
/-- Index `i` of `is` (0 where the list is shorter). -/
def nth (is : List Nat) (i : Nat) : Nat := is.getD i 0

/-- The address `base + sum of stride * index`. -/
def spread : List (Nat × Nat) → List Nat → Nat → Nat
  | (st, _) :: ds, i :: is, a => spread ds is (a + st * i)
  | _, _, a => a

/-- The physical address of register `r` with indices `is` (R48: block base plus offset). -/
def Reg.adr (r : Reg) (is : List Nat) : Nat := spread r.desc.dims is r.desc.base

/-- The indices whose strides lead from the first instance to offset `off`, if there are any. -/
def unspread : List (Nat × Nat) → Nat → Option (List Nat)
  | [], off => if off = 0 then some [] else none
  | (st, n) :: ds, off =>
    let i := off / st
    if i < n then (unspread ds (off - st * i)).map (i :: ·) else none

/-- The indices with which `a` is an instance of `r`. -/
def Reg.match? (r : Reg) (a : Nat) : Option (List Nat) :=
  if r.desc.base ≤ a then unspread r.desc.dims (a - r.desc.base) else none

/-- The registers whose window holds `a` (R45, R48, R49). -/
def regsNear (a : Nat) : List Reg :=
  if a < 0x100000 then regsGLB
  else if a < 0x200000 then regsPRS
  else if a < 0x300000 then regsSEC
  else if a < 0x400000 then regsSWP
  else if a < 0x500000 then regsFAB
  else if a < 0x600000 then regsMMU
  else if a < 0x680000 then regsLPX
  else if a < 0x800000 then []
  else if a < 0x1000000 then regsVAT
  else if a < 0x1040000 then regsRNT
  else if a < 0x2000000 then []
  else if a < 0x6000000 then
    let off := a % 0x1000000
    if off < 0x80000 then regsCLU
    else if off < 0x100000 then regsCLU_ATT
    else if off < 0x320000 then regsCLU_TILE
    else if off < 0x400000 then []
    else if off < 0x500000 then regsCLU_SCH
    else []
  else if a < 0x8000000 then []
  else if a < 0x9000000 then regsING
  else if a < 0xA000000 then regsISP
  else if a < 0xB000000 then regsCOD
  else if a < 0xC000000 then regsNET
  else if a < 0xD000000 then regsPCI
  else if a < 0xE000000 then regsCTL
  else if a < 0xF000000 then regsMGT
  else if a < 0x10000000 then regsPAD
  else []

/-- The first register of a list that has an instance at `a`. -/
def findReg : List Reg → Nat → Option (Reg × List Nat)
  | [], _ => none
  | r :: rs, a =>
    match r.match? a with
    | some is => some (r, is)
    | none => findReg rs a

/-- The register at a physical address of the control window, or none where no table lists one (R33, R44). -/
def regAt (a : Nat) : Option (Reg × List Nat) := findReg (regsNear a) a

/-- The reset values of PRS_OP0 to PRS_OP15 (table under R375). -/
def prsOpReset (k : Nat) : Nat :=
  [0x1E0E, 0x2212, 0x2616, 0x2A1A, 0x2E1E, 0x3222, 0x3626, 0x3828, 0x3A2A, 0x3C2C, 0x3F2E, 0x4230, 0x4632, 0x4C36, 0x563C, 0x5E40].getD k 0

/-- The reset actions of the error classes (class table of chapter 20); code 15 is reserved and has 0. -/
def mgtActReset (c : Nat) : Nat := [2, 2, 2, 1, 3, 3, 3, 3, 2, 3, 3, 2, 2, 3, 3, 0].getD c 0

/-- The reset value of an instance of a register. The fused curve PRS_VFi is a free value: the manual gives no fuse contents (log 6). -/
def Reg.resetAt (r : Reg) (is : List Nat) : Word :=
  match r with
  | .CLU_REMAPl => BitVec.ofNat 32 (nth is 1)
  | .ISP_CTXn_CCMi => if nth is 1 ∈ [0, 5, 10] then 0x3F800000 else 0
  | .SEC_FWe_LIMIT => if nth is 0 = 0 then 0x0FFFFFFF else 0
  | .SEC_FWe_PERM => if nth is 0 = 0 then 0x40000003 else 0
  | .PRS_DOMd => if nth is 0 < 4 then 0x0FF400F4 else 0x0FFF00FF
  | .PRS_OPk => BitVec.ofNat 32 (prsOpReset (nth is 0))
  | .PRS_VFi => Config.vfCurve (nth is 0)
  | .MGT_CLSc => BitVec.ofNat 32 (mgtActReset (nth is 0))
  | _ => BitVec.ofNat 32 r.desc.reset

/-- What a register address reads as while the register store lists nothing for it. -/
def regReset (a : Nat) : Word :=
  match regAt a with
  | some (r, is) => r.resetAt is
  | none => 0

end Sys2Proof.Machine
end

