-- ==== Sys2Proof/Machine/Tab.lean ====
section
/-! DEFINITION. Sparse tables and memories: lists of (key, value) pairs with strictly rising keys. -/

namespace Sys2Proof.Machine

/-- A sparse table: (key, value) pairs with strictly rising keys. What an unlisted key holds is the reader's argument. -/
structure Tab (α : Type) where
  entries : List (Nat × α)
  deriving DecidableEq, Repr

/-- The empty table. -/
def Tab.empty {α : Type} : Tab α := ⟨[]⟩

/-- The value listed for `k`. -/
def lookupKey {α : Type} : List (Nat × α) → Nat → Option α
  | [], _ => none
  | (a, v) :: es, k => if a = k then some v else lookupKey es k

/-- The list with `v` at `k`, in place of what stood there. -/
def insertKey {α : Type} (k : Nat) (v : α) : List (Nat × α) → List (Nat × α)
  | [] => [(k, v)]
  | (a, w) :: es =>
    if k < a then (k, v) :: (a, w) :: es
    else if a = k then (k, v) :: es
    else (a, w) :: insertKey k v es

/-- The list without `k`. -/
def eraseKey {α : Type} (k : Nat) : List (Nat × α) → List (Nat × α)
  | [] => []
  | (a, w) :: es => if a = k then es else (a, w) :: eraseKey k es

def Tab.find {α : Type} (t : Tab α) (k : Nat) : Option α := lookupKey t.entries k

/-- The value at `k`, where `d` is what an unlisted key holds. -/
def Tab.get {α : Type} (t : Tab α) (d : α) (k : Nat) : α := (t.find k).getD d

def Tab.put {α : Type} (t : Tab α) (k : Nat) (v : α) : Tab α := ⟨insertKey k v t.entries⟩

def Tab.erase {α : Type} (t : Tab α) (k : Nat) : Tab α := ⟨eraseKey k t.entries⟩

/-- Writes `v` at `k` in the canonical form that lists no value equal to the default `d`. -/
def Tab.set {α : Type} [DecidableEq α] (t : Tab α) (d : α) (k : Nat) (v : α) : Tab α :=
  if v = d then t.erase k else t.put k v

/-- The keys rise strictly. -/
def risingFrom {α : Type} : Nat → List (Nat × α) → Bool
  | _, [] => true
  | b, (a, _) :: es => decide (b ≤ a) && risingFrom (a + 1) es

/-- The table's form holds: its keys rise strictly. -/
def Tab.wf {α : Type} (t : Tab α) : Bool := risingFrom 0 t.entries

/-- A memory: (address, byte) pairs. An unlisted address reads as `Mem.blank` (log 1). -/
structure Mem where
  cells : List Host.Cell
  deriving DecidableEq, Repr

/-- What a byte that nothing has written reads as: zero (DESIGN CHOICE, log 1). -/
def Mem.blank : Byte := 0

/-- The canonical form: addresses strictly rising, no entry equal to what an unlisted address reads as. -/
def Mem.wf (m : Mem) : Bool := risingFrom 0 m.cells && m.cells.all (fun c => decide (c.2 ≠ Mem.blank))

def Mem.rd (m : Mem) (a : Nat) : Byte := (lookupKey m.cells a).getD Mem.blank

def Mem.wr (m : Mem) (a : Nat) (b : Byte) : Mem :=
  if b = Mem.blank then ⟨eraseKey a m.cells⟩ else ⟨insertKey a b m.cells⟩

/-- `n` bytes from `a` upward. -/
def Mem.rdBytes (m : Mem) (a : Nat) : Nat → List Byte
  | 0 => []
  | n + 1 => m.rd a :: m.rdBytes (a + 1) n

/-- The bytes `bs` from `a` upward. -/
def Mem.wrBytes (m : Mem) (a : Nat) : List Byte → Mem
  | [] => m
  | b :: bs => (m.wr a b).wrBytes (a + 1) bs

/-- The listed cells of `a .. a + n - 1` removed: the range reads as `Mem.blank`. -/
def Mem.zero (m : Mem) (a n : Nat) : Mem := ⟨m.cells.filter (fun c => !(decide (a ≤ c.1) && decide (c.1 < a + n)))⟩

/-- A little-endian list of bytes as a number (R7). -/
def leNat : List Byte → Nat
  | [] => 0
  | b :: bs => b.toNat + 256 * leNat bs

/-- The `n` low bytes of `v`, least significant first (R7). -/
def leBytes : Nat → Nat → List Byte
  | 0, _ => []
  | n + 1, v => BitVec.ofNat 8 v :: leBytes n (v / 256)

/-- A big-endian list of bytes as a number. -/
def beNat (bs : List Byte) : Nat := leNat bs.reverse

/-- The `n` low bytes of `v`, most significant first. -/
def beBytes (n v : Nat) : List Byte := (leBytes n v).reverse

/-- `n` bytes of memory at `a` as one little-endian number. -/
def Mem.rdLE (m : Mem) (a n : Nat) : Nat := leNat (m.rdBytes a n)

def Mem.wrLE (m : Mem) (a n v : Nat) : Mem := m.wrBytes a (leBytes n v)

end Sys2Proof.Machine
end

