-- ==== Sys2Proof/Machine/State.lean ====
section
/-! DEFINITION. The state of the block as plain data: everything the manual gives the machine, the queue of waiting commands, and the state after reset.
Registers that hold nothing but what is written to them, or that only count, stand in the register store `regs` under their addresses;
registers that show the state of a unit are computed from that unit's structure when they are read. -/

namespace Sys2Proof.Machine
open Sys2Proof

/-- No command of this block ends in a fault: the manual gives every one of them an effect or says that it has none. This one constructor is for a step that
meets a command outside the operating limits of R4, where no statement of the manual holds; a stop there is safe. -/
inductive Fault where
  /-- Raised by BROWN_OUT when a supply leaves the band within which the manual makes statements (R4, R417). Safe: the model stops where the device goes on. -/
  | outsideLimits
  deriving DecidableEq, Repr

/-- Why the model has no meaning for a command. -/
inductive Refusal where
  /-- Raised by `exec` for a command that has no meaning yet, under the command's mnemonic. Safe: nothing is claimed about it. -/
  | notModelled (mnemonic : String)
  deriving DecidableEq, Repr

/-! ### The sweep unit (chapter 03) -/

/-- SWP_STATUS.STATE. -/
inductive SweepSt where
  | idle | acquire | locked | slew | holdover
  deriving DecidableEq, Repr

/-- A phase-table entry that has been selected and waits for its effect: index, the entry's LO and HI, the sweep and phase it fires at,
and the sweep cycle of its effect under R67. -/
structure Due where
  idx : Nat
  lo : Word
  hi : Word
  sweep : Nat
  phase : Nat
  eff : Nat
  /-- its effect waits for a domain that is not in RUN (R393) -/
  held : Bool
  deriving DecidableEq, Repr

/-- A released and incomplete job in the deadline store: its JID, queue, tag and deadline point (R68, R71); `missed` under FLAG. -/
structure DlEnt where
  jid : Nat
  queue : Nat
  tag : Nat
  sweep : Nat
  phase : Nat
  missed : Bool
  deriving DecidableEq, Repr

/-- An entry that a relock or a wrap has left to fire: index, LO and HI, sweep and phase (R63, R67). -/
structure Left where
  idx : Nat
  lo : Word
  hi : Word
  sweep : Nat
  phase : Nat
  deriving DecidableEq, Repr

/-- A record of the miss FIFO (SWP_MISS_LO and SWP_MISS_HI). -/
structure MissRec where
  acted : Nat
  queue : Nat
  phase : Nat
  tag : Nat
  sweep : Nat
  deriving DecidableEq, Repr

/-- The sweep unit beside its registers. Positions are in units of 2^-16 phase units (R56); `rem` and `tgtRem` carry what the rate leaves over, in units of 1/rate (log 12). -/
structure Sweep where
  st : SweepSt
  /-- the phase has been started since EN was set -/
  running : Bool
  pos : Nat
  rem : Nat
  count : Nat
  /-- the period, in ns, that gives the nominal rate; kept in HOLDOVER -/
  rate : Nat
  /-- SYNC_IDX mode: the target position -/
  tgt : Nat
  tgtRem : Nat
  /-- SYNC_IDX mode: time of the last accepted and of the last candidate pulse, the last accepted interval, the intervals of the rejected run -/
  lastAcc : Option Nat
  lastCand : Option Nat
  lastI : Option Nat
  rejRun : List Nat
  wraps : Nat
  /-- an accepted pulse began the sweep that runs -/
  pulseSeen : Bool
  fired : List Nat
  /-- entries whose PHASE was behind the running phase when they were committed or when the sweep began (R65, R74) -/
  late : List Nat
  /-- entries to be selected before those of the running sweep -/
  left : List Left
  due : List Due
  /-- sweep cycles since PORST_N -/
  cycle : Nat
  store : List DlEnt
  miss : List MissRec
  deriving DecidableEq, Repr

def Sweep.zero : Sweep := ⟨.idle, false, 0, 0, 0, 100000000, 0, 0, none, none, none, [], 0, false, [], [], [], [], 0, [], []⟩

/-! ### The tile (chapters 04 to 10) -/

/-- The Ralok mnemonics (R104). -/
inductive Mn where
  | ADD | SUB | AND | OR | XOR | SHL | SHR | LDN | STN | BR | BRC | LOOP | CALL | RET | CSRRD | CSRWR | YIELD | HALT
  | SOPEN | SIDX | SBLK | SLAND | SEND | RNADD | RNSET | RNWAIT | BAR | FENCE | MSEST
  | VADD | VSUB | VMUL | VFMA | VMAX | VMIN | VEXP | VRCP | VRSQ | VCVT | VQNT | VDQNT | VRED | VPERM | VSEL | VCMP
  | MLDI | MSTW | MDRN | MPART | MCLR
  deriving DecidableEq, Repr

/-- The operand area of an instruction word, by format (R101). -/
inductive Opnd where
  | sa (f : SA) | sm (f : SM) | sb (f : SB) | sc (f : SC) | sn
  | ts (f : TS) | tx (f : TX) | tr (f : TR) | tb (f : TB) | vr (f : VR) | mx (f : MX)
  deriving DecidableEq, Repr

/-- One instruction word of a bundle: mnemonic, guard, operands. -/
structure RWord where
  mn : Mn
  g : Guard
  f : Opnd
  deriving DecidableEq, Repr

/-- The states of a task context (R85). -/
inductive CtxSt where
  | idle | ready | run | wait | park | halted | fault
  deriving DecidableEq, Repr

/-- What an issued instruction still has to write at its latency point (R106, R121, R139, R161). -/
inductive Dst where
  | s (i : Nat) (v : DWord)
  | a (i : Nat) (v : DWord)
  | v (i : Nat) (mask : BitVec 64) (lanes : List Word)
  | p (i : Nat) (mask : BitVec 64) (bits : BitVec 64)
  | row (addr w : Nat) (mask : BitVec 64) (lanes : List Word)
  | flags (bits : Nat)
  | sample (ch : Nat) (r : Nat)
  deriving DecidableEq, Repr

/-- A write that lands at tile clock `due`. -/
structure PendWr where
  due : Nat
  /-- the issue clock of a V-slot instruction: its writes move together when its row destination loses its bank (R139) -/
  vi : Option Nat
  dst : Dst
  deriving DecidableEq, Repr

/-- A loop stack entry (R125). -/
structure LoopEnt where
  start : Nat
  fin : Nat
  count : Nat
  deriving DecidableEq, Repr

/-- A stream descriptor as a slot holds it (R189), BASE already increased by SOPEN. -/
structure Desc where
  base : Nat
  ctl : Nat
  step : Nat
  ibase : Nat
  icount : Nat
  gen : List Byte
  deriving DecidableEq, Repr

/-- How far a BAR has come: not begun, its arrival sent, its completion received (R134). -/
inductive BarSt where
  | no | sent | woken
  deriving DecidableEq, Repr

/-- A task context (R85, R105). -/
structure Ctx where
  st : CtxSt
  pc : Nat
  s : Tab DWord
  a : Tab DWord
  v : Tab (List Word)
  p : Tab DWord
  d : Tab Desc
  awrap : Tab DWord
  fflags : Nat
  /-- flags set in this tile clock: a W1C write of the same cycle leaves them set (R126) -/
  newFl : Nat
  loops : List LoopEnt
  rets : List Nat
  /-- register writes on their way (R106) -/
  pend : List PendWr
  /-- the bundle that a WAIT or PARK holds, as decoded -/
  held : Option (List RWord)
  /-- an RNWAIT's threshold has been met since the context parked (R131) -/
  woken : Bool
  bar : BarSt
  /-- the old value of an RNADD or RNSET has not come back yet (R131) -/
  oldWait : Bool
  /-- the end bundle that a LOOP of 0 must fetch to find its length (R125) -/
  skip : Option Nat
  /-- the line (device virtual address) that an instruction-cache miss waits for (R118) -/
  miss : Option Nat
  /-- the fetch of the bundle at this address failed with this fault code (R114) -/
  ffail : Option (Nat × Nat)
  deriving DecidableEq, Repr

def Ctx.zero : Ctx :=
  ⟨.idle, 0, .empty, .empty, .empty, .empty, .empty, .empty, 0, 0, [], [], [], none, false, .no, false, none, none, none⟩

/-- A slice's owner and mode (R79, R87); `rel` is the tile clock from which the four release cycles run, `gone` tells that an MPART released it. -/
structure Slice where
  owner : Option Nat
  mode : Nat
  releasing : Bool
  rel : Nat
  gone : Bool
  deriving DecidableEq, Repr

/-- A stationary set of a slice: recorded FMT, input zero point, shared scale, and its bytes by row of 256 (R77, R142). -/
structure StatSet where
  fmt : Option Nat
  zx : Int
  scale : Int
  rows : Tab (List Byte)
  deriving DecidableEq, Repr

/-- An accumulator bank of a slice: its type and its entries under m * 64 + c (R80). -/
structure Bank where
  fp : Bool
  ent : Tab Word
  deriving DecidableEq, Repr

/-- A row on its way from the drainer to the scratchpad (R144). -/
structure OutRow where
  due : Nat
  addr : Nat
  bytes : List Byte
  deriving DecidableEq, Repr

/-- The progress of a matrix instruction that runs on its engine (R82 to R84). -/
structure MRun where
  start : Nat
  /-- clocks done -/
  el : Nat
  /-- rows read from the scratchpad -/
  rows : Nat
  /-- bytes read and not yet consumed -/
  buf : List Byte
  /-- MSTW steps done -/
  step : Nat
  sf : DWord
  outs : List OutRow
  msat : Bool
  /-- the clock after the occupancy, once known -/
  occEnd : Option Nat
  deriving DecidableEq, Repr

/-- A matrix instruction from issue to its latency point (R82). -/
structure MEnt where
  id : Nat
  ctx : Nat
  pc : Nat
  mn : Mn
  f : MX
  addr : Nat
  iss : Nat
  run : Option MRun
  deriving DecidableEq, Repr

/-- A statistics channel (R161). -/
structure StatCh where
  sum : Nat
  cnt : Nat
  en : Bool
  deriving DecidableEq, Repr

/-- An instruction-cache line (R118). -/
structure ILine where
  mctx : Nat
  va : Nat
  pa : Nat
  bytes : List Byte
  /-- 64-byte blocks of the line that came poisoned -/
  bad : List Nat
  deriving DecidableEq, Repr

/-- A translation as a translation buffer holds it (R298, R299): MMU context, first virtual and physical address, size, permissions. -/
structure Tlb where
  mctx : Nat
  va : Nat
  pa : Nat
  size : Nat
  r : Bool
  w : Bool
  x : Bool
  deriving DecidableEq, Repr

/-- Who waits for a walk in a tile: a stream queue, an instruction fetch, the scale loader (R299). -/
inductive WalkFor where
  | stream (k : Nat) | ifetch (k : Nat) | scale
  deriving DecidableEq, Repr

/-- A walk on its way. -/
structure Walk where
  who : WalkFor
  mctx : Nat
  va : Nat
  deriving DecidableEq, Repr

/-- One contiguous piece: scratchpad byte address, physical address, length. -/
structure Seg where
  sp : Nat
  pa : Nat
  len : Nat
  deriving DecidableEq, Repr

/-- A stream request (R191 to R194). -/
structure Req where
  id : Nat
  ctx : Nat
  /-- address of the bundle that issued it -/
  pc : Nat
  mctx : Nat
  d : Desc
  addr : Nat
  c : Nat
  f : Nat
  iss : Nat
  /-- index entries fetched, by entry number -/
  idx : Tab Nat
  /-- entries whose index fetch failed or came poisoned -/
  bad : List Nat
  /-- next index entry to ask for -/
  nextIdx : Nat
  /-- next byte of the request to send -/
  next : Nat
  /-- groups of pieces formed and not yet sent, one per memory (R194) -/
  plan : List (List Seg)
  /-- sentinel pieces that wait for the 16th clock (R195) -/
  fills : List Seg
  /-- bytes landed, by row -/
  landed : Tab Nat
  /-- rows in which a piece of this request has landed poisoned -/
  badRows : List Nat
  /-- bytes that were discarded before they were sent: address and length (R197) -/
  cut : List (Nat × Nat)
  /-- rows that hold discarded bytes and wait for a sent fetch (R197) -/
  disc : List Nat
  /-- pages whose walk failed -/
  failed : List Nat
  /-- a bucket has lacked tokens since issue (R200) -/
  starved : Bool
  /-- still in its queue -/
  queued : Bool
  deriving DecidableEq, Repr

/-- What a fetch brings or takes. -/
inductive FetchKind where
  | index (first count : Nat) | data | scale (first : Nat)
  deriving DecidableEq, Repr

/-- A fetch or write in flight (R194). -/
structure Fetch where
  req : Nat
  ctx : Nat
  write : Bool
  kind : FetchKind
  segs : List Seg
  /-- bytes of a write, read from the scratchpad when it was sent -/
  bytes : List Byte
  /-- the source bytes came from poisoned rows -/
  poison : Bool
  fail : Bool
  deriving DecidableEq, Repr

/-- A SEND from issue to its last row (R130). -/
structure SendJob where
  ctx : Nat
  jid : Nat
  src : Nat
  tgt : Nat
  dst : Nat
  left : Nat
  cnt : Nat
  iss : Nat
  deriving DecidableEq, Repr

/-- A scale load in progress (R152). -/
structure ScaleLoad where
  mctx : Nat
  va : Nat
  first : Nat
  count : Nat
  sent : Nat
  done : Nat
  failed : List Nat
  deriving DecidableEq, Repr

/-- A row that lands as poisoned zeros because its request was discarded (R197). -/
structure DiscRow where
  row : Nat
  clk : Nat
  req : Nat
  deriving DecidableEq, Repr

/-- A tile slot (R75). -/
structure Tile where
  /-- tile clocks while EN was 1 (TILE_CYCLES) -/
  clk : Nat
  ready : Bool
  brining : Bool
  cur : Nat
  /-- the context that issues without a further switch cycle; none before the first issue (R86) -/
  sel : Option Nat
  /-- the switch cycle to `sel` has been spent and `sel` has not issued since -/
  turn : Bool
  ctx : Tab Ctx
  slices : Tab Slice
  sets : Tab StatSet
  banks : Tab Bank
  mq : List MEnt
  stat : Tab StatCh
  samples : List (Nat × Nat)
  /-- clocks and channels whose samples are dropped after an MSEST with CLR (R437) -/
  drop : List (Nat × Nat)
  /-- rows whose landing flag is clear (R81) -/
  unlanded : List Nat
  /-- rows marked poisoned (R196) -/
  poison : List Nat
  icache : List ILine
  tlb : List Tlb
  walks : List Walk
  reqs : List Req
  fetches : List Fetch
  sends : List SendJob
  load : Option ScaleLoad
  disc : List DiscRow
  rrq : Nat
  /-- the next number for a queue entry or a stream request -/
  nid : Nat
  /-- banks that the array feeder and drainer use in this clock (R92) -/
  rdBanks : List Nat
  wrBanks : List Nat
  /-- TILE_CTXk_CMD is ignored from step 2 of a kill to step 7 (R183) -/
  killed : Bool
  /-- writes of TILE_CTRL.EN = 1 seen since the last deassertion of PORST_N or wake from CAVE -/
  everOn : Bool
  deriving DecidableEq, Repr

def Tile.zero : Tile :=
  ⟨0, false, false, 0, none, false, .empty, .empty, .empty, .empty, [], .empty, [], [], [], [], [], [], [], [], [], [], none, [], 0, 0, [], [], false, false⟩

/-! ### Counters, windows, hoops, barriers, kills (chapter 08), seals, brine engine, MMU (chapter 15) -/

/-- An operation on a counter (R131, R170). -/
inductive CtrOp where
  | add (v : Nat) | set (v : Nat)
  deriving DecidableEq, Repr

/-- A counter operation between issue and effect. `order` is its initiator's place in R132 and R170; `back` is the context and register that wait for the old value. -/
structure CtrMsg where
  k : Nat
  op : CtrOp
  order : Nat
  from_ : Option (Nat × Nat)
  back : Option (Nat × Nat × Nat)
  deriving DecidableEq, Repr

/-- An old value on its way back to `s[rv]` of a context (R131). -/
structure OldVal where
  tile : Nat
  ctx : Nat
  rv : Nat
  val : Nat
  deriving DecidableEq, Repr

/-- A BAR arrival on its way to the barrier unit (R182). -/
structure BarMsg where
  jid : Nat
  tile : Nat
  ctx : Nat
  deriving DecidableEq, Repr

/-- The bases of a hoop audit record, taken when it was armed (R177). -/
structure Hoop where
  f0 : Nat
  d0 : Nat
  deriving DecidableEq, Repr

/-- A running kill (R183). -/
structure KillRun where
  jid : Nat
  held : Bool
  deriving DecidableEq, Repr

/-- A sealed region beside its registers (R302, R305). -/
structure SealSt where
  gen : Nat
  tagging : Bool
  unsealing : Bool
  deriving DecidableEq, Repr

/-- A queued request of the brine engine (R307). -/
structure BrineReq where
  page : Nat
  count : Nat
  cnt : Nat
  deriving DecidableEq, Repr

/-- The FAB, RNT and MMU blocks beside their registers. -/
structure Fab where
  /-- counter operations between issue and effect, oldest first -/
  ops : List CtrMsg
  olds : List OldVal
  bars : List BarMsg
  hoops : Tab Hoop
  /-- hoop records whose barrier has completed: cluster, record -/
  hoopLogs : List (Nat × Nat)
  killPend : List Nat
  kill : Option KillRun
  /-- windows with a hold request whose HELD has not been set yet need no entry; HELD bits of windows -/
  winHeld : List Nat
  seals : Tab SealSt
  brine : List BrineReq
  /-- an MMU invalidation in progress (R300) -/
  inv : Bool
  /-- the channels that the last INIT read as enabled (R293) -/
  lpxEn : Nat
  /-- RATE was 1 at the last INIT (R434) -/
  lpxFast : Bool
  /-- refresh debts by channel (R296) -/
  debt : Tab Int
  /-- scrub steps since the last whole pass, by cluster (R290) -/
  scrub : Tab Nat
  deriving DecidableEq, Repr

def Fab.zero : Fab := ⟨[], [], [], .empty, [], [], none, [], .empty, [], false, 0, false, .empty, .empty⟩

/-! ### NET and PCI (chapter 17) -/

/-- NET_TSTAT.STATE (R336). -/
inductive TbSt where
  | disabled | acquire | sync | holdover
  deriving DecidableEq, Repr

/-- An accepted VWP datagram that has not been applied yet: port and length of its frame, peer, payload (R344). -/
structure RxMsg where
  port : Nat
  len : Nat
  peer : Option Nat
  payload : List Byte
  deriving DecidableEq, Repr

/-- The vector recovery function of a CB peer (R341): highest sequence number accepted, numbers seen within the history, next frame accepted as it comes. -/
structure Recov where
  seq : Nat
  hist : List Nat
  any : Bool
  deriving DecidableEq, Repr

def Recov.zero : Recov := ⟨0, [], true⟩

/-- A gate list with its cycle time: masks and intervals (R338). -/
structure GateList where
  ents : List (Nat × Nat)
  cycle : Nat
  deriving DecidableEq, Repr

/-- The list that is operational at reset: one entry that opens every class (table of NET_QBVp_GCLk). -/
def GateList.reset : GateList := ⟨[(0xFF, 0)], 1000000⟩

/-- The gates of a port: operational list, entry in force, administrative list with the gPTP time at which it becomes operational (R337, R338). -/
structure Qbv where
  oper : GateList
  idx : Nat
  adm : Option (GateList × Nat)
  deriving DecidableEq, Repr

def Qbv.zero : Qbv := ⟨.reset, 0, none⟩

/-- A transmit entry the engine has taken; the read bytes that have come back, as (offset from the first, length) (R345, R346). -/
structure TxEnt where
  op : Nat
  peer : Nat
  win : Nat
  len : Nat
  remote : Nat
  loc : Nat
  got : List (Nat × Nat)
  deriving DecidableEq, Repr

/-- A transmit ring beside its registers: SEQ last taken, entry in progress. -/
structure TxRing where
  seq : Nat
  ent : Option TxEnt
  deriving DecidableEq, Repr

def TxRing.zero : TxRing := ⟨0, none⟩

/-- The NET and PCI blocks beside their registers. -/
structure Net where
  tb : TbSt
  /-- gPTP time in ns -/
  time : Nat
  /-- consecutive Sync messages with a small offset (R336) -/
  goods : Nat
  /-- no Sync message has come since HOLDOVER began -/
  first : Bool
  rx : List RxMsg
  recov : Tab Recov
  qbv : Tab Qbv
  rings : Tab TxRing
  /-- replies to VWP READs that wait for the output gate; the last reply handed to a port -/
  replies : List (List Byte)
  lastReply : List Byte
  /-- the last completion of an inbound PCIe read; none is Unsupported Request (R347) -/
  cpl : Option (List Byte)
  /-- MODE as read when PCI_CTRL.EN was set: root port -/
  root : Bool
  /-- the link does not train until EN is cleared (R439) -/
  dead : Bool
  /-- the IDE stream is in its insecure state (R348) -/
  insecure : Bool
  deriving DecidableEq, Repr

def Net.zero : Net := ⟨.disabled, 0, 0, false, [], .empty, .empty, .empty, [], [], none, false, false, false⟩

/-! ### Attention engines (chapter 11) -/

/-- A sequence of a running pass, from the snapshot of its lengths-table entry (R229, R230). -/
structure AttSeq where
  /-- a status the snapshot decides, 0 while none does (R232) -/
  code : Nat
  len : Nat
  npg : Nat
  wheel : Nat
  /-- number of its first item in the pass, and of its items (R231, R235) -/
  item0 : Nat
  items : Nat
  xlat : Bool
  poison : Bool
  merged : Bool
  deriving DecidableEq, Repr

/-- A running pass: its descriptor, its sequences, its translation buffer (least recently used first) and the wheel lines read,
under sequence * 2^41 + address / 128. -/
structure AttRun where
  desc : List Byte
  seqs : List AttSeq
  items : Nat
  tlb : List Tlb
  preload : Nat
  misses : Nat
  lines : Tab (List Byte)
  /-- BUCKET mode: items started, and one more when the last has ended -/
  started : Nat
  ovr : Nat
  deriving DecidableEq, Repr

/-- An attention engine beside its registers. -/
structure Att where
  /-- descriptor addresses of the waiting passes -/
  queue : List Nat
  /-- pending translation fences -/
  fences : Nat
  run : Option AttRun
  deriving DecidableEq, Repr

def Att.zero : Att := ⟨[], 0, none⟩

/-! ### Camera ingest and image pipeline (chapters 12 and 13) -/

/-- A packet in a port's buffer, routed to a context: kind, payload, whether its CRC failed, when its header was decoded. -/
structure IngPkt where
  ctx : Nat
  kind : CsiKind
  data : List Nat
  bytes : Nat
  crcBad : Bool
  sweep : Nat
  phase : Nat
  cycle : Nat
  /-- status bits that later packets of the frame have set before it opens -/
  fl : Nat
  deriving DecidableEq, Repr

/-- A CSI-2 port: its buffer, lock lost until the next stop state, SYNC and STOP of its status register. -/
structure CsiPort where
  buf : List IngPkt
  lost : Bool
  sync : Bool
  stop : Bool
  deriving DecidableEq, Repr

def CsiPort.zero : CsiPort := ⟨[], false, false, false⟩

/-- The tag of a settings epoch: number, order of opening, expected value (R274, R275). -/
structure EpochTag where
  num : Nat
  ord : Nat
  x : Nat
  deriving DecidableEq, Repr

def EpochTag.zero : EpochTag := ⟨0, 0, 0⟩

/-- An epoch that waits for its target: frame starts still to come, cycle it opened in. -/
structure EpochWait where
  tag : EpochTag
  left : Nat
  cycle : Nat
  deriving DecidableEq, Repr

/-- One output's fields, as read at the start of a frame's first strip (R266). -/
structure OutCfg where
  cfg : Nat
  size : Nat
  cropx : Nat
  cropy : Nat
  base : Nat
  conflict : Bool
  deriving DecidableEq, Repr

/-- A produced row: the channels after noise reduction, after colour correction, after gamma, and after colour space conversion, as FP32 codes. -/
structure IspRow where
  nr : List (List Nat)
  cc : List (List Nat)
  gam : List (List Nat)
  ycc : List (List Nat)
  deriving DecidableEq, Repr

/-- A frame from its opening to its record. -/
structure CamFrame where
  uid : Nat
  status : Nat
  fsSweep : Nat
  fsPhase : Nat
  fePhase : Nat
  win : Nat
  lines : Nat
  crcLines : Nat
  width : Nat
  height : Nat
  tag : EpochTag
  /-- lines received of each exposure -/
  cnt : List Nat
  /-- lines of rows that are not complete, under row * 4 + exposure -/
  part : Tab (List Nat)
  /-- rows complete -/
  row : Nat
  fillRows : Nat
  embLines : Nat
  embVals : Tab Nat
  s0 : Nat
  /-- rows stored in the ring; every later row is a fill row -/
  stored : Nat
  overrun : Bool
  ended : Bool
  /-- statistics set, once the first row has reached the front end -/
  set : Option Nat
  /-- strips taken by a pipe, strips done -/
  taken : Nat
  done : Nat
  outs : List OutCfg
  /-- ring rows the back end has read, rows it has produced -/
  inRows : Tab (List Nat)
  prod : Tab IspRow
  deriving DecidableEq, Repr

/-- A statistics set (R271, R272). -/
structure StatRec where
  busy : Bool
  published : Bool
  frame : Nat
  epoch : Nat
  flicker : Bool
  hist : Tab Nat
  wb : Tab Nat
  flk : Tab Nat
  deriving DecidableEq, Repr

def StatRec.zero : StatRec := ⟨false, false, 0, 0, false, .empty, .empty, .empty⟩

/-- A publication in progress (R273). -/
structure Publish where
  set : Option Nat
  sweep : Nat
  phase : Nat
  count : Nat
  deriving DecidableEq, Repr

/-- A camera context beside its registers. -/
structure CamCtx where
  /-- frames from the opening to the record, oldest first; the last may be open -/
  frames : List CamFrame
  /-- a frame opened while HELD is being dropped -/
  dropping : Bool
  nextUid : Nat
  /-- records written since EN was set -/
  recs : Nat
  /-- phase windows claimed in their current pass -/
  claimed : List Nat
  /-- ring slot of the next frame's first row -/
  nextSlot : Nat
  refok : Bool
  epoch : Nat
  waits : List EpochWait
  tag : EpochTag
  epovf : Bool
  statSeq : Nat
  sets : Tab StatRec
  lastDone : Option Nat
  gathered : Nat
  pub : Option Publish
  deriving DecidableEq, Repr

def CamCtx.zero : CamCtx := ⟨[], false, 0, 0, [], 0, false, 0, [], .zero, false, 0, .empty, none, 0, none⟩

/-- A strip in a pipe: context, frame, strip number. -/
structure PipeJob where
  ctx : Nat
  uid : Nat
  k : Nat
  deriving DecidableEq, Repr

/-- A queued sensor write: the four registers of its write-list entry and the EPOCH bit of the phase-table entry (R257). -/
structure I3cJob where
  a : Nat
  r : Nat
  d0 : Nat
  d1 : Nat
  epoch : Bool
  deriving DecidableEq, Repr

/-- The vision block and the pads it drives. -/
structure Vis where
  ports : Tab CsiPort
  ctxs : Tab CamCtx
  pipes : Tab PipeJob
  ingHeld : List Nat
  ispHeld : List Nat
  /-- FSYNC balls whose pulse is active -/
  fsync : List Nat
  i3c : Tab (List I3cJob)
  deriving DecidableEq, Repr

def Vis.zero : Vis := ⟨.empty, .empty, .empty, [], [], [], .empty⟩

/-! ### Codecs (chapter 14) -/

/-- What the model keeps of a stream context (R281): frames coded, frames since the last key frame, whether the next frame must be a key frame,
and the number of the job that wrote it last. -/
structure Strm where
  seq : Nat
  since : Nat
  key : Bool
  uid : Nat
  deriving DecidableEq, Repr

/-- A job that has left its queue: descriptor, a status its descriptor decides, its place among the jobs that left their queues, the pages that wait for a walk. -/
structure CodJob where
  desc : List Byte
  code : Nat
  ord : Nat
  waiting : Bool
  walks : List Nat
  xlat : Bool
  deriving DecidableEq, Repr

/-- A codec core beside its registers. -/
structure CodCore where
  queue : List Nat
  run : Option CodJob
  tlb : List Tlb
  deriving DecidableEq, Repr

def CodCore.zero : CodCore := ⟨[], none, []⟩

/-- The COD block. -/
structure Cod where
  cores : Tab CodCore
  /-- stream contexts the cores have written, by MMU context and address -/
  streams : List ((Nat × Nat) × Strm)
  /-- the next job's place -/
  ord : Nat
  deriving DecidableEq, Repr

def Cod.zero : Cod := ⟨.empty, [], 0⟩

/-! ### Scheduler cores and their firmware (chapter 16) -/

/-- What a cluster's scheduler core is told of (R66, R111, R115, R183, R326). -/
inductive SchEv where
  | halted (t k : Nat) | fault (t k : Nat) | killed (jid : Nat) | scan (c cause : Nat)
  deriving DecidableEq, Repr

/-- A scheduler core that runs: the parameter block as read at its start, the number of its last log record (R318, R333). -/
structure FwCore where
  valid : Bool
  rtab : Nat
  log : Nat
  llog : Nat
  level : Nat
  trace : Nat
  m : Nat
  deriving DecidableEq, Repr

/-- What the firmware keeps of a queue: the last record's number, and per tag the output set last published as OK or LATE with its release sweep (R331, R332). -/
structure FwQueue where
  n : Nat
  pubs : List (Nat × Nat × Nat)
  deriving DecidableEq, Repr

/-- An ENTRY record (chapter 05). -/
structure JobCtx where
  gtile : Nat
  ctx : Nat
  prio : Nat
  va : Nat
  deriving DecidableEq, Repr

/-- How far a taken entry has come: not admitted, in the scale loads of its admission, picked up, released (R327, R328). -/
inductive JobSt where
  | taken | loading | admitted | released
  deriving DecidableEq, Repr

/-- An entry that a scan has taken and that has not been recorded yet (R324). -/
structure Job where
  q : Nat
  core : Nat
  seq : Nat
  /-- a FENCE entry -/
  fence : Bool
  tag : Nat
  dlSweeps : Nat
  dlPhase : Nat
  arg : Nat
  out : Nat
  sched : Nat
  mctx : Nat
  ents : List JobCtx
  st : JobSt
  jid : Nat
  rel : Nat × Nat
  /-- clusters whose cores have not started the job's contexts yet -/
  launch : List Nat
  /-- scale loads that its admission has not started yet: global tile, first entry, entries, source -/
  loads : List (Nat × Nat × Nat × Nat)
  /-- a KILL entry has named it -/
  killed : Bool
  /-- the status that a miss policy decided -/
  miss : Option Nat
  /-- the completion has been judged: 0 on time, l + 1 late by l phase units -/
  done : Option Nat
  /-- its wait for a tile, a counter or a JID has been traced (R327, R334) -/
  traced : Bool
  deriving DecidableEq, Repr

/-- The scheduling firmware's own data. -/
structure Fw where
  cores : Tab FwCore
  queues : Tab FwQueue
  jobs : List Job
  deriving DecidableEq, Repr

def Fw.zero : Fw := ⟨.empty, .empty, []⟩

/-! ### The management block (chapter 20) -/

/-- A record of the error log (R397). -/
structure ErrRec where
  cls : Nat
  code : Nat
  src : Nat
  inst : Nat
  addr : Nat
  phase : Nat
  data : Nat
  deriving DecidableEq, Repr

/-- The parameters of the comparison in progress (R401). -/
structure CmpRun where
  a : Nat
  b : Nat
  len : Nat
  fmt : Nat
  tol : Nat
  cnt : Nat
  deriving DecidableEq, Repr

/-- The MGT block beside its registers. -/
structure Mgt where
  /-- error signals on their way to MGT, oldest first, with the running phase at the signal (R395) -/
  inflight : List ErrRec
  log : List ErrRec
  /-- GLB_CYCLES at the last logged MEM_CE signal -/
  ceLogged : Option Nat
  /-- ERR_OUT_N is driven low (its pad) -/
  errLow : Bool
  /-- GLB_CYCLES at the last fall of ERR_OUT_N; none if it fell before the count began -/
  fellAt : Option Nat
  /-- deadline monitors that have signalled in their present run -/
  dlSignalled : List Nat
  cmp : Option CmpRun
  /-- GLB_CYCLES when a watchdog's count last began (R399) -/
  wdg : Tab Nat
  /-- the last falling edge of PMB_ALERT_N has been signalled, and the ball has not been high for 1 ms since (R418) -/
  alerted : Bool
  /-- interrupts the island has been sent (R396) -/
  irqs : Nat
  deriving DecidableEq, Repr

def Mgt.zero : Mgt := ⟨[], [], none, true, none, [], none, .empty, false, 0⟩

/-! ### Press (chapter 19) -/

/-- The regulator and clock of a cluster: VSEL and FSEL present, VSEL and FSEL of the target, cycles left of a clock switch (R376). -/
structure ClOp where
  v : Nat
  f : Nat
  tv : Nat
  tf : Nat
  sw : Nat
  deriving DecidableEq, Repr

/-- At the reset point OP4 (R394). -/
def ClOp.reset : ClOp := ⟨46, 30, 46, 30, 0⟩

/-- An entry handshake: the state to enter, DELAYs answered, committed, wake latched in the entry window (R389, R390). -/
structure PEntry where
  target : Nat
  delays : Nat
  committed : Bool
  latched : Bool
  deriving DecidableEq, Repr

/-- The PRS block beside its registers. Domains of power states: clusters 0 to 3, and 4 for the device. -/
structure Prs where
  cl : Tab ClOp
  /-- allowances of compute, memory and links, in 1/8 W (R380) -/
  allow : List Nat
  /-- highest effective point of each class in the running interval (R381); none before the first change -/
  top : Tab Nat
  /-- the compute class is over its allowance with CAPB at 0 (R381) -/
  thrPower : Bool
  /-- dies that have reached 125 degrees (R383) -/
  thrDie : List Nat
  /-- clusters that draw too much (R385) -/
  thrAmp : List Nat
  /-- a throttle has been applied in the running interval -/
  thrSeen : Bool
  /-- clusters whose clock is stretched (R384) -/
  stretch : List Nat
  entry : Tab PEntry
  /-- the device is in CAVE, or on its way out of it -/
  cave : Bool
  caveExit : Bool
  /-- levels of WAKE0 to WAKE3 -/
  pins : Nat
  deriving DecidableEq, Repr

def Prs.zero : Prs := ⟨.empty, [0, 0, 0], .empty, false, [], [], false, [], .empty, false, false, 0⟩

/-! ### Live sparing (chapter 20) -/

/-- How far an accepted sparing has come (R402 to R404). -/
inductive SpareSt where
  | waiting | holding | copying
  deriving DecidableEq, Repr

/-- A sparing of a cluster: logical tile, target slot, the job whose barrier or kill it waits for. -/
structure Spare where
  ltile : Nat
  /-- old and new physical slot -/
  old : Nat
  slot : Nat
  jid : Option Nat
  st : SpareSt
  deriving DecidableEq, Repr

/-! ### The security block (chapter 18) -/

/-- A key slot: usage (0 KDF, 1 HMAC, 2 AES, 3 ECDSA) and key (R368 to R370). -/
structure KeySlot where
  usage : Nat
  key : List Byte
  deriving DecidableEq, Repr

/-- An entry of the measurement log (R370, R373). -/
inductive LogEnt where
  | image (kind svn : Nat) (pass : Bool) (meas : List Byte)
  | unlock (scope : Nat)
  deriving DecidableEq, Repr

/-- A fuse programming in progress: MINVER or LC, up to a count (R366). -/
inductive FuseJob where
  | minver (goal : Nat) | lc (goal : Nat)
  deriving DecidableEq, Repr

/-- A boot from the copy of a Starter to the end of its check: the image bytes as they come from the flash, the slot, the slot tried on a failure (R353, R356). -/
structure BootRun where
  img : List Byte
  slot : Nat
  fallback : Option Nat
  deriving DecidableEq, Repr

/-- The security block beside its registers, its fuses, and the boot flash. -/
structure Sec where
  /-- the flash at the xSPI balls (R350), by flash offset -/
  flash : Mem
  uds : List Byte
  algsel : Nat
  rootHash : Tab (List Byte)
  revoke : Nat
  dbgHash : List Byte
  boot : Option BootRun
  /-- the loader has finished or refused to boot since the last reset -/
  booted : Bool
  /-- the offset of the first instruction of the island's running stage; none while it is held in reset -/
  island : Option Nat
  /-- the entry offset of each application-core group that runs (R362) -/
  apps : Tab Nat
  slots : Tab KeySlot
  log : List LogEnt
  /-- the descriptor of the key command in progress -/
  kcmd : Option (List Byte)
  fuse : Option FuseJob
  /-- the most recent challenge -/
  chal : Option (List Byte)
  rejected : Nat
  /-- the IEEE 1149.1 instruction in force (R372) -/
  ir : Nat
  deriving DecidableEq, Repr

/-- The security block with its fuses and the flash as they come (log 33). -/
def Sec.zero : Sec := ⟨⟨[]⟩, List.replicate 32 0, 0, .empty, 0, List.replicate 32 0, none, false, none, .empty, .empty, [], none, none, none, 0, 0xFF⟩

/-! ### Reset (chapter 21) -/

/-- What holds the device in reset (R423, R424). -/
structure Rst where
  /-- PORST_N is low -/
  porst : Bool
  bor : Bool
  trip : Bool
  deriving DecidableEq, Repr

/-! ### The device -/

/-- An access that waits in its virtual channel (R391, R403): a register access, a write to a memory, an arrival that a window has taken at an address. -/
inductive HeldAcc where
  | reg (ini : Initiator) (addr width : Nat) (data : Word)
  | mem (ini : Initiator) (addr : Nat) (data : List Byte)
  | win (w addr : Nat) (data : List Byte)
  deriving DecidableEq, Repr

/-- The state of the device. -/
structure State where
  /-- the commands that wait, first in, first out -/
  pending : List Instr
  regs : Tab Word
  /-- staged LO halves, by LO address; none while equal to the committed LO (R41) -/
  stage : Tab Word
  /-- the physical address space outside the control window -/
  mem : Mem
  /-- poisoned 16-byte granules of vat and LPDDR5X (R306), as address / 16 -/
  poison : List Nat
  /-- free values taken so far (log 2) -/
  fresh : Nat
  swp : Sweep
  tiles : Tab Tile
  fab : Fab
  mgt : Mgt
  prs : Prs
  /-- events that the scheduler cores have not handled yet, oldest first -/
  events : List SchEv
  fw : Fw
  net : Net
  /-- attention engines, by cluster -/
  att : Tab Att
  vis : Vis
  cod : Cod
  /-- sparings in progress, by cluster -/
  spares : Tab Spare
  /-- accesses held for a domain that is not in RUN or for a tile that a sparing moves, oldest first -/
  held : List HeldAcc
  sec : Sec
  rst : Rst
  deriving DecidableEq, Repr

/-- The state right after the deassertion of PORST_N, before the loader's first step (R14, R353): every register at its reset value, GLB_RSTCAUSE with POR (R425),
no byte of memory written, the output gate closed, the island and the cores in reset. -/
def State.reset : State :=
  { pending := [], regs := ⟨[(0x300, 1)]⟩, stage := .empty, mem := ⟨[]⟩, poison := [], fresh := 0, swp := .zero, tiles := .empty, fab := .zero,
    mgt := .zero, prs := .zero, events := [], fw := .zero, net := .zero, att := .empty, vis := .zero, cod := .zero, spares := .empty, held := [],
    sec := .zero, rst := ⟨false, false, false⟩ }

end Sys2Proof.Machine
end

