-- ==== Sys2Proof/Machine/Ops.lean ====
section
/-! DEFINITION. The shared operations over the state: the register store, fields, counters that saturate, memory and poison, error signals, tiles and contexts. -/

namespace Sys2Proof.Machine
open Sys2Proof

/-! ### Words and fields -/

/-- Bits `hi` to `lo` of a number. -/
def bits (v hi lo : Nat) : Nat := (v / 2 ^ lo) % 2 ^ (hi + 1 - lo)

def bit (v i : Nat) : Bool := (v / 2 ^ i) % 2 == 1

/-- `v` with bits `hi` to `lo` replaced by the low bits of `x`. -/
def putBits (v hi lo x : Nat) : Nat :=
  v - bits v hi lo * 2 ^ lo + (x % 2 ^ (hi + 1 - lo)) * 2 ^ lo

def b2n (b : Bool) : Nat := if b then 1 else 0

/-- The sum with saturation at `top`. -/
def satAdd (v n top : Nat) : Nat := min (v + n) top

/-! ### The register store -/

/-- The stored word at a register address. -/
def State.rg (s : State) (a : Nat) : Word := s.regs.get (regReset a) a

def State.setRg (s : State) (a : Nat) (v : Word) : State := { s with regs := s.regs.set (regReset a) a v }

/-- The stored word of a register, as a number. -/
def State.reg (s : State) (r : Reg) (is : List Nat) : Nat := (s.rg (r.adr is)).toNat

def State.setReg (s : State) (r : Reg) (is : List Nat) (v : Nat) : State := s.setRg (r.adr is) (BitVec.ofNat 32 v)

/-- Bits `hi` to `lo` of a register. -/
def State.fld (s : State) (r : Reg) (is : List Nat) (hi lo : Nat) : Nat := bits (s.reg r is) hi lo

def State.flag (s : State) (r : Reg) (is : List Nat) (i : Nat) : Bool := bit (s.reg r is) i

def State.setFld (s : State) (r : Reg) (is : List Nat) (hi lo v : Nat) : State :=
  s.setReg r is (putBits (s.reg r is) hi lo v)

def State.setFlag (s : State) (r : Reg) (is : List Nat) (i : Nat) (b : Bool) : State := s.setFld r is i i (b2n b)

/-- A counter field that saturates at its largest value. -/
def State.satInc (s : State) (r : Reg) (is : List Nat) (hi lo n : Nat) : State :=
  s.setFld r is hi lo (satAdd (s.fld r is hi lo) n (2 ^ (hi + 1 - lo) - 1))

/-- A 64-bit value in a LO and a HI register. -/
def State.reg64 (s : State) (lo hi : Reg) (is : List Nat) : Nat := s.reg lo is + 2 ^ 32 * s.reg hi is

def State.setReg64 (s : State) (lo hi : Reg) (is : List Nat) (v : Nat) : State :=
  (s.setReg lo is (v % 2 ^ 32)).setReg hi is (v / 2 ^ 32 % 2 ^ 32)

/-! ### Free values -/

/-- A value nothing constrains, and the state that has taken it (log 2). -/
def State.free (s : State) (w : Nat) : Nat × State :=
  ((Config.freeValue s.fresh).toNat % 2 ^ w, { s with fresh := s.fresh + 1 })

/-! ### Tiles -/

def State.tile (s : State) (t : Nat) : Tile := s.tiles.get Tile.zero t

def State.setTile (s : State) (t : Nat) (x : Tile) : State := { s with tiles := s.tiles.put t x }

def State.updTile (s : State) (t : Nat) (f : Tile → Tile) : State := s.setTile t (f (s.tile t))

def Tile.context (x : Tile) (k : Nat) : Ctx := x.ctx.get Ctx.zero k

def Tile.setCtx (x : Tile) (k : Nat) (c : Ctx) : Tile := { x with ctx := x.ctx.put k c }

def State.ctxOf (s : State) (t k : Nat) : Ctx := (s.tile t).context k

def State.setCtx (s : State) (t k : Nat) (c : Ctx) : State := s.updTile t (fun x => x.setCtx k c)

def State.updCtx (s : State) (t k : Nat) (f : Ctx → Ctx) : State := s.setCtx t k (f (s.ctxOf t k))

/-- Cluster of a physical tile slot. -/
def clusterOf (t : Nat) : Nat := t / 34

/-- Slot number of a tile within its cluster. -/
def slotOf (t : Nat) : Nat := t % 34

/-- The indices of a tile's registers. -/
def tix (t : Nat) : List Nat := [clusterOf t, slotOf t]

/-- The physical tile bound to logical tile `l` of cluster `c` (R24). -/
def State.physOf (s : State) (c l : Nat) : Nat := c * 34 + s.fld .CLU_REMAPl [c, l] 5 0

/-- The logical tile of cluster `c` that `l, l + 1, …` (n of them) binds to slot `t`. -/
def State.findLogical (s : State) (t : Nat) : Nat → Nat → Option Nat
  | _, 0 => none
  | l, n + 1 => if s.physOf (clusterOf t) l = t then some l else s.findLogical t (l + 1) n

/-- The logical tile bound to a physical tile, if one is (R24). -/
def State.logicalOf (s : State) (t : Nat) : Option Nat := s.findLogical t 0 32

/-- TILE_JOB.VALID and JID of a tile. -/
def State.jobOf (s : State) (t : Nat) : Option Nat :=
  if s.flag .TILE_JOB (tix t) 8 then some (s.fld .TILE_JOB (tix t) 7 0) else none

/-- The tile has EN = 1 and READY = 1. -/
def State.tileReady (s : State) (t : Nat) : Bool := (s.tile t).ready

/-- The scratchpad aperture of a tile is open: the tile is READY, and no kill of its job is requested or running (R169). -/
def State.apertureOpen (s : State) (t : Nat) : Bool :=
  (s.tile t).ready && !(s.tile t).killed && (match s.jobOf t with | some j => !s.fab.killPend.contains j | none => true)

/-- The slots `0 .. n-1`. -/
def upTo (n : Nat) : List Nat := (List.range n)

/-- Folds an action over a list of numbers. -/
def foldState (f : State → Nat → State) : State → List Nat → State
  | s, [] => s
  | s, i :: is => foldState f (f s i) is

/-! ### The physical address space (R45) -/

def vatBase (c : Nat) : Nat := 0x100000000 + c * 0x10000000
def spadBase (t : Nat) : Nat := 0x200000000 + clusterOf t * 0x4000000 + slotOf t * 0x100000
def lpxBase : Nat := 0x10000000000

/-- The memories of R45. -/
inductive Region where
  | control | island | sched (c : Nat) | app (g : Nat) | vat (c : Nat) | spad (t : Nat) | lpx | none
  deriving DecidableEq, Repr

/-- Bytes of usable LPDDR5X: N channels of CHCAP * 256 MiB, 31/32 of them (R46, R293), and none before training (R292). -/
def State.lpxSize (s : State) : Nat :=
  if s.flag .LPX_GSTAT [] 0 then s.fld .LPX_GSTAT [] 13 8 * (s.fld .LPX_GSTAT [] 23 16 * 0x10000000) * 31 / 32 else 0

/-- The memory that decodes a physical address (R45, R46, R315). -/
def State.region (s : State) (a : Nat) : Region :=
  if a < 0x10000000 then .control
  else if a < 0x40000000 then .none
  else if a < 0x40100000 then .island
  else if a < 0x41000000 then .none
  else if a < 0x41100000 then .sched ((a - 0x41000000) / 0x40000)
  else if a < 0x42000000 then .none
  else if a < 0x42100000 then .app ((a - 0x42000000) / 0x80000)
  else if a < 0x100000000 then .none
  else if a < 0x140000000 then .vat ((a - 0x100000000) / 0x10000000)
  else if a < 0x200000000 then .none
  else if a < 0x210000000 then
    let c := (a - 0x200000000) / 0x4000000
    let p := (a - 0x200000000) % 0x4000000 / 0x100000
    if p < 34 then .spad (c * 34 + p) else .none
  else if a < lpxBase then .none
  else if a < lpxBase + s.lpxSize then .lpx
  else .none

def Region.isVatOrLpx : Region → Bool
  | .vat _ => true
  | .lpx => true
  | _ => false

/-- The regions of `a .. a + n - 1` are one memory. -/
def State.oneRegion (s : State) (a n : Nat) : Bool := decide (s.region a = s.region (a + (n - 1)))

/-- The 16-byte granules that `a .. a + n - 1` touches. -/
def granules (a n : Nat) : List Nat := if n = 0 then [] else (List.range ((a + n - 1) / 16 - a / 16 + 1)).map (· + a / 16)

/-- Some granule of the range carries poison (R306). -/
def State.poisoned (s : State) (a n : Nat) : Bool :=
  s.poison.any (fun g => decide (a < 16 * g + 16) && decide (16 * g < a + n))

/-- A write of `n` bytes at `a` clears the poison of every vat word or LPDDR5X block it covers whole (R306). -/
def clearPoison (reg : Region) (a n : Nat) (ps : List Nat) : List Nat :=
  let u := match reg with | .lpx => 64 | _ => 16
  ps.filter (fun g => !(decide (a ≤ 16 * g / u * u) && decide (16 * g / u * u + u ≤ a + n)))

/-- A write of bytes to vat, LPDDR5X or an SRAM, with its effect on poison (R306). -/
def State.wrMem (s : State) (a : Nat) (bs : List Byte) : State :=
  { s with mem := s.mem.wrBytes a bs, poison := clearPoison (s.region a) a bs.length s.poison }

/-- A write of poisoned bytes: the bytes are stored and every word (vat) or block (LPDDR5X) they touch is poisoned (R306). -/
def State.wrPoisoned (s : State) (a : Nat) (bs : List Byte) : State :=
  let u := match s.region a with | .lpx => 4 | _ => 1
  let gs := granules (a / (16 * u) * (16 * u)) ((a + bs.length + 16 * u - 1) / (16 * u) * (16 * u) - a / (16 * u) * (16 * u))
  { s with mem := s.mem.wrBytes a bs, poison := (gs ++ s.poison).eraseDups }

/-! ### Error signals (R395) -/

/-- The running phase (R56). -/
def State.phase (s : State) : Nat := s.swp.pos / 65536 % 65536

def State.signal (s : State) (cls code src inst : Nat) (addr data : Nat := 0) : State :=
  { s with mgt := { s.mgt with inflight := s.mgt.inflight ++ [⟨cls, code, src, inst, addr, s.phase, data⟩] } }

/-- A register or memory access that is not performed: SIZE 1, UNMAPPED 2, DENIED 3 (R32, R33). -/
def State.accessError (s : State) (code : Nat) (ini : Initiator) (addr data : Nat) : State :=
  s.signal 0 code ini.src.toNat 0 addr data

/-- The initiator that MGT records for the brine and seal engines. -/
def iniEngine : Initiator := ⟨.isl, 0xD8⟩

/-! ### Reset, debug, throttle -/

/-- GLB_CYCLES: Press cycles of 10 ns since PORST_N, from the sweep cycles of 4 ns (log 20). -/
def State.pressNow (s : State) : Nat := s.swp.cycle * 2 / 5

/-- Nothing holds the device in reset (R424). -/
def State.up (s : State) : Bool := !s.rst.porst && !s.rst.bor && !s.rst.trip

/-- A command that reaches a device held in reset changes nothing (R424). -/
def live (s : State) (f : State → State) : Host.Outcome State Fault Refusal := .next (if s.up then f s else s)

/-- The clocks of a cluster run: its power state is RUN (R386). An access that meets a cluster in another state is held until it is in RUN (R391). -/
def State.clusterRuns (s : State) (c : Nat) : Bool := s.fld .PRS_STATE [] (4 * c + 2) (4 * c) == 0

/-- A command of a cluster's own clocks, or one that reaches into the cluster: nothing happens while the cluster is not in RUN. -/
def liveIn (c : Nat) (s : State) (f : State → State) : Host.Outcome State Fault Refusal := .next (if s.up && s.clusterRuns c then f s else s)

/-- Debug is unlocked: TEST, RETURN or SCRAPPED, or DEVELOP or FIELD after an accepted unlock whose scope has DEBUG (R371, R373). -/
def State.debugUnlocked (s : State) : Bool :=
  let lc := s.fld .SEC_LC [] 2 0
  lc == 0 || lc == 3 || lc == 4 || (s.flag .SEC_LC [] 7 && s.flag .SEC_LC [] 8)

/-- TILE_CTRL.DBG_HOLD is 1 and honoured (R88; table of TILE_CTRL). -/
def State.dbgHold (s : State) (t : Nat) : Bool := s.flag .TILE_CTRL (tix t) 2 && s.debugUnlocked

/-- Blocked cycles of each 16 of a cluster: the largest of its throttles (R385). -/
def State.throttle (s : State) (c : Nat) : Nat :=
  max (if s.prs.thrPower then 8 else 0) (max (if s.prs.thrDie.contains (c / 2) then 15 else 0) (if s.prs.thrAmp.contains c then 8 else 0))

/-- Position `p` of 16 is one of the `n` that a throttle of `n` blocks (R385; log 16). -/
def throttleBlocks (n p : Nat) : Bool :=
  if n = 0 then false
  else decide (((List.range 16).filter (fun q =>
    Config.throttleKey n q < Config.throttleKey n p || (Config.throttleKey n q == Config.throttleKey n p && decide (q < p)))).length < n)

/-- The issue throttle blocks this clock of a tile (R385). -/
def State.throttled (s : State) (t : Nat) : Bool := throttleBlocks (s.throttle (clusterOf t)) ((s.tile t).clk % 16)

/-! ### The fabric firewall -/

/-- The read bit of a class in SEC_FWe_PERM; the write bit is the next one. -/
def clsBit : Cls → Nat
  | .isl => 0 | .mgs => 2 | .app => 4 | .sch => 6 | .dbg => 8

/-- An enabled firewall entry covers `a .. a + n - 1` and grants the class the access (R365). -/
def State.fwAllows (s : State) (c : Cls) (a n : Nat) (write : Bool) : Bool :=
  (upTo 32).any (fun e =>
    s.flag .SEC_FWe_PERM [e] 30 && s.flag .SEC_FWe_PERM [e] (clsBit c + b2n write) &&
    decide (s.fld .SEC_FWe_BASE [e] 27 0 * 65536 ≤ a) && decide (a + n ≤ (s.fld .SEC_FWe_LIMIT [e] 27 0 + 1) * 65536))

/-! ### Lists as queues -/

/-- Position `n` of a list removed: the element and the rest. -/
def takeAt {α : Type} : List α → Nat → Option (α × List α)
  | [], _ => none
  | x :: xs, 0 => some (x, xs)
  | x :: xs, n + 1 => (takeAt xs n).map (fun p => (p.1, x :: p.2))

/-- The first element that satisfies `p`, and the rest. -/
def takeFirst {α : Type} (p : α → Bool) : List α → Option (α × List α)
  | [] => none
  | x :: xs => if p x then some (x, xs) else (takeFirst p xs).map (fun q => (q.1, x :: q.2))

/-- The list with the first element that satisfies `p` changed by `f`. -/
def updFirst {α : Type} (p : α → Bool) (f : α → α) : List α → List α
  | [] => []
  | x :: xs => if p x then f x :: xs else x :: updFirst p f xs

/-- `x` into a list that rises by `key`, behind its equals. -/
def insertBy {α : Type} (key : α → Nat) (x : α) : List α → List α
  | [] => [x]
  | y :: ys => if key x < key y then x :: y :: ys else y :: insertBy key x ys

/-- The list in ascending order of `key`, equals in their order. -/
def sortBy {α : Type} (key : α → Nat) (xs : List α) : List α := xs.foldl (fun acc x => insertBy key x acc) []

end Sys2Proof.Machine
end

