-- ==== Sys2Proof/Machine/Operands.lean ====
section
/-! DEFINITION. The operand forms of Ralok: register files, guards, immediates, scratchpad addresses, rows and landing flags. -/

namespace Sys2Proof.Machine
open Sys2Proof

/-! ### Register files (R105) -/

/-- s0 reads 0 (R105). -/
def Ctx.rdS (c : Ctx) (i : Nat) : DWord := if i = 0 then 0 else c.s.get 0 i

/-- An address register, zero-extended to 64 bits (R105). -/
def Ctx.rdA (c : Ctx) (i : Nat) : DWord := c.a.get 0 i

/-- p0 reads all ones (R105). -/
def Ctx.rdP (c : Ctx) (i : Nat) : BitVec 64 := if i = 0 then BitVec.allOnes 64 else c.p.get 0 i

/-- Lane `l` of a v register. -/
def Ctx.rdLane (c : Ctx) (i l : Nat) : Nat := ((c.v.get [] i).getD l 0).toNat

/-- Writes to s0 are discarded (R105). -/
def Ctx.wrS (c : Ctx) (i : Nat) (v : DWord) : Ctx := if i = 0 then c else { c with s := c.s.set 0 i v }

/-- A write to an a register keeps bits 47:0 (R105). -/
def Ctx.wrA (c : Ctx) (i : Nat) (v : DWord) : Ctx := { c with a := c.a.set 0 i (BitVec.ofNat 64 (v.toNat % 2 ^ 48)) }

/-- p0 is never written (R105). -/
def Ctx.wrP (c : Ctx) (i : Nat) (mask bits : BitVec 64) : Ctx :=
  if i = 0 then c else { c with p := c.p.set 0 i ((c.p.get 0 i &&& ~~~mask) ||| (bits &&& mask)) }

/-- Lanes of `old` replaced by lanes of `new` where the mask has a 1. -/
def mergeLanes (mask : BitVec 64) (old new : List Word) : List Word :=
  (List.range 64).map (fun l => if mask.getLsbD l then new.getD l 0 else old.getD l 0)

def Ctx.wrV (c : Ctx) (i : Nat) (mask : BitVec 64) (lanes : List Word) : Ctx :=
  { c with v := c.v.put i (mergeLanes mask (c.v.get [] i) lanes) }

/-- The lanes a guard enables; an S-, T- or M-slot instruction uses lane 0 (R99). -/
def Ctx.guardMask (c : Ctx) (g : Guard) : BitVec 64 :=
  if g.pn then ~~~(c.rdP g.pg.toNat) else c.rdP g.pg.toNat

def Ctx.guardS (c : Ctx) (g : Guard) : Bool := (c.guardMask g).getLsbD 0

/-- The register class and number of RD or RS1 of format SA (R102): `true` for an a register. -/
def Ctx.rdSA (c : Ctx) (isA : Bool) (i : Nat) : DWord := if isA then c.rdA i else c.rdS i

/-- FN[7:6] of SA: the class of RD and of RS1 (R102). -/
def saRdIsA (f : SA) : Bool := f.fn.getLsbD 6
def saRs1IsA (f : SA) : Bool := f.fn.getLsbD 7

/-- The second operand of SA: s[RS2], or IMM sign-extended to 64 bits (R122). -/
def Ctx.rdSrc2 (c : Ctx) : Src2 → DWord
  | .reg r => c.rdS r.toNat
  | .imm v => v.signExtend 64

/-- a[AB] + IMM as a signed sum modulo 2^64 (R112). -/
def Ctx.addrImm (c : Ctx) (ar : Nat) (imm : BitVec 32) : Nat := (c.rdA ar + imm.signExtend 64).toNat

/-- The post-increment of R113 with the wrap window AWRAPn. -/
def Ctx.postInc (c : Ctx) (i : Nat) (delta : Int) : DWord :=
  let w := (c.awrap.get 0 i).toNat
  let len := bits w 28 16
  let base := bits w 11 0
  let new : Int := ((c.rdA i).toNat : Int) + delta
  let lo : Int := (base * 256 : Nat)
  let hi : Int := ((base + len) * 256 : Nat)
  let adj : Int :=
    if len = 0 then new
    else if hi ≤ new then new - (len * 256 : Nat)
    else if new < lo then new + (len * 256 : Nat)
    else new
  BitVec.ofNat 64 (ofSigned 48 adj)

/-- Writes that land at clock `due` are added behind the earlier ones (R106). -/
def Ctx.push (c : Ctx) (due : Nat) (d : Dst) : Ctx := { c with pend := c.pend ++ [⟨due, none, d⟩] }

/-- The same for a V-slot instruction that issues at clock `iss`. -/
def Ctx.pushV (c : Ctx) (iss due : Nat) (d : Dst) : Ctx := { c with pend := c.pend ++ [⟨due, some iss, d⟩] }

/-! ### Scratchpad (R91, R112) -/

/-- Fault codes of R114 as far as operand checks raise them. -/
def fILL : Nat := 0x01
def fIFETCH : Nat := 0x02
def fIPOISON : Nat := 0x03
def fSPAD : Nat := 0x04
def fALIGN : Nat := 0x05
def fDPOISON : Nat := 0x06
def fXLAT : Nat := 0x07
def fARRMODE : Nat := 0x08
def fARROWNED : Nat := 0x09
def fARRNOTOWN : Nat := 0x0A
def fSTK : Nat := 0x0B
def fCSR : Nat := 0x0C
def fRNTRANGE : Nat := 0x0D
def fSENDTGT : Nat := 0x0E
def fDESC : Nat := 0x0F

/-- A scratchpad operand of `n` bytes at `a` with alignment `al`: the lowest fault code, if any (R112, R114, R116). -/
def spadCheck (a n al : Nat) : Option Nat :=
  if 0x100000 < a + n ∨ 0x100000 ≤ a then some fSPAD
  else if a % al ≠ 0 then some fALIGN
  else none

/-- The rows that bytes `a .. a + n - 1` lie in, as far as they exist. -/
def rowsOf (a n : Nat) : List Nat :=
  if n = 0 then [] else ((List.range ((a + n - 1) / 256 - a / 256 + 1)).map (· + a / 256)).filter (· < 4096)

def Tile.rowsLanded (x : Tile) (rows : List Nat) : Bool := rows.all (fun r => !x.unlanded.contains r)

def Tile.rowsPoisoned (x : Tile) (rows : List Nat) : Bool := rows.any (fun r => x.poison.contains r)

def Tile.clearLanded (x : Tile) (rows : List Nat) : Tile := { x with unlanded := x.unlanded ++ rows.filter (fun r => !x.unlanded.contains r) }

def Tile.setLanded (x : Tile) (r : Nat) : Tile := { x with unlanded := x.unlanded.filter (· ≠ r) }

def Tile.markPoison (x : Tile) (r : Nat) : Tile := if x.poison.contains r then x else { x with poison := x.poison ++ [r] }

def Tile.clearPoisonRow (x : Tile) (r : Nat) : Tile := { x with poison := x.poison.filter (· ≠ r) }

/-- `n` bytes of the tile's scratchpad at byte `a` (log 8). -/
def State.spRd (s : State) (t a n : Nat) : List Byte := s.mem.rdBytes (spadBase t + a) n

/-- Bytes written to the tile's scratchpad at byte `a`. -/
def State.spWr (s : State) (t a : Nat) (bs : List Byte) : State := { s with mem := s.mem.wrBytes (spadBase t + a) bs }

/-- A write that covers every row from `a` whole clears the rows' poison (R196). -/
def State.spWrRows (s : State) (t a : Nat) (bs : List Byte) : State :=
  let whole := (rowsOf a bs.length).filter (fun r => decide (a ≤ 256 * r) && decide (256 * r + 256 ≤ a + bs.length))
  (s.spWr t a bs).updTile t (fun x => whole.foldl Tile.clearPoisonRow x)

/-! ### Vector operands (R102, R112, R140) -/

/-- The format code of an element type TY. -/
def tyFmt (ty : Nat) : Nat :=
  match ty with
  | 0 => 0xE
  | 1 => 0xB
  | 2 => 0xC
  | _ => 0xD

/-- Bytes of a row operand of an element width in bits: 64 elements. -/
def rowBytes (w : Nat) : Nat := 8 * w

/-- Element `l` of a packed row of elements of `w` bits. -/
def elemOf (w : Nat) (bs : List Byte) (l : Nat) : Nat :=
  if w = 4 then bits (bs.getD (l / 2) 0).toNat (4 * (l % 2) + 3) (4 * (l % 2))
  else leNat ((bs.drop (l * (w / 8))).take (w / 8))

/-- Lanes packed as elements of `w` bits over the bytes that stood there; lanes outside the mask keep theirs. -/
def packLanes (w : Nat) (mask : BitVec 64) (old : List Byte) (lanes : List Word) : List Byte :=
  let el (l : Nat) : Nat := if mask.getLsbD l then (lanes.getD l 0).toNat % 2 ^ w else elemOf w old l
  if w = 4 then (List.range 32).map (fun i => BitVec.ofNat 8 (el (2 * i) + 16 * el (2 * i + 1)))
  else ((List.range 64).map (fun l => leBytes (w / 8) (el l))).flatten

/-- A source operand of format VR: a v register, or the scratchpad row at an a register. Lane `l` as an element of `w` bits. -/
def State.vSrc (s : State) (t k : Nat) (isRow : Bool) (i w : Nat) : List Nat :=
  let c := s.ctxOf t k
  if isRow then
    let bs := s.spRd t (c.rdA i).toNat (rowBytes w)
    (List.range 64).map (elemOf w bs)
  else (List.range 64).map (fun l => c.rdLane i l % 2 ^ w)

/-- The bytes a row operand covers, if the field names a row: address and length. -/
def Ctx.vRow (c : Ctx) (isRow : Bool) (i w : Nat) : Option (Nat × Nat) :=
  if isRow then some ((c.rdA i).toNat, rowBytes w) else none

end Sys2Proof.Machine
end

