-- ==== Sys2Proof/Machine/Encoding.lean ====
section
/-! DEFINITION. The Ralok instruction word: decoding of R100 to R104 and the encoding checks that raise ILL (R97, R101 to R103, R121 to R146). -/

namespace Sys2Proof.Machine
open Sys2Proof

/-- The issue slots in their order S, T, V, M (R97). -/
def Mn.slot : Mn → Nat
  | .ADD | .SUB | .AND | .OR | .XOR | .SHL | .SHR | .LDN | .STN | .BR | .BRC | .LOOP | .CALL | .RET | .CSRRD | .CSRWR | .YIELD | .HALT => 0
  | .SOPEN | .SIDX | .SBLK | .SLAND | .SEND | .RNADD | .RNSET | .RNWAIT | .BAR | .FENCE | .MSEST => 1
  | .MLDI | .MSTW | .MDRN | .MPART | .MCLR => 3
  | _ => 2

/-- The opcode map of R104. -/
def mnOf (slot op : Nat) : Option Mn :=
  let tab : List Mn :=
    match slot with
    | 0 => [.ADD, .SUB, .AND, .OR, .XOR, .SHL, .SHR, .LDN, .STN, .BR, .BRC, .LOOP, .CALL, .RET, .CSRRD, .CSRWR, .YIELD, .HALT]
    | 1 => [.SOPEN, .SIDX, .SBLK, .SLAND, .SEND, .RNADD, .RNSET, .RNWAIT, .BAR, .FENCE, .MSEST]
    | 2 => [.VADD, .VSUB, .VMUL, .VFMA, .VMAX, .VMIN, .VEXP, .VRCP, .VRSQ, .VCVT, .VQNT, .VDQNT, .VRED, .VPERM, .VSEL, .VCMP]
    | _ => [.MLDI, .MSTW, .MDRN, .MPART, .MCLR]
  if op = 0 then none else tab[op - 1]?

/-- The operand-area formats (R101), as codes. -/
inductive Layout where
  | SA | SM | SB | SC | SN | TS | TX | TR | TB | VR | MX
  deriving DecidableEq, Repr

def Mn.layout : Mn → Layout
  | .ADD | .SUB | .AND | .OR | .XOR | .SHL | .SHR => .SA
  | .LDN | .STN => .SM
  | .BR | .BRC | .LOOP | .CALL => .SB
  | .RET | .YIELD | .HALT => .SN
  | .CSRRD | .CSRWR => .SC
  | .SOPEN | .SIDX | .SBLK | .SLAND => .TS
  | .SEND => .TX
  | .RNADD | .RNSET | .RNWAIT => .TR
  | .BAR | .FENCE | .MSEST => .TB
  | .MLDI | .MSTW | .MDRN | .MPART | .MCLR => .MX
  | _ => .VR

/-- Field `hi:lo` of an operand area as a bit vector. -/
def fv (w : Nat) (x hi lo : Nat) : BitVec w := BitVec.ofNat w (bits x hi lo)

/-- The operand area `x` (bits 49:0) with header bit I, laid out by the format; none where a bit the format lists as 0 is 1 (R101). -/
def decodeArea (l : Layout) (i : Bool) (x : Nat) : Option Opnd :=
  let only (z : Bool) (o : Opnd) : Option Opnd := if z then some o else none
  match l with
  | .SA =>
    if i then some (.sa ⟨fv 5 x 49 45, fv 5 x 44 40, fv 8 x 39 32, .imm (fv 32 x 31 0)⟩)
    else only (bits x 26 0 == 0) (.sa ⟨fv 5 x 49 45, fv 5 x 44 40, fv 8 x 39 32, .reg (fv 5 x 31 27)⟩)
  | .SM => only (!i && bits x 40 40 == 0) (.sm ⟨fv 5 x 49 45, fv 4 x 44 41, fv 8 x 39 32, fv 32 x 31 0⟩)
  | .SB => only (!i) (.sb ⟨fv 5 x 49 45, fv 5 x 44 40, fv 8 x 39 32, fv 32 x 31 0⟩)
  | .SC => only (!i && bits x 27 0 == 0) (.sc ⟨fv 5 x 49 45, fv 5 x 44 40, fv 12 x 39 28⟩)
  | .SN => only (!i && x == 0) .sn
  | .TS => only (!i) (.ts ⟨fv 4 x 49 46, fv 4 x 45 42, fv 5 x 41 37, fv 5 x 36 32, fv 32 x 31 0⟩)
  | .TX => only (!i && bits x 15 0 == 0) (.tx ⟨fv 4 x 49 46, fv 4 x 45 42, fv 5 x 41 37, fv 7 x 36 30, fv 14 x 29 16⟩)
  | .TR => only (i || bits x 24 0 == 0) (.tr ⟨i, fv 14 x 49 36, fv 5 x 35 31, bit x 30, fv 5 x 29 25, fv 25 x 24 0⟩)
  | .TB => only (!i && bits x 18 0 == 0) (.tb ⟨fv 8 x 49 42, fv 10 x 41 32, fv 11 x 31 21, bit x 20, bit x 19⟩)
  | .VR => only (!i) (.vr ⟨fv 5 x 49 45, bit x 44, fv 5 x 43 39, bit x 38, fv 5 x 37 33, bit x 32, fv 5 x 31 27, fv 3 x 26 24, fv 3 x 23 21,
      bit x 20, fv 4 x 19 16, fv 16 x 15 0⟩)
  | .MX => only (!i && bits x 2 0 == 0) (.mx ⟨fv 4 x 49 46, fv 2 x 45 44, bit x 43, fv 4 x 42 39, fv 4 x 38 35, fv 6 x 34 29, fv 7 x 28 22,
      fv 10 x 21 12, fv 4 x 11 8, fv 2 x 7 6, bit x 5, bit x 4, bit x 3⟩)

/-- The instruction word `w` (R100): its E bit and its instruction, none for an encoding that breaks R101. -/
def decodeWord (w : Nat) : Bool × Option RWord :=
  let r :=
    match mnOf (bits w 62 61) (bits w 60 55) with
    | none => none
    | some mn => (decodeArea mn.layout (bit w 54) (bits w 49 0)).map (fun f => ⟨mn, ⟨fv 3 w 53 51, bit w 50⟩, f⟩)
  (bit w 63, r)

/-! ### The encoder -/

/-- The opcode of a mnemonic within its slot (R104). -/
def Mn.op : Mn → Nat
  | .ADD => 1 | .SUB => 2 | .AND => 3 | .OR => 4 | .XOR => 5 | .SHL => 6 | .SHR => 7 | .LDN => 8 | .STN => 9 | .BR => 10 | .BRC => 11
  | .LOOP => 12 | .CALL => 13 | .RET => 14 | .CSRRD => 15 | .CSRWR => 16 | .YIELD => 17 | .HALT => 18
  | .SOPEN => 1 | .SIDX => 2 | .SBLK => 3 | .SLAND => 4 | .SEND => 5 | .RNADD => 6 | .RNSET => 7 | .RNWAIT => 8 | .BAR => 9 | .FENCE => 10 | .MSEST => 11
  | .VADD => 1 | .VSUB => 2 | .VMUL => 3 | .VFMA => 4 | .VMAX => 5 | .VMIN => 6 | .VEXP => 7 | .VRCP => 8 | .VRSQ => 9 | .VCVT => 10 | .VQNT => 11
  | .VDQNT => 12 | .VRED => 13 | .VPERM => 14 | .VSEL => 15 | .VCMP => 16
  | .MLDI => 1 | .MSTW => 2 | .MDRN => 3 | .MPART => 4 | .MCLR => 5

/-- Header bit I of an operand area: an immediate in SA or TR (R101). -/
def Opnd.bitI : Opnd → Bool
  | .sa ⟨_, _, _, .imm _⟩ => true
  | .tr f => f.i
  | _ => false

/-- The operand area of R101, bits 49:0. -/
def Opnd.area : Opnd → Nat
  | .sa f => f.rd.toNat * 2 ^ 45 + f.rs1.toNat * 2 ^ 40 + f.fn.toNat * 2 ^ 32 +
      (match f.src2 with | .imm v => v.toNat | .reg r => r.toNat * 2 ^ 27)
  | .sm f => f.rd.toNat * 2 ^ 45 + f.ab.toNat * 2 ^ 41 + f.fn.toNat * 2 ^ 32 + f.imm.toNat
  | .sb f => f.rs1.toNat * 2 ^ 45 + f.rs2.toNat * 2 ^ 40 + f.fn.toNat * 2 ^ 32 + f.off.toNat
  | .sc f => f.rd.toNat * 2 ^ 45 + f.rs1.toNat * 2 ^ 40 + f.csr.toNat * 2 ^ 28
  | .sn => 0
  | .ts f => f.d.toNat * 2 ^ 46 + f.ar.toNat * 2 ^ 42 + f.rs1.toNat * 2 ^ 37 + f.rs2.toNat * 2 ^ 32 + f.imm.toNat
  | .tx f => f.as_.toNat * 2 ^ 46 + f.ad.toNat * 2 ^ 42 + f.rt.toNat * 2 ^ 37 + f.nrow.toNat * 2 ^ 30 + f.cnt.toNat * 2 ^ 16
  | .tr f => f.cnt.toNat * 2 ^ 36 + f.rc.toNat * 2 ^ 31 + b2n f.xc * 2 ^ 30 + f.rv.toNat * 2 ^ 25 + f.uimm.toNat
  | .tb f => f.kind.toNat * 2 ^ 42 + f.ch0.toNat * 2 ^ 32 + f.nch.toNat * 2 ^ 21 + b2n f.en * 2 ^ 20 + b2n f.clr * 2 ^ 19
  | .vr f => f.vd.toNat * 2 ^ 45 + b2n f.dm * 2 ^ 44 + f.vs1.toNat * 2 ^ 39 + b2n f.m1 * 2 ^ 38 + f.vs2.toNat * 2 ^ 33 + b2n f.m2 * 2 ^ 32 +
      f.vs3.toNat * 2 ^ 27 + f.ty.toNat * 2 ^ 24 + f.pd.toNat * 2 ^ 21 + b2n f.inc * 2 ^ 20 + f.xf.toNat * 2 ^ 16 + f.fn.toNat
  | .mx f => f.slm.toNat * 2 ^ 46 + f.bank.toNat * 2 ^ 44 + b2n f.set * 2 ^ 43 + f.ar.toNat * 2 ^ 39 + f.fmt.toNat * 2 ^ 35 + f.m0.toNat * 2 ^ 29 +
      f.mcnt.toNat * 2 ^ 22 + f.sfb.toNat * 2 ^ 12 + f.ofmt.toNat * 2 ^ 8 + f.mode.toNat * 2 ^ 6 + b2n f.acc * 2 ^ 5 + b2n f.inc * 2 ^ 4 + b2n f.st * 2 ^ 3

/-- The instruction word of R100: E, slot, opcode, I, guard, operand area. -/
def encodeWord (e : Bool) (w : RWord) : Nat :=
  b2n e * 2 ^ 63 + w.mn.slot * 2 ^ 61 + w.mn.op * 2 ^ 55 + b2n w.f.bitI * 2 ^ 54 + w.g.pg.toNat * 2 ^ 51 + b2n w.g.pn * 2 ^ 50 + w.f.area

/-! ### Encoding checks (ILL) -/

/-- The elements of a source or destination of a V-slot instruction in bits: first the destination's, then the source's (R136, R140). -/
def vWidths (mn : Mn) (f : VR) : Nat × Nat :=
  let ty := fmtBits (tyFmt f.ty.toNat)
  let xf := fmtBits f.xf.toNat
  match mn with
  | .VCVT => if f.fn.getLsbD 0 then (ty, xf) else (xf, ty)
  | .VQNT => (xf, ty)
  | .VDQNT => (ty, xf)
  | _ => (ty, ty)

/-- XF codes that a conversion allows (R140). -/
def xfAllowed (mn : Mn) (xf : Nat) : Bool :=
  match mn with
  | .VCVT => decide (xf ≤ 4) || (decide (0xB ≤ xf) && decide (xf ≤ 0xE))
  | .VQNT | .VDQNT => decide (xf ≤ 4)
  | _ => xf == 0

/-- The V-slot field rules of R101, R102, R136 and R140. -/
def vrLegal (mn : Mn) (f : VR) : Bool :=
  let two := match mn with | .VADD | .VSUB | .VMUL | .VFMA | .VMAX | .VMIN | .VPERM | .VSEL | .VCMP => true | _ => false
  let intTy := match mn with | .VEXP | .VRCP | .VRSQ | .VDQNT => false | _ => true
  let fnMax : Nat := match mn with | .VEXP | .VCVT => 1 | .VQNT | .VDQNT => 2047 | .VRED => 2 | .VCMP => 5 | _ => 0
  let usesPD := match mn with | .VSEL | .VCMP => true | _ => false
  let fld (m : Bool) (r : BitVec 5) : Bool := !m || !r.getLsbD 4
  decide (f.ty.toNat ≤ 3) && (intTy || f.ty.toNat != 3)
    && fld f.dm f.vd && fld f.m1 f.vs1 && fld f.m2 f.vs2
    && (two || (!f.m2 && f.vs2 == 0))
    && (mn == .VFMA || f.vs3 == 0)
    && (if usesPD then f.pd != 0 else f.pd == 0)
    && xfAllowed mn f.xf.toNat
    && decide (f.fn.toNat ≤ fnMax)
    && (mn != .VCMP || (!f.dm && f.vd == 0))
    && (!f.inc || f.dm || f.m1 || f.m2)
    && (match mn with
        | .VQNT | .VDQNT => f.fn.getLsbD 10 || decide (bits f.fn.toNat 9 0 + 63 ≤ 1023)
        | _ => true)

/-- FMT codes that MLDI and MSTW allow (R103). -/
def fmtAllowed (c : Nat) : Bool := decide (c ≤ 0xC)

/-- OFMT codes that MDRN allows (R103). -/
def ofmtAllowed (c : Nat) : Bool := c == 0 || c == 1 || c == 3 || c == 4 || (decide (0xB ≤ c) && decide (c ≤ 0xE))

/-- ST and FMT fit together (R141). -/
def stFits (f : MX) : Bool :=
  let c := f.fmt.toNat
  if f.st then decide (c ≤ 2) || (decide (5 ≤ c) && decide (c ≤ 0xA))
  else f.sfb == 0 && !(decide (5 ≤ c) && decide (c ≤ 0xA))

/-- M0 and MCNT name bank rows (R114). -/
def rowsFit (f : MX) : Bool := decide (1 ≤ f.mcnt.toNat) && decide (f.m0.toNat + f.mcnt.toNat ≤ 64)

/-- The M-slot field rules of R141 to R144. -/
def mxLegal (mn : Mn) (f : MX) : Bool :=
  let w := fmtBits f.ofmt.toNat / 8
  f.slm != 0 &&
  match mn with
  | .MLDI => f.bank == 0 && fmtAllowed f.fmt.toNat && f.m0 == 0 && f.mcnt == 0 && stFits f && f.ofmt == 0 && f.mode == 0 && !f.acc
  | .MSTW => fmtAllowed f.fmt.toNat && rowsFit f && stFits f && (!f.st || decide (f.sfb.toNat + f.mcnt.toNat ≤ 1024)) && f.ofmt == 0 && f.mode == 0
  | .MDRN => !f.set && f.fmt == 0 && rowsFit f && ofmtAllowed f.ofmt.toNat && f.mode == 0 && !f.acc
      && (if f.st then decide (f.sfb.toNat + f.mcnt.toNat ≤ 1024) else f.sfb == 0) && (f.mcnt.toNat * w) % 4 == 0
  | .MPART => f.bank == 0 && !f.set && f.ar == 0 && f.fmt == 0 && f.m0 == 0 && f.mcnt == 0 && f.sfb == 0 && f.ofmt == 0 && !f.inc && !f.st
  | .MCLR => !f.set && f.ar == 0 && f.fmt == 0 && f.m0 == 0 && f.mcnt == 0 && f.sfb == 0 && f.ofmt == 0 && f.mode == 0 && !f.acc && !f.inc && !f.st
  | _ => false

/-- The S-slot field rules of R102, R122 and R123. -/
def saLegal (mn : Mn) (f : SA) : Bool :=
  let mods : Nat := match mn with | .ADD | .SUB | .SHL => 1 | .SHR => 3 | _ => 0
  decide (bits f.fn.toNat 5 0 ≤ mods) && (!saRdIsA f || !f.rd.getLsbD 4) && (!saRs1IsA f || !f.rs1.getLsbD 4)

def smLegal (mn : Mn) (f : SM) : Bool :=
  !f.fn.getLsbD 3 && !f.fn.getLsbD 5 && !f.fn.getLsbD 6 && (!f.fn.getLsbD 7 || !f.rd.getLsbD 4) && (mn != .STN || !f.fn.getLsbD 2)

def sbLegal (mn : Mn) (f : SB) : Bool :=
  bits f.off.toNat 2 0 == 0 &&
  match mn with
  | .BRC => decide (f.fn.toNat ≤ 5)
  | .LOOP => f.rs2 == 0 && f.fn == 0 && decide (0 < f.off.toInt)
  | _ => f.rs1 == 0 && f.rs2 == 0 && f.fn == 0

def tsLegal (mn : Mn) (f : TS) : Bool :=
  match mn with
  | .SOPEN => f.rs2 == 0
  | .SLAND => f.d == 0 && f.rs2 == 0
  | _ => true

def trLegal (mn : Mn) (f : TR) : Bool :=
  (f.xc || f.rc == 0) && (f.i || f.uimm == 0) && (mn != .RNWAIT || !f.i || f.rv == 0)

def tbLegal (mn : Mn) (f : TB) : Bool :=
  match mn with
  | .FENCE => f.kind != 0 && decide (f.kind.toNat ≤ 15) && f.ch0 == 0 && f.nch == 0 && !f.en && !f.clr
  | .BAR => f.kind == 0 && f.ch0 == 0 && f.nch == 0 && !f.en && !f.clr
  | _ => f.kind == 0 && decide (1 ≤ f.nch.toNat) && decide (f.ch0.toNat + f.nch.toNat ≤ 1024)

/-- The word keeps R101 to R103 and its mnemonic's own field rules. -/
def RWord.legal (w : RWord) : Bool :=
  match w.f with
  | .sa f => w.mn.layout == .SA && saLegal w.mn f
  | .sm f => w.mn.layout == .SM && smLegal w.mn f
  | .sb f => w.mn.layout == .SB && sbLegal w.mn f
  | .sc f => w.mn.layout == .SC && (w.mn != .CSRRD || f.rs1 == 0)
  | .sn => w.mn.layout == .SN
  | .ts f => w.mn.layout == .TS && tsLegal w.mn f
  | .tx f => w.mn.layout == .TX && f.nrow != 0
  | .tr f => w.mn.layout == .TR && trLegal w.mn f
  | .tb f => w.mn.layout == .TB && tbLegal w.mn f
  | .vr f => w.mn.layout == .VR && vrLegal w.mn f
  | .mx f => w.mn.layout == .MX && mxLegal w.mn f

/-- The slots of a bundle rise in the order S, T, V, M (R97). -/
def slotsRise : List RWord → Bool
  | a :: b :: r => decide (a.mn.slot < b.mn.slot) && slotsRise (b :: r)
  | _ => true

/-- A bundle keeps R97 and every word of it is legal. -/
def bundleLegal (ws : List RWord) : Bool := ws != [] && decide (ws.length ≤ 4) && slotsRise ws && ws.all RWord.legal

end Sys2Proof.Machine
end

