-- ==== Sys2Proof/Machine/Flags.lean ====
section
/-! DEFINITION. The flag computations of FFLAGS (R108) and the lane results of the V slot, with the exceptional operands of R138 and R140. -/

namespace Sys2Proof.Machine
open Sys2Proof

/-- FFLAGS bits (R108). -/
def ffSAT : Nat := 1
def ffOVF : Nat := 2
def ffINV : Nat := 4
def ffDZ : Nat := 8
def ffNANIN : Nat := 16
def ffMSAT : Nat := 32

/-- A flag when a condition holds. -/
def flagIf (b : Bool) (f : Nat) : Nat := if b then f else 0

/-- A lane's result code and the FFLAGS bits it sets. -/
structure LaneRes where
  code : Nat
  fl : Nat
  deriving DecidableEq, Repr

/-- The floating-point format of an element type; none for INT32. -/
def tySpec (ty : Nat) : Option FSpec :=
  match ty with
  | 0 => some fspecFP32
  | 1 => some fspecBF16
  | 2 => some fspecFP16
  | _ => none

def FSpec.canon (f : FSpec) : Nat := f.nan.getD 0

/-- The number a mnemonic has in `Config.zeroSign`: its OP value (R104). -/
def Mn.zs : Mn → Nat
  | .VADD => 1 | .VSUB => 2 | .VMUL => 3 | .VFMA => 4 | .VMAX => 5 | .VMIN => 6 | .VEXP => 7 | .VRCP => 8 | .VRSQ => 9
  | .VCVT => 10 | .VQNT => 11 | .VDQNT => 12 | .VRED => 13 | .VPERM => 14 | .VSEL => 15 | .VCMP => 16
  | _ => 0

/-- An exact INT32 result saturates and sets SAT (R138). -/
def int32Res (v : Int) : LaneRes :=
  let (lo, hi) := intRange true 32
  ⟨ofSigned 32 (clampInt lo hi v), flagIf (clampInt lo hi v != v) ffSAT⟩

/-- A floating-point result rounded once to its type; a finite value beyond the range sets OVF (R138). `zs` is the sign of an exact zero. -/
def FSpec.res (f : FSpec) (zs : Bool) (v : FV) : LaneRes :=
  let r := f.round zs v
  ⟨r.code, flagIf r.beyond ffOVF⟩

/-- Zero times an infinity. -/
def badMul (a b : FV) : Bool := (a.isZero && b.isInf) || (a.isInf && b.isZero)

/-- VADD, VSUB, VMUL and VFMA in one lane (R137, R138). -/
def laneArith (mn : Mn) (ty a b c : Nat) : LaneRes :=
  match tySpec ty with
  | none =>
    let x := toSigned 32 a
    let y := toSigned 32 b
    int32Res (match mn with | .VADD => x + y | .VSUB => x - y | .VMUL => x * y | _ => x * y + toSigned 32 c)
  | some f =>
    let x := f.decode a
    let y := f.decode b
    let z := f.decode c
    let third := mn == .VFMA
    let nan := x.isNan || y.isNan || (third && z.isNan)
    let mul := mn == .VMUL || third
    let inv := mul && badMul x y
    let v : FV :=
      match mn with
      | .VADD => x.add y
      | .VSUB => x.add y.neg
      | .VMUL => x.mul y
      | _ => (x.mul y).add z
    if nan then ⟨f.canon, ffNANIN + flagIf inv ffINV⟩
    else if v.isNan then ⟨f.canon, ffINV⟩
    else f.res (Config.zeroSign mn.zs [ty, a, b, c]) v

/-- VMAX and VMIN in one lane; −0 counts as less than +0 (R137, R138). -/
def laneMinMax (isMax : Bool) (ty a b : Nat) : LaneRes :=
  match tySpec ty with
  | none =>
    let lt := decide (toSigned 32 a < toSigned 32 b)
    ⟨if lt == isMax then b else a, 0⟩
  | some f =>
    let x := f.decode a
    let y := f.decode b
    if x.isNan && y.isNan then ⟨f.canon, ffNANIN⟩
    else if x.isNan then ⟨b, ffNANIN⟩
    else if y.isNan then ⟨a, ffNANIN⟩
    else
      let less := x.lt y || (!(y.lt x) && x.isNeg && !y.isNeg)
      ⟨if less == isMax then b else a, 0⟩

/-- A special function of an FP32 operand: VEXP, VRCP or VRSQ (R137, R138); the bits of an ordinary result are free within the bounds of R138 (log 4). -/
def specialFP32 (mn : Mn) (b2 : Bool) (x : FV) (code : Nat) : LaneRes :=
  let pinf : Nat := 0x7F800000
  let sgn (neg : Bool) (c : Nat) : Nat := if neg then c + 2 ^ 31 else c
  match mn, x with
  | _, .nan => ⟨0x7FC00000, ffNANIN⟩
  | .VEXP, .inf neg => ⟨if neg then 0 else pinf, 0⟩
  | .VRCP, .inf neg => ⟨sgn neg 0, 0⟩
  | _, .inf neg => if neg then ⟨0x7FC00000, ffINV⟩ else ⟨0, 0⟩
  | .VEXP, .fin _ _ _ =>
    let r := (Config.vexp b2 (BitVec.ofNat 32 code)).toNat
    ⟨r, flagIf (r == pinf) ffOVF⟩
  | .VRCP, .fin neg m _ =>
    if m = 0 then ⟨sgn neg pinf, ffDZ⟩
    else
      let r := (Config.vrcp (BitVec.ofNat 32 code)).toNat
      ⟨r, flagIf (r % 2 ^ 31 == pinf) ffOVF⟩
  | _, .fin neg m _ =>
    if m = 0 then ⟨sgn neg pinf, ffDZ⟩
    else if neg then ⟨0x7FC00000, ffINV⟩
    else ⟨(Config.vrsq (BitVec.ofNat 32 code)).toNat, 0⟩

/-- VEXP, VRCP and VRSQ in one lane: computed in FP32 and then rounded to TY (R138). -/
def laneSpecial (mn : Mn) (b2 : Bool) (ty a : Nat) : LaneRes :=
  match tySpec ty with
  | none => ⟨a, 0⟩
  | some f =>
    let x := f.decode a
    let r := specialFP32 mn b2 x (toFP32 x.isNeg x)
    if ty = 0 then r
    else
      let v := ofFP32 r.code
      let q := f.res v.isNeg v
      ⟨q.code, Nat.lor r.fl q.fl⟩

/-- VCMP in one lane: the truth of COND and the flags (R137, R138). -/
def laneCmp (cond ty a b : Nat) : Bool × Nat :=
  let pick (lt gt : Bool) : Bool :=
    match cond with
    | 0 => !lt && !gt
    | 1 => lt || gt
    | 2 => lt
    | 3 => !gt
    | 4 => gt
    | _ => !lt
  match tySpec ty with
  | none => (pick (decide (toSigned 32 a < toSigned 32 b)) (decide (toSigned 32 b < toSigned 32 a)), 0)
  | some f =>
    let x := f.decode a
    let y := f.decode b
    if x.isNan || y.isNan then (cond == 1, ffNANIN) else (pick (x.lt y) (y.lt x), 0)

/-- The conversion results of R140: destination format, zero point of an integer destination, exact value, whether the source itself is NaN. -/
def convRes (dst : Fmt) (zs : Bool) (z : Int) (y : FV) (srcNan : Bool) : LaneRes :=
  let r := dst.round zs z y
  match dst with
  | .int _ _ _ =>
    if y.isNan then ⟨r.code, flagIf srcNan ffNANIN + ffINV⟩ else ⟨r.code, flagIf r.beyond ffSAT⟩
  | .flt _ =>
    if y.isNan then ⟨r.code, if srcNan then ffNANIN else ffINV⟩ else ⟨r.code, flagIf r.beyond ffOVF⟩

/-- A format code as a format; codes that no instruction admits read as INT8. -/
def fmtD (c : Nat) : Fmt := (fmtOf c).getD (.int true 8 0)

def Fmt.isInt : Fmt → Bool
  | .int _ _ _ => true
  | .flt _ => false

/-- The fields of a scale entry (R150). -/
def sfScale (e : Nat) : Nat := bits e 31 0
def sfZP (e : Nat) : Int := toSigned 16 (bits e 47 32)
def sfShift (e : Nat) : Int := toSigned 8 (bits e 55 48)

/-- The multiplier m = SCALE * 2^SHIFT, exact (R150). -/
def sfMul (e : Nat) : FV := (ofFP32 (sfScale e)).scale (sfShift e)

/-- The statistics sample r = rna_fp32(e * e), e = Q - y (R160): none where the source or y is not finite. -/
def sampleOf (src y q : FV) : Option Nat :=
  match src, y with
  | .fin _ _ _, .fin _ _ _ =>
    match q with
    | .fin _ _ _ =>
      let e := q.add y.neg
      some (toFP32 false (e.mul e))
    | _ => some 0x7F800000
  | _, _ => none

/-- VCVT in one lane (R140, R159). -/
def laneCvt (src dst : Nat) (a : Nat) : LaneRes :=
  let y := (fmtD src).decode a
  convRes (fmtD dst) (Config.zeroSign 10 [src, dst, a]) 0 y y.isNan

/-- VQNT in one lane: y = v * m + z (R140, R158); with the sample of R160. -/
def laneQnt (ty xf entry a : Nat) : LaneRes × Option Nat :=
  let dst := fmtD xf
  let v := (fmtD ty).decode a
  let z : Int := if dst.isInt then sfZP entry else 0
  let y := (v.mul (sfMul entry)).add (FV.ofInt z)
  let r := convRes dst (Config.zeroSign 11 [ty, xf, entry, a]) z y v.isNan
  (r, sampleOf v y (dst.decode r.code))

/-- VDQNT in one lane: y = (u - z) * m (R140, R158). -/
def laneDqnt (xf ty entry a : Nat) : LaneRes :=
  let src := fmtD xf
  let u := src.decode a
  let z : Int := if src.isInt then sfZP entry else 0
  let y := (u.add (FV.ofInt (-z))).mul (sfMul entry)
  convRes (fmtD ty) (Config.zeroSign 12 [xf, ty, entry, a]) 0 y u.isNan

/-- One level of the tree of VRED: lanes 2i and 2i + 1 (R137). -/
def redPairs (f : Nat → Nat → LaneRes) : List Nat → List Nat × Nat
  | a :: b :: r =>
    let x := f a b
    let (ys, fl) := redPairs f r
    (x.code :: ys, Nat.lor x.fl fl)
  | r => (r, 0)

/-- The six levels of the tree. -/
def redTree (f : Nat → Nat → LaneRes) : Nat → List Nat → LaneRes
  | 0, xs => ⟨xs.getD 0 0, 0⟩
  | n + 1, xs =>
    let (ys, fl) := redPairs f xs
    let r := redTree f n ys
    ⟨r.code, Nat.lor r.fl fl⟩

/-- VRED over the active lanes (R137, R138): OP 0 SUM, 1 MAX, 2 MIN. A NaN lane decides the result; the flags of the rest of a SUM's tree are set as well. -/
def laneRed (op ty : Nat) (act : List Bool) (xs : List Nat) : LaneRes :=
  let actives := (act.zip xs).filter (·.1) |>.map (·.2)
  match tySpec ty with
  | none =>
    let vs := actives.map (toSigned 32)
    match op with
    | 0 => int32Res (vs.foldl (· + ·) 0)
    | 1 => ⟨ofSigned 32 (vs.foldl max (-(2 ^ 31 : Nat))), 0⟩
    | _ => ⟨ofSigned 32 (vs.foldl min ((2 ^ 31 : Nat) - 1)), 0⟩
  | some f =>
    let nan := actives.any (fun a => (f.decode a).isNan)
    if nan && op != 0 then ⟨f.canon, ffNANIN⟩
    else
      let pinf := f.overCode
      let ninf := f.overCode + 2 ^ (f.width - 1)
      let ident : Nat := match op with | 0 => 0 | 1 => ninf | _ => pinf
      let ins := (act.zip xs).map (fun p => if p.1 then p.2 else ident)
      let node (a b : Nat) : LaneRes :=
        match op with
        | 0 =>
          let x := f.decode a
          let y := f.decode b
          if x.isNan || y.isNan then ⟨f.canon, 0⟩
          else
            let v := x.add y
            if v.isNan then ⟨f.canon, ffINV⟩ else f.res (Config.zeroSign 13 [ty, a, b]) v
        | 1 => laneMinMax true ty a b
        | _ => laneMinMax false ty a b
      let r := redTree node 6 ins
      if nan then ⟨f.canon, Nat.lor ffNANIN r.fl⟩ else r

end Sys2Proof.Machine
end

