-- ==== Sys2Proof/Machine/VSlot.lean ====
section
/-! DEFINITION. The V slot: operand rows, latencies and lane results (R136 to R140). -/

namespace Sys2Proof.Machine
open Sys2Proof

/-- Scale entry sf[j] of a tile as 64 bits (R150, R151). -/
def State.sfEntry (s : State) (t j : Nat) : Nat := s.reg64 .TILE_SFj_LO .TILE_SFj_HI (tix t ++ [j])

/-- The V operand fields that name rows: destination, then the sources, as (is a row, field, width in bits). -/
def vFields (mn : Mn) (f : VR) : List (Bool × Nat × Nat) :=
  let (wd, ws) := vWidths mn f
  [(f.dm, f.vd.toNat % 16, wd), (f.m1, f.vs1.toNat % 16, ws), (f.m2, f.vs2.toNat % 16, if mn = .VPERM then 32 else ws)]

/-- The rows a V instruction reads: address and length. -/
def Ctx.vReads (c : Ctx) (mn : Mn) (f : VR) : List (Nat × Nat) :=
  ((vFields mn f).drop 1).filterMap (fun p => c.vRow p.1 p.2.1 p.2.2)

/-- The lowest fault code of the row operands of a V instruction (R112, R114). -/
def Ctx.vFault (c : Ctx) (mn : Mn) (f : VR) : Option Nat :=
  let cs := (vFields mn f).filterMap (fun p => (c.vRow p.1 p.2.1 p.2.2).bind (fun r => spadCheck r.1 r.2 r.2))
  if cs.contains fSPAD then some fSPAD else cs.head?

/-- The scratchpad rows a V instruction reads (R107). -/
def Ctx.vRows (c : Ctx) (mn : Mn) (f : VR) : List Nat := ((c.vReads mn f).map (fun r => rowsOf r.1 r.2)).flatten

/-- The latency L of R136. -/
def vLat : Mn → Nat
  | .VMUL | .VFMA | .VCVT | .VQNT | .VDQNT => 4
  | .VEXP | .VRCP | .VRSQ => 6
  | .VRED => 8
  | _ => 2

/-- L with the additions of R139 for row sources. -/
def Ctx.vLatency (c : Ctx) (mn : Mn) (f : VR) : Nat :=
  let rows := (c.vReads mn f).map (fun r => r.1 / 256)
  let clash := match rows with | [a, b] => a % 16 == b % 16 | _ => false
  vLat mn + (if rows = [] then 0 else 3) + b2n clash

/-- What a V instruction produces: destination lanes and their mask, predicate bits, flags, statistics samples. -/
structure VOut where
  mask : BitVec 64
  lanes : List Nat
  pbits : BitVec 64
  fl : Nat
  samples : List (Nat × Nat)
  deriving DecidableEq, Repr

/-- A 64-bit mask from its lanes. -/
def maskOf (bs : List Bool) : BitVec 64 :=
  BitVec.ofNat 64 ((bs.zipIdx).foldl (fun a p => a + b2n p.1 * 2 ^ p.2) 0)

/-- The lanes `0 .. 63` mapped by a lane function over the active lanes; an inactive lane contributes nothing. -/
def lanesBy (mask : BitVec 64) (f : Nat → LaneRes) : List Nat × Nat :=
  let rs := (List.range 64).map (fun l => if mask.getLsbD l then f l else ⟨0, 0⟩)
  (rs.map (·.code), rs.foldl (fun a r => Nat.lor a r.fl) 0)

/-- The result of a V instruction with at least one active lane (R137 to R140). -/
def State.vCompute (s : State) (t k : Nat) (mn : Mn) (f : VR) (mask : BitVec 64) : VOut :=
  let c := s.ctxOf t k
  let (wd, ws) := vWidths mn f
  let ty := f.ty.toNat
  let xf := f.xf.toNat
  let a := s.vSrc t k f.m1 (if f.m1 then f.vs1.toNat % 16 else f.vs1.toNat) ws
  let b := s.vSrc t k f.m2 (if f.m2 then f.vs2.toNat % 16 else f.vs2.toNat) (if mn = .VPERM then 32 else ws)
  let d := s.vSrc t k false f.vs3.toNat wd
  let la (l : Nat) : Nat := a.getD l 0
  let lb (l : Nat) : Nat := b.getD l 0
  let base := bits f.fn.toNat 9 0
  let chan (l : Nat) : Nat := if f.fn.getLsbD 10 then base else base + l
  let out (p : List Nat × Nat) : VOut := ⟨mask, p.1, 0, p.2, []⟩
  match mn with
  | .VMAX => out (lanesBy mask (fun l => laneMinMax true ty (la l) (lb l)))
  | .VMIN => out (lanesBy mask (fun l => laneMinMax false ty (la l) (lb l)))
  | .VEXP | .VRCP | .VRSQ => out (lanesBy mask (fun l => laneSpecial mn (f.fn.getLsbD 0) ty (la l)))
  | .VCVT =>
    let (src, dst) := if f.fn.getLsbD 0 then (xf, tyFmt ty) else (tyFmt ty, xf)
    out (lanesBy mask (fun l => laneCvt src dst (la l)))
  | .VQNT =>
    let rs := (List.range 64).map (fun l => if mask.getLsbD l then some (laneQnt (tyFmt ty) xf (s.sfEntry t (chan l)) (la l)) else none)
    let codes := rs.map (fun r => (r.map (·.1.code)).getD 0)
    let fl := rs.foldl (fun x r => Nat.lor x ((r.map (·.1.fl)).getD 0)) 0
    let samples := (rs.zipIdx).filterMap (fun p => p.1.bind (fun q => q.2.map (fun v => (chan p.2, v))))
    ⟨mask, codes, 0, fl, samples⟩
  | .VDQNT => out (lanesBy mask (fun l => laneDqnt xf (tyFmt ty) (s.sfEntry t (chan l)) (la l)))
  | .VRED =>
    let r := laneRed (bits f.fn.toNat 1 0) ty ((List.range 64).map (fun l => mask.getLsbD l)) a
    ⟨1, [r.code], 0, r.fl, []⟩
  | .VPERM => out (lanesBy mask (fun l => ⟨la (lb l % 64), 0⟩))
  | .VSEL =>
    let p := c.rdP f.pd.toNat
    out (lanesBy mask (fun l => ⟨if p.getLsbD l then la l else lb l, 0⟩))
  | .VCMP =>
    let rs := (List.range 64).map (fun l => if mask.getLsbD l then laneCmp (bits f.fn.toNat 2 0) ty (la l) (lb l) else (false, 0))
    ⟨mask, [], maskOf (rs.map (·.1)), rs.foldl (fun x r => Nat.lor x r.2) 0, []⟩
  | _ => out (lanesBy mask (fun l => laneArith mn ty (la l) (lb l) (d.getD l 0)))

/-- The post-increments of a V instruction with INC: each a register once, by the row size of the first field that names it (R139). -/
def vIncs (mn : Mn) (f : VR) : List (Nat × Nat) :=
  if f.inc then
    ((vFields mn f).filter (·.1)).foldl (fun acc p => if acc.any (·.1 == p.2.1) then acc else acc ++ [(p.2.1, rowBytes p.2.2)]) []
  else []

/-- A V instruction's effect at issue: its result, flags and samples land at the latency point `clk + latency`. Operands are read from `s0` (R98). -/
def effV (s0 : State) (t k : Nat) (mn : Mn) (g : Guard) (f : VR) (s : State) : State :=
  let c0 := s0.ctxOf t k
  let mask := c0.guardMask g
  if mask = 0 then s
  else
    let iss := (s0.tile t).clk
    let due := iss + c0.vLatency mn f
    let o := s0.vCompute t k mn f mask
    let lanes := o.lanes.map (BitVec.ofNat 32)
    let (wd, _) := vWidths mn f
    s.updCtx t k (fun c =>
      let c :=
        if mn = .VCMP then c.pushV iss due (.p f.pd.toNat o.mask o.pbits)
        else if f.dm then c.pushV iss due (.row (c0.rdA (f.vd.toNat % 16)).toNat wd o.mask lanes)
        else c.pushV iss due (.v f.vd.toNat o.mask lanes)
      let c := if o.fl = 0 then c else c.pushV iss due (.flags o.fl)
      let c := o.samples.foldl (fun c p => c.pushV iss due (.sample p.1 p.2)) c
      (vIncs mn f).foldl (fun c p => c.pushV iss due (.a p.1 (c0.postInc p.1 p.2))) c)

end Sys2Proof.Machine
end

