-- ==== Sys2Proof/Machine/Matrix.lean ====
section
/-! DEFINITION. The matrix array: groups, the matrix queue, the three engines and the partition control, clock by clock (R77 to R87, R141 to R146, R153 to R161). -/

namespace Sys2Proof.Machine
open Sys2Proof

/-! ### Slices and groups (R79) -/

def Slice.free : Slice := ⟨none, 0, false, 0, false⟩

def Tile.slice (x : Tile) (j : Nat) : Slice := x.slices.get Slice.free j

def Tile.setSlice (x : Tile) (j : Nat) (v : Slice) : Tile := { x with slices := x.slices.put j v }

/-- The slices a mask names, in ascending order. -/
def slicesOf (slm : BitVec 4) : List Nat := (List.range 4).filter (fun j => slm.getLsbD j)

/-- A group: its lowest slice, its number of slices, its first column and its number of columns. -/
structure Grp where
  base : Nat
  n : Nat
  c0 : Nat
  nc : Nat
  deriving DecidableEq, Repr

/-- The groups that SLM names, ordered by slice, then by quadrant (R79, R143). -/
def Tile.groups (x : Tile) (slm : BitVec 4) : List Grp :=
  ((slicesOf slm).map (fun j =>
    match (x.slice j).mode with
    | 0 => [⟨j, 1, 0, 64⟩]
    | 1 => (List.range 4).map (fun q => ⟨j, 1, 16 * q, 16⟩)
    | 2 => if j % 2 = 0 then [⟨j, 2, 0, 64⟩] else []
    | _ => if j = 0 then [⟨0, 4, 0, 64⟩] else [])).flatten

/-- SLM names whole groups (R141). -/
def Tile.wholeGroups (x : Tile) (slm : BitVec 4) : Bool :=
  (slicesOf slm).all (fun j =>
    match (x.slice j).mode with
    | 0 => true
    | 1 => true
    | 2 => slm.getLsbD (j / 2 * 2) && slm.getLsbD (j / 2 * 2 + 1)
    | _ => slm == 15)

/-- The slices whose banks MDRN drains, in ascending order (R144). -/
def Tile.drained (x : Tile) (slm : BitVec 4) : List Nat := ((x.groups slm).map (·.base)).eraseDups

/-- Bytes of weights per MSTW step, over all groups (R143). -/
def Tile.stepBytes (x : Tile) (f : MX) : Nat :=
  (x.groups f.slm).foldl (fun a g => a + 16 * g.n * fmtBits f.fmt.toNat / 8) 0

/-- Scratchpad rows that an MLDI reads per slice: 4, 2 or 8 (R83). -/
def loadRows (f : MX) : Nat := fmtBits f.fmt.toNat / 2

/-- Bytes that an M-slot instruction reads or writes in the scratchpad under the modes in force (R142 to R144). -/
def Tile.mxBytes (x : Tile) (mn : Mn) (f : MX) : Nat :=
  match mn with
  | .MLDI => (slicesOf f.slm).length * loadRows f * 256
  | .MSTW => f.mcnt.toNat * x.stepBytes f
  | .MDRN => (x.drained f.slm).length * 64 * f.mcnt.toNat * (fmtBits f.ofmt.toNat / 8)
  | _ => 0

/-! ### The matrix queue (R82) -/

def Mn.engine : Mn → Engine
  | .MLDI => .loader
  | .MDRN => .drainer
  | .MPART => .partition
  | _ => .streamer

/-- The 8-entry queue holds the instructions that have issued and not started. -/
def Tile.queued (x : Tile) : Nat := (x.mq.filter (fun e => e.run.isNone)).length

def MEnt.occOver (e : MEnt) (clk : Nat) : Bool :=
  match e.run with
  | none => true
  | some r => match r.occEnd with | some c => decide (c ≤ clk) | none => false

/-- The occupancy in clocks that R83 fixes; that of an MLDI is known when it ends (R84). -/
def Tile.occupancy (x : Tile) (e : MEnt) : Option Nat :=
  let m := e.f.mcnt.toNat
  match e.mn with
  | .MLDI => none
  | .MSTW => some (match fmtBits e.f.fmt.toNat with | 4 => (m + 1) / 2 | 16 => 4 * m | _ => m)
  | .MDRN => some ((x.drained e.f.slm).length * (m * (fmtBits e.f.ofmt.toNat / 8) / 4))
  | .MPART => some 4
  | _ => some 1

/-- What the latency adds to the occupancy (R83). -/
def latAfter : Mn → Nat
  | .MLDI => 2
  | .MSTW => 12
  | .MDRN => 4
  | _ => 0

/-- The latency point of a running instruction, once its occupancy is known. -/
def MEnt.latPoint (e : MEnt) : Option Nat := (e.run.bind (·.occEnd)).map (· + latAfter e.mn)

/-- The instruction has reached its latency point in this clock: what waits for it may go on, whether or not MATRIX_COMPLETE has come yet (R83, R133). -/
def Tile.latDone (x : Tile) (e : MEnt) : Bool :=
  match e.latPoint with | some c => decide (c ≤ x.clk) | none => false

/-- Stationary sets and banks an instruction reads, as slice * 8 + set or slice * 8 + 4 + bank (R82). -/
def Tile.mxReads (x : Tile) (mn : Mn) (f : MX) : List Nat :=
  match mn with
  | .MSTW => (slicesOf f.slm).map (fun j => 8 * j + b2n f.set) ++
      (if f.acc then (x.drained f.slm).map (fun j => 8 * j + 4 + f.bank.toNat) else [])
  | .MDRN => (x.drained f.slm).map (fun j => 8 * j + 4 + f.bank.toNat)
  | .MPART => ((slicesOf f.slm).map (fun j => [8 * j, 8 * j + 1, 8 * j + 4, 8 * j + 5, 8 * j + 6, 8 * j + 7])).flatten
  | _ => []

/-- Stationary sets and banks an instruction writes. -/
def Tile.mxWrites (x : Tile) (mn : Mn) (f : MX) : List Nat :=
  match mn with
  | .MLDI => (slicesOf f.slm).map (fun j => 8 * j + b2n f.set)
  | .MSTW => (x.drained f.slm).map (fun j => 8 * j + 4 + f.bank.toNat)
  | .MCLR => (slicesOf f.slm).map (fun j => 8 * j + 4 + f.bank.toNat)
  | .MPART => x.mxReads .MPART f
  | _ => []

def meets (a b : List Nat) : Bool := a.any (fun i => b.contains i)

/-- The instruction waits for an earlier one of its context (R82). -/
def Tile.depends (x : Tile) (before : List MEnt) (e : MEnt) : Bool :=
  before.any (fun p => p.ctx == e.ctx &&
    (meets (x.mxWrites p.mn p.f) (x.mxReads e.mn e.f) || meets (x.mxReads p.mn p.f) (x.mxWrites e.mn e.f)))

/-- The queue split at the first instruction of an engine that has not started. -/
def splitFirst (eng : Engine) : List MEnt → Option (List MEnt × MEnt × List MEnt)
  | [] => none
  | e :: es =>
    if e.mn.engine = eng ∧ e.run.isNone then some ([], e, es)
    else (splitFirst eng es).map (fun p => (e :: p.1, p.2.1, p.2.2))

/-- The next instruction of an engine, if it can start in this clock: the engine is free and nothing earlier holds it (R82). -/
def Tile.startable (x : Tile) (eng : Engine) : Option (List MEnt × MEnt × List MEnt) :=
  match splitFirst eng x.mq with
  | none => none
  | some (pre, e, post) =>
    if x.mq.all (fun p => p.mn.engine ≠ eng || p.occOver x.clk) && !x.depends pre e then some (pre, e, post) else none

/-! ### Element values -/

def StatSet.zero : StatSet := ⟨none, 0, 0, .empty⟩
def Bank.zero : Bank := ⟨false, .empty⟩

def Tile.statSet (x : Tile) (j : Nat) (set : Bool) : StatSet := x.sets.get StatSet.zero (2 * j + b2n set)
def Tile.bank (x : Tile) (j b : Nat) : Bank := x.banks.get Bank.zero (4 * j + b)

/-- Element x[r][c] of a stationary set, as its code (R142). -/
def StatSet.code (y : StatSet) (w r c : Nat) : Nat :=
  let i := c * 16 + r
  let byte := i * w / 8
  let row (b : Nat) : Nat := ((y.rows.get [] (b / 256)).getD (b % 256) 0).toNat
  match w with
  | 4 => bits (row byte) (4 * (i % 2) + 3) (4 * (i % 2))
  | 16 => row byte + 256 * row (byte + 1)
  | _ => row byte

/-- A zero point of R153 from the low bits of a ZP field. -/
def zeroPoint (fmt entry : Nat) : Int :=
  let zp := bits entry 47 32
  match fmt with
  | 0 => toSigned 8 zp
  | 1 => (bits zp 7 0 : Nat)
  | _ => toSigned 4 zp

/-- An operand's exact value under an MX shared scale; S = −128 makes it NaN (R156). -/
def scaled (fmt : Nat) (shift : Int) (code : Nat) : FV :=
  let v := (fmtD fmt).decode code
  if 5 ≤ fmt ∧ fmt ≤ 0xA then (if shift = -128 then .nan else v.scale shift) else v

/-- The weight of row `r` in a group's vector. -/
def weightCode (w : Nat) (bs : List Byte) (r : Nat) : Nat := elemOf w bs r

def isIntFmt (fmt : Nat) : Bool := decide (fmt ≤ 2)

/-- One step on one column of one group: the new bank entry (R143, R153 to R156). -/
def Tile.stepEntry (x : Tile) (f : MX) (sf : Nat) (g : Grp) (ws : List Byte) (old c : Nat) : Nat :=
  let fmt := f.fmt.toNat
  let w := fmtBits fmt
  let live (r : Nat) : Option StatSet :=
    let y := x.statSet (g.base + r / 16) f.set
    if y.fmt = some fmt then some y else none
  if isIntFmt fmt then
    let zw := if f.st then zeroPoint fmt sf else 0
    let val (code : Nat) : Int := match (fmtD fmt).decode code with | .fin s m _ => if s then -(m : Int) else m | _ => 0
    let sum := (List.range (16 * g.n)).foldl (fun a r =>
      match live r with
      | none => a
      | some y => a + (val (weightCode w ws r) - zw) * (val (y.code w (r % 16) c) - y.zx)) 0
    intStep (if f.acc then old else 0) sum
  else
    let prods := (List.range (16 * g.n)).map (fun r =>
      match live r with
      | none => FV.fin false 0 0
      | some y => (scaled fmt (sfShift sf) (weightCode w ws r)).mul (scaled fmt y.scale (y.code w (r % 16) c)))
    fpStep (if f.acc then ofFP32 old :: prods else prods)

/-- One MSTW step on every group: step `i` with its weight bytes (R143). -/
def Tile.mstwStep (x : Tile) (f : MX) (i sf : Nat) (ws : List Byte) : Tile :=
  let row := f.m0.toNat + i
  let go := (x.groups f.slm).foldl (fun (p : Tile × Nat) g =>
    let n := 16 * g.n * fmtBits f.fmt.toNat / 8
    let gw := (ws.drop p.2).take n
    let key := 4 * g.base + f.bank.toNat
    let b := p.1.banks.get Bank.zero key
    let ent := (List.range g.nc).foldl (fun (e : Tab Word) d =>
      let c := g.c0 + d
      e.set 0 (64 * row + c) (BitVec.ofNat 32 (x.stepEntry f sf g gw (b.ent.get 0 (64 * row + c)).toNat c))) b.ent
    ({ p.1 with banks := p.1.banks.put key ⟨!isIntFmt f.fmt.toNat, ent⟩ }, p.2 + n)) (x, 0)
  go.1

/-! ### Statistics (R160, R161) -/

def StatCh.zero : StatCh := ⟨0, 0, false⟩

/-- A sample of this clock on a channel, if the channel is enabled. One produced in the clock after an MSEST with CLR on the channel is dropped (R437). -/
def Tile.addSample (x : Tile) (ch r : Nat) : Tile :=
  if (x.stat.get StatCh.zero ch).en && !x.drop.contains (x.clk, ch) then { x with samples := x.samples ++ [(ch, r)] } else x

/-- A channel takes the samples of one cycle: their exact sum, rounded once into SUM; a full CNT takes none (R161). -/
def StatCh.take (h : StatCh) (rs : List Nat) : StatCh :=
  if h.cnt = 0xFFFFFFFF then h
  else if 0xFFFFFFFF < h.cnt + rs.length then { h with cnt := 0xFFFFFFFF }
  else
    let v := FV.sum (rs.map ofFP32)
    let sum := if h.sum = 0x7F800000 then h.sum else toFP32 false ((ofFP32 h.sum).add v)
    { h with sum := sum, cnt := h.cnt + rs.length }

/-- The samples of the clock that ends go into their channels. -/
def Tile.flushSamples (x : Tile) : Tile :=
  let chs := (x.samples.map (·.1)).eraseDups
  let st := chs.foldl (fun (st : Tab StatCh) ch =>
    st.put ch ((st.get StatCh.zero ch).take ((x.samples.filter (·.1 == ch)).map (·.2)))) x.stat
  { x with stat := st, samples := [] }

/-! ### Requantisation (R157) -/

/-- A drained element: its code, whether it sets MSAT, its sample. -/
structure Drained where
  code : Nat
  msat : Bool
  sample : Option Nat
  deriving DecidableEq, Repr

/-- Conversion of a bank entry by MDRN (R157, R160). -/
def drainElem (f : MX) (fp : Bool) (entry a : Nat) : Drained :=
  let dst := fmtD f.ofmt.toNat
  let v := if fp then ofFP32 a else FV.ofInt (toSigned 32 a)
  let m := if f.st then sfMul entry else FV.ofInt 1
  let z : Int := if f.st && dst.isInt then sfZP entry else 0
  let y := (v.mul m).add (FV.ofInt z)
  let r := dst.round (Config.zeroSign 0x43 [f.ofmt.toNat, b2n fp, entry, a]) z y
  ⟨r.code, r.beyond || (y.isNan && dst.isInt), if f.st then sampleOf v y (dst.decode r.code) else none⟩

/-! ### The engines, clock by clock -/

/-- An instruction that starts: clock 0 is this one. -/
def MEnt.started (e : MEnt) (clk : Nat) (occ : Option Nat) : MEnt :=
  { e with run := some ⟨clk, 0, 0, [], 0, 0, [], false, occ.map (clk + ·)⟩ }

/-- The row an engine reads from the scratchpad, and the bank it uses (R84, R92). -/
def State.feedRow (s : State) (t a : Nat) : List Byte × State :=
  (s.spRd t a 256, s.updTile t (fun x => { x with rdBanks := x.rdBanks ++ [a / 256 % 16] }))

/-- MSTW steps `i .. i + n - 1` from the buffer. -/
def mstwSteps (s : State) (t : Nat) (f : MX) (sz : Nat) : Nat → Nat → List Byte → State × List Byte
  | _, 0, buf => (s, buf)
  | i, n + 1, buf =>
    let sf := if f.st then s.sfEntry t (f.sfb.toNat + i) else 0
    mstwSteps (s.updTile t (fun x => x.mstwStep f i sf (buf.take sz))) t f sz (i + 1) n (buf.drop sz)

/-- One clock of an MSTW (R83, R84): the row it needs, then the steps that end in this clock. A 16-bit step reads its scale entry in its first clock (R151). -/
def tickMstw (s : State) (t : Nat) (e : MEnt) (r : MRun) : State × MRun :=
  let x := s.tile t
  let f := e.f
  let w := fmtBits f.fmt.toNat
  let m := f.mcnt.toNat
  let sz := x.stepBytes f
  let n := r.el
  let need := match w with | 4 => min (2 * (n + 1)) m * sz | 16 => (n + 1) * sz / 4 | _ => (n + 1) * sz
  let occ := (x.occupancy e).getD 0
  if occ ≤ n then (s, { r with el := n + 1 })
  else
    let (bs, s) := if r.rows * 256 < need then s.feedRow t (e.addr + 256 * r.rows) else ([], s)
    let rows := if r.rows * 256 < need then r.rows + 1 else r.rows
    let buf := r.buf ++ bs
    if w = 16 then
      let sf := if n % 4 = 0 then (if f.st then BitVec.ofNat 64 (s.sfEntry t (f.sfb.toNat + n / 4)) else 0) else r.sf
      if n % 4 = 3 then
        (s.updTile t (fun x => x.mstwStep f (n / 4) sf.toNat (buf.take sz)),
          { r with el := n + 1, rows := rows, buf := buf.drop sz, step := n / 4 + 1, sf := sf })
      else (s, { r with el := n + 1, rows := rows, buf := buf, sf := sf })
    else
      let k := if w = 4 then min 2 (m - 2 * n) else 1
      let (s, buf) := mstwSteps s t f sz r.step k buf
      (s, { r with el := n + 1, rows := rows, buf := buf, step := r.step + k })

/-- One clock of an MLDI: one row, if the streamer leaves the read clock free (R84, R142). -/
def tickMldi (s : State) (t : Nat) (e : MEnt) (r : MRun) (free : Bool) : State × MRun :=
  let per := loadRows e.f
  let js := slicesOf e.f.slm
  let total := js.length * per
  if r.rows < total ∧ free then
    let (bs, s) := s.feedRow t (e.addr + 256 * r.rows)
    let key := 2 * js.getD (r.rows / per) 0 + b2n e.f.set
    let s := s.updTile t (fun x =>
      let y := x.sets.get StatSet.zero key
      { x with sets := x.sets.put key { y with rows := y.rows.put (r.rows % per) bs } })
    let done := r.rows + 1
    (s, { r with el := r.el + 1, rows := done, occEnd := if done = total then some ((s.tile t).clk + 1) else none })
  else (s, { r with el := r.el + 1 })

/-- The elements of span `k` of a bank's drain: (column, row within the drain) in destination order (R144). -/
def spanElems (m w k : Nat) : List (Nat × Nat) :=
  (List.range (256 / w)).map (fun q => ((256 * k / w + q) / m, (256 * k / w + q) % m))

/-- One clock of an MDRN: a span is converted, and the span of four clocks ago is written (R144). -/
def tickMdrn (s : State) (t : Nat) (e : MEnt) (r : MRun) : State × MRun :=
  let x := s.tile t
  let f := e.f
  let m := f.mcnt.toNat
  let w := fmtBits f.ofmt.toNat / 8
  let per := m * w / 4
  let js := x.drained f.slm
  let n := r.el
  let (x, outs, msat) :=
    if n < js.length * per then
      let j := n / per
      let b := x.bank (js.getD j 0) f.bank.toNat
      let go := (spanElems m w (n % per)).foldl (fun (p : Tile × List Byte × Bool) q =>
        let row := f.m0.toNat + q.2
        let entry := if f.st then s.sfEntry t (f.sfb.toNat + q.2) else 0
        let d := drainElem f b.fp entry (b.ent.get 0 (64 * row + q.1)).toNat
        let y := match d.sample with | some v => p.1.addSample (f.sfb.toNat + q.2) v | none => p.1
        (y, p.2.1 ++ leBytes w d.code, p.2.2 || d.msat)) (x, [], r.msat)
      (go.1, r.outs ++ [⟨x.clk + 4, e.addr + j * 64 * m * w + 256 * (n % per), go.2.1⟩], go.2.2)
    else (x, r.outs, r.msat)
  let s := s.setTile t x
  let now := outs.filter (fun o => decide (o.due ≤ x.clk))
  let s := now.foldl (fun s o =>
    (s.spWrRows t o.addr o.bytes).updTile t (fun x => { x with wrBanks := x.wrBanks ++ [o.addr / 256 % 16] })) s
  (s, { r with el := n + 1, outs := outs.filter (fun o => decide (x.clk < o.due)), msat := msat })

/-- The streamer has read a row in this clock. -/
def readsNow (r0 r1 : MRun) : Bool := r0.rows != r1.rows

/-- One clock of one engine's running instructions, in issue order. -/
def tickEngine (eng : Engine) (t : Nat) : State × Bool → MEnt → State × Bool
  | (s, fed), e =>
    match e.run with
    | none => (s, fed)
    | some r =>
      if e.mn.engine ≠ eng then (s, fed)
      else
        let (s', r') := match e.mn with
          | .MSTW => tickMstw s t e r
          | .MLDI => tickMldi s t e r (!fed)
          | .MDRN => tickMdrn s t e r
          | _ => (s, { r with el := r.el + 1 })
        let fed' := fed || (eng == .streamer && readsNow r r')
        (s'.updTile t (fun x => { x with mq := updFirst (fun p => p.id == e.id) (fun p => { p with run := some r' }) x.mq }), fed')

/-- One clock of every engine: streamer, loader, drainer, partition control (R84, R93: reads before writes). -/
def State.tickEngines (s : State) (t : Nat) : State :=
  let mq := (s.tile t).mq
  let (s, fed) := mq.foldl (tickEngine .streamer t) (s, false)
  let (s, fed) := mq.foldl (tickEngine .loader t) (s, fed)
  let (s, fed) := mq.foldl (tickEngine .drainer t) (s, fed)
  (mq.foldl (tickEngine .partition t) (s, fed)).1

/-- An M-slot instruction's effect at issue: it enters the matrix queue; INC adds the bytes it reads or writes, visible after one clock (R82, R113). -/
def effM (s0 : State) (t k : Nat) (mn : Mn) (f : MX) (s : State) : State :=
  let c0 := s0.ctxOf t k
  let x0 := s0.tile t
  let addr := (c0.rdA f.ar.toNat).toNat
  let s := s.updTile t (fun x => { x with nid := x.nid + 1, mq := x.mq ++ [⟨x.nid, k, c0.pc, mn, f, addr, x0.clk, none⟩] })
  if f.inc then s.updCtx t k (fun c => c.push (x0.clk + 1) (.a f.ar.toNat (c0.postInc f.ar.toNat (x0.mxBytes mn f)))) else s

/-- The scratchpad operand of an M-slot instruction: address and bytes; none where it has none. -/
def State.mxRow (s : State) (t k : Nat) (mn : Mn) (f : MX) : Option (Nat × Nat) :=
  match mn with
  | .MLDI | .MSTW | .MDRN => some (((s.ctxOf t k).rdA f.ar.toNat).toNat, (s.tile t).mxBytes mn f)
  | _ => none

/-- The rows an M-slot instruction reads, for the landing check of R81. -/
def State.mxRows (s : State) (t k : Nat) (mn : Mn) (f : MX) : List Nat :=
  match mn, s.mxRow t k mn f with
  | .MDRN, _ => []
  | _, some (a, n) => rowsOf a n
  | _, none => []

end Sys2Proof.Machine
end

