-- ==== Sys2Proof/Machine/MemOps.lean ====
section
/-! DEFINITION. Reads and writes of vat, LPDDR5X and the SRAMs as an initiator meets them: codes and poison (R290, R294, R306), sealed regions (R301 to R304),
and the device MMU (R297 to R299). -/

namespace Sys2Proof.Machine
open Sys2Proof

/-! ### Sealed regions -/

/-- First byte, data end and tag end of sealed region `r` (R301). -/
def State.sealRange (s : State) (r : Nat) : Nat × Nat × Nat :=
  let b := s.fld .FAB_SEALr_BASE [r] 27 0 * 65536
  let n := s.fld .FAB_SEALr_SIZE [r] 27 0
  (b, b + n * 65536, b + n * 65536 + n * 8192)

/-- SEAL and SEALED of a region; both reset to 0. -/
def State.sealBit (s : State) (r : Nat) : Bool := bit (s.regs.get 0 (Reg.adr .FAB_SEALr_CTRL [r])).toNat 0
def State.sealedBit (s : State) (r : Nat) : Bool := bit (s.regs.get 0 (Reg.adr .FAB_SEALr_CTRL [r])).toNat 1

/-- The regions whose SEAL or SEALED is 1 (R303). A region that has never been touched reads 0 and is not one. -/
def State.blockedRegions (s : State) : List Nat := (upTo 64).filter (fun r => s.sealBit r || s.sealedBit r)

/-- The write-blocked region, data or tags, that `a .. a + n - 1` meets (R303). -/
def State.blockedBy (s : State) (a n : Nat) : Option Nat :=
  s.blockedRegions.find? (fun r => let (b, _, t) := s.sealRange r; decide (a < t) && decide (b < a + n))

/-- The region inside whose data `a` lies while SEALED is 1 (R302). -/
def State.sealedAt (s : State) (a : Nat) : Option Nat :=
  s.blockedRegions.find? (fun r => let (b, d, _) := s.sealRange r; s.sealedBit r && decide (b ≤ a) && decide (a < d))

/-- `a` lies in the tag area of a region whose SEAL or SEALED is 1 (R303). -/
def State.inTags (s : State) (a : Nat) : Bool :=
  s.blockedRegions.any (fun r => let (_, d, t) := s.sealRange r; decide (d ≤ a) && decide (a < t))

def State.sealSt (s : State) (r : Nat) : SealSt := s.fab.seals.get ⟨0, false, false⟩ r

def State.setSeal (s : State) (r : Nat) (v : SealSt) : State := { s with fab := { s.fab with seals := s.fab.seals.put r v } }

/-- The tag of the 64-byte line at `a` of region `r` (R304). -/
def State.lineTag (s : State) (r a : Nat) : DWord := Config.sealTag (s.mem.rdBytes a 64) a r (s.sealSt r).gen

/-- The tag stored for the line at `a` of region `r` is the line's tag (R301, R304). -/
def State.tagGood (s : State) (r a : Nat) : Bool :=
  let (b, d, _) := s.sealRange r
  s.mem.rdLE (d + (a - b) / 64 * 8) 8 == (s.lineTag r a).toNat

/-- The 64-byte lines that a range touches. -/
def linesOf (a n : Nat) : List Nat := if n = 0 then [] else (List.range ((a + n - 1) / 64 - a / 64 + 1)).map (fun i => (a / 64 + i) * 64)

/-- The sealed lines of a range whose tag does not match, with their regions. -/
def State.badLines (s : State) (a n : Nat) : List (Nat × Nat) :=
  (linesOf a n).filterMap (fun l => (s.sealedAt l).bind (fun r => if s.tagGood r l then none else some (r, l)))

/-! ### Codes -/

/-- The enabled channels of the interleave, upward from 0, as the last INIT read them (R293). -/
def State.channels (s : State) : List Nat := (upTo 32).filter (fun i => bit s.fab.lpxEn i)

/-- The controller that serves an LPDDR5X address (R291, R293). -/
def State.controllerOf (s : State) (a : Nat) : Nat :=
  let n := s.fld .LPX_GSTAT [] 13 8
  s.channels.getD ((a - lpxBase) / 64 % n) 0 / 4

/-- What a read's code reports: CE and UE counters and the classes MEM_CE and MEM_UE (R290, R294, R395). -/
def State.eccReport (s : State) (a src : Nat) : Ecc → State
  | .clean => s
  | .corrected =>
    match s.region a with
    | .vat c => (s.satInc .VAT_ERRc [c] 31 16 1).signal 3 1 src c a
    | .lpx => let k := s.controllerOf a; (s.satInc .LPX_ERRk [k] 31 20 1).signal 3 2 src k a
    | .spad t => s.signal 3 3 src (slotOf t) a
    | _ => s.signal 3 4 src 0 a
  | .uncorrectable =>
    match s.region a with
    | .vat c => (s.satInc .VAT_ERRc [c] 15 8 1).signal 4 1 src c a
    | .lpx => let k := s.controllerOf a; (s.satInc .LPX_ERRk [k] 19 12 1).signal 4 2 src k a
    | .spad t => s.signal 4 3 src (slotOf t) a
    | _ => s.signal 4 4 src 0 a

/-- What a memory read returns. -/
structure MemRead where
  bytes : List Byte
  poison : Bool
  deriving DecidableEq, Repr

/-- A read of `n` bytes at `a`: the code's outcome, stored poison, tag mismatches, tag areas read as zeros (R290, R294, R303, R304, R306). -/
def State.memRead (s : State) (a n src : Nat) (ecc : Ecc) : MemRead × State :=
  let bad := s.badLines a n
  let bytes := (s.mem.rdBytes a n).zipIdx.map (fun p => if s.inTags (a + p.2) then 0 else p.1)
  let stored := s.poisoned a n
  let s1 := if stored then s else s.eccReport a src ecc
  let s2 := bad.foldl (fun s p => (s.satInc .FAB_SEALr_CNT [p.1] 31 16 1).signal 5 0 0xD8 p.1 p.2) s1
  (⟨bytes, stored || decide (ecc = .uncorrectable) || bad != []⟩, s2)

/-! ### Locked SRAM ranges -/

def schBase (c : Nat) : Nat := 0x41000000 + c * 0x40000
def appBase (g : Nat) : Nat := 0x42000000 + g * 0x80000

/-- LOCK_4K of a scheduler core in bytes, of an application-core group in bytes (R317, table of SEC_APPg). -/
def State.schLocked (s : State) (c : Nat) : Nat := if s.flag .SCH_CTRL [c] 2 then max 1 (min 63 (s.fld .SCH_CTRL [c] 14 8)) * 4096 else 0
def State.appLocked (s : State) (g : Nat) : Nat := if s.flag .SEC_APPg [g] 15 then max 1 (s.fld .SEC_APPg [g] 6 0) * 4096 else 0

/-- A byte lies in a locked range of a processor SRAM (R317, table of SEC_APPg). -/
def State.meetsLock (s : State) (a : Nat) : Bool :=
  match s.region a with
  | .sched c => decide (a < schBase c + s.schLocked c)
  | .app g => decide (a < appBase g + s.appLocked g)
  | _ => false

/-- A write by a unit of the device to vat, LPDDR5X or an SRAM: refused inside a write-blocked region, recorded as DENIED and counted in BLOCKED (R303), and in a locked range (R317).
The register space takes only words (R32), the island SRAM no other initiator than the island (R315), and an address outside any memory nothing (R33). -/
def State.memWrite (s : State) (ini : Initiator) (a : Nat) (bs : List Byte) (poison : Bool := false) : Bool × State :=
  let refuse (code : Nat) (s : State) : Bool × State := (false, s.accessError code ini a (leNat (bs.take 4)))
  match s.region a with
  | .control => refuse 1 s
  | .none => refuse 2 s
  | .island => refuse 3 s
  | _ =>
    match s.blockedBy a bs.length with
    | some r => refuse 3 (s.satInc .FAB_SEALr_CNT [r] 15 0 1)
    | none => if s.meetsLock a then refuse 3 s else (true, if poison then s.wrPoisoned a bs else s.wrMem a bs)

/-! ### The device MMU (R297 to R299) -/

/-- The kind of an access to be translated. -/
inductive Acc where
  | rd | wr | ex
  deriving DecidableEq, Repr

/-- MMU_FLOG kinds. -/
def kNOTVALID : Nat := 1
def kPERM : Nat := 2
def kBADENTRY : Nat := 3
def kWALKFAIL : Nat := 4
def kDISABLED : Nat := 5
def kRANGE : Nat := 6

/-- The outcome of a walk: a translation or a fault kind. -/
inductive WalkRes where
  | ok (t : Tlb) | bad (kind : Nat)
  deriving DecidableEq, Repr

/-- The zero fields of a table entry are zero (R298). -/
def entryZeros (e : Nat) : Bool := bits e 7 5 == 0 && bits e 63 44 == 0

/-- A leaf at level 1 or 2 maps a vat or usable LPDDR5X, with its alignment (R298). -/
def State.leafOf (s : State) (mctx va size e : Nat) : WalkRes :=
  let pa := bits e 43 8 * 256
  if pa % size ≠ 0 ∨ !(s.region pa).isVatOrLpx ∨ !s.oneRegion pa size then .bad kBADENTRY
  else .ok ⟨mctx, va / size * size, pa, size, bit e 2, bit e 3, bit e 4⟩

/-- A table read: it fails outside any memory and on poison (KIND WALKFAIL). -/
def State.tableRead (s : State) (a : Nat) : Option Nat :=
  if !(s.region a).isVatOrLpx ∨ s.poisoned a 8 ∨ s.badLines a 8 ≠ [] then none else some (s.mem.rdLE a 8)

/-- The walk of a virtual address in an MMU context; `unc` tells that a table read met an uncorrectable error (R298, R299). -/
def State.walk (s : State) (mctx va : Nat) (unc : Bool) : WalkRes :=
  if !s.flag .MMU_ROOTc [mctx] 31 then .bad kDISABLED
  else if unc then .bad kWALKFAIL
  else
    match s.tableRead (s.fld .MMU_ROOTc [mctx] 26 0 * 131072 + bits va 47 34 * 8) with
    | none => .bad kWALKFAIL
    | some e0 =>
      if !bit e0 0 then .bad kNOTVALID
      else if !entryZeros e0 ∨ !bit e0 1 ∨ bits e0 43 8 * 256 % 65536 ≠ 0 then .bad kBADENTRY
      else
        match s.tableRead (bits e0 43 8 * 256 + bits va 33 21 * 8) with
        | none => .bad kWALKFAIL
        | some e1 =>
          if !bit e1 0 then .bad kNOTVALID
          else if !entryZeros e1 then .bad kBADENTRY
          else if !bit e1 1 then s.leafOf mctx va 0x200000 e1
          else
            match s.tableRead (bits e1 43 8 * 256 + bits va 20 16 * 8) with
            | none => .bad kWALKFAIL
            | some e2 =>
              if !bit e2 0 then .bad kNOTVALID
              else if !entryZeros e2 ∨ bit e2 1 then .bad kBADENTRY
              else s.leafOf mctx va 0x10000 e2

/-- R for reads, W for writes, X alone for instruction fetch (R298). -/
def Tlb.allows (t : Tlb) : Acc → Bool
  | .rd => t.r
  | .wr => t.w
  | .ex => t.x

def Tlb.hits (t : Tlb) (mctx va : Nat) : Bool := t.mctx == mctx && decide (t.va ≤ va) && decide (va < t.va + t.size)

/-- The physical address of `va` through a translation. -/
def Tlb.map (t : Tlb) (va : Nat) : Nat := t.pa + (va - t.va)

def lookupTlb (ts : List Tlb) (mctx va : Nat) : Option Tlb := ts.find? (fun t => t.hits mctx va)

/-- A 64-entry buffer takes a translation; the oldest leaves a full one (log 9). -/
def fillTlb (ts : List Tlb) (t : Tlb) : List Tlb := (if 64 ≤ ts.length then ts.drop 1 else ts) ++ [t]

/-- The first fault since VALID was cleared is logged (MMU_FLOG). SRC: 0 stream, 1 fetch, 2 scale loader, 3 attention, 4 codec. -/
def State.logFault (s : State) (src kind mctx va : Nat) : State :=
  if s.flag .MMU_FLOG_HI [] 31 then s
  else
    (s.setReg .MMU_FLOG_LO [] (va % 2 ^ 32)).setReg .MMU_FLOG_HI []
      (2 ^ 31 + src * 2 ^ 28 + kind * 2 ^ 24 + mctx * 2 ^ 16 + bits va 47 32)

end Sys2Proof.Machine
end

