-- ==== Sys2Proof/Machine/Counters.lean ====
section
/-! DEFINITION. Rennet counters, their waiters, the hoop audit and the barrier unit (R131, R132, R170 to R182). -/

namespace Sys2Proof.Machine
open Sys2Proof

/-- An error signal of a unit to which R397 gives no SRC code: SRC is a free value (log 14). -/
def State.signalU (s : State) (cls code inst : Nat) (addr data : Nat := 0) : State :=
  let (v, s) := s.free 8
  s.signal cls code v inst addr data

/-! ### Hoop audit -/

def State.setHoop (s : State) (key : Nat) (h : Hoop) : State := { s with fab := { s.fab with hoops := s.fab.hoops.put key h } }

/-- A counter lies in the local range of cluster `c` (R25). -/
def localTo (c k : Nat) : Bool := decide (c * 3584 ≤ k) && decide (k < c * 3584 + 3584)

/-- An error of kind 1 OVERRUN, 2 UNDERRUN or 3 RESET at record `[c, h]`: the first latches, later ones count in MORE (R178, R179). -/
def State.hoopError (s : State) (is : List Nat) (kind started drained : Nat) : State :=
  if s.flag .CLU_HOOPh_LOG is 31 ∨ s.fld .CLU_HOOPh_LOG is 30 29 ≠ 0 then s.satInc .CLU_HOOPh_LOG is 15 0 1
  else (s.setFld .CLU_HOOPh_LOG is 30 29 kind).setReg .CLU_HOOPh_TALLY is (started % 65536 * 65536 + drained % 65536)

/-- An armed record examines an operation on counter `k` (R178). -/
def State.hoopExamine (s : State) (k : Nat) (isSet : Bool) (e : Nat × Hoop) : State :=
  let is := [e.1 / 64, e.1 % 64]
  let fc := s.fld .CLU_HOOPh_FILL is 13 0
  let dc := s.fld .CLU_HOOPh_DRAIN is 13 0
  if !s.flag .CLU_HOOPh_CFG is 31 ∨ (k ≠ fc ∧ k ≠ dc) then s
  else
    let fu := 2 ^ s.fld .CLU_HOOPh_FILL is 19 16
    let du := 2 ^ s.fld .CLU_HOOPh_DRAIN is 19 16
    let fd := (s.reg .RNT_VALk [fc] + 2 ^ 32 - e.2.f0) % 2 ^ 32
    let dd := (s.reg .RNT_VALk [dc] + 2 ^ 32 - e.2.d0) % 2 ^ 32
    let started := (fd + fu - 1) / fu
    let filled := fd / fu
    let drained := dd / du
    let slots := max 1 (min 4096 (s.fld .CLU_HOOPh_CFG is 12 0))
    if isSet then s.hoopError is 3 started drained
    else if drained + slots < started then s.hoopError is 1 started drained
    else if filled < drained then s.hoopError is 2 started drained
    else s

/-! ### Counters -/

/-- One operation on a counter, with the hoop audit of R178. -/
def State.counterOp (s : State) (k : Nat) (op : CtrOp) : State :=
  let old := s.reg .RNT_VALk [k]
  let (new, isSet) := match op with | .add v => ((old + v) % 2 ^ 32, false) | .set v => (v % 2 ^ 32, true)
  let s := s.setReg .RNT_VALk [k] new
  s.fab.hoops.entries.foldl (fun s e => s.hoopExamine k isSet e) s

/-- The counter number of format TR: CNT + s[RC] when XC = 1, CNT otherwise (R131). -/
def Ctx.trCounter (c : Ctx) (f : TR) : Nat := f.cnt.toNat + (if f.xc then (c.rdS f.rc.toNat).toNat else 0)

/-- The operand of format TR: UIMM, or bits 31:0 of s[RV] (R131). -/
def Ctx.trValue (c : Ctx) (f : TR) : Nat := if f.i then f.uimm.toNat else (c.rdS f.rv.toNat).toNat % 2 ^ 32

/-- The counter and threshold of the enabled RNWAIT of a bundle, if it has one. -/
def Ctx.rnWait (c : Ctx) (ws : List RWord) : Option (Nat × Nat) :=
  ws.findSome? (fun w =>
    match w.f with
    | .tr f => if w.mn = .RNWAIT ∧ c.guardS w.g then some (c.trCounter f, c.trValue f) else none
    | _ => none)

/-- A context parked on counter `k` is woken when the counter's value meets its threshold (R131, R132). -/
def Ctx.wakeOn (c : Ctx) (k v : Nat) : Ctx :=
  match c.st, c.held with
  | .park, some ws =>
    match c.rnWait ws with
    | some (k', th) => if k' = k ∧ th ≤ v then { c with woken := true } else c
    | none => c
  | _, _ => c

/-- Every context of every tile passes through `f`. -/
def State.mapCtx (s : State) (f : Nat → Nat → Ctx → Ctx) : State :=
  { s with tiles := ⟨s.tiles.entries.map (fun e =>
      (e.1, { e.2 with ctx := ⟨e.2.ctx.entries.map (fun p => (p.1, f e.1 p.1 p.2))⟩ }))⟩ }

/-- The waiters of counter `k` are compared with its value after a batch (R132, R170). -/
def State.wakeCounter (s : State) (k : Nat) : State :=
  let v := s.reg .RNT_VALk [k]
  s.mapCtx (fun _ _ c => c.wakeOn k v)

/-- One operation as a batch of its own: register writes, SEND rows, window arrivals, engines (R130, R170, R173). -/
def State.counterNow (s : State) (k : Nat) (op : CtrOp) : State := (s.counterOp k op).wakeCounter k

/-- A batch of in-flight operations in ascending order of initiator; old values start back (R131, R132). -/
def State.counterBatch (s : State) (k : Nat) (ms : List CtrMsg) : State :=
  let sorted := sortBy (fun (m : CtrMsg) => m.order) ms
  let s := sorted.foldl (fun s m =>
    let old := s.reg .RNT_VALk [k]
    let s := s.counterOp k m.op
    match m.back with
    | some (t, c, rv) => { s with fab := { s.fab with olds := s.fab.olds ++ [⟨t, c, rv, old⟩] } }
    | none => s) s
  s.wakeCounter k

/-- Contexts parked on counter `k` (RNT_WAITk.PARKED). -/
def State.parkedOn (s : State) (k : Nat) : Nat :=
  s.tiles.entries.foldl (fun n e => e.2.ctx.entries.foldl (fun n p =>
    match p.2.st, p.2.held with
    | .park, some ws => if (p.2.rnWait ws).map (·.1) = some k then n + 1 else n
    | _, _ => n) n) 0

/-! ### Barriers (R180, R181) -/

def State.barArrived (s : State) (j : Nat) : Nat := s.fld .FAB_BARj [j] 31 16
def State.barExpect (s : State) (j : Nat) : Nat := s.fld .FAB_BARj [j] 15 0
def State.barBroken (s : State) (j : Nat) : Bool := s.flag .FAB_BARj_STAT [j] 16

def State.spare (s : State) (c : Nat) : Option Spare := s.spares.find c

/-- The physical slot that a sparing in progress keeps parked at a barrier completion (R403). -/
def State.spareHolds (s : State) (t : Nat) : Bool :=
  match s.spare (clusterOf t) with
  | some sp => sp.st != .waiting && s.physOf (clusterOf t) sp.ltile == t
  | none => false

/-- The sparings that wait for barrier `j` begin to hold their tiles (R402, R403). -/
def State.spareAtBarrier (s : State) (j : Nat) : State :=
  { s with spares := ⟨s.spares.entries.map (fun e => (e.1, if e.2.jid = some j ∧ e.2.st = .waiting then { e.2 with st := .holding } else e.2))⟩ }

/-- Completion: ARRIVED returns to 0, GEN increments, the parked members wake but for a tile that a sparing holds, latched hoop records log (R179, R180, R403). -/
def State.barComplete (s : State) (j : Nat) : State :=
  let s := s.setFld .FAB_BARj [j] 31 16 0
  let s := s.setFld .FAB_BARj_STAT [j] 15 0 (s.fld .FAB_BARj_STAT [j] 15 0 + 1)
  let s := s.spareAtBarrier j
  let s' := s.mapCtx (fun t _ c => if c.bar = .sent ∧ s.jobOf t = some j ∧ !s.spareHolds t then { c with bar := .woken } else c)
  let logs := (s.fab.hoops.entries.map (·.1)).filter (fun e =>
    let is := [e / 64, e % 64]
    s.flag .CLU_HOOPh_CFG is 31 && s.fld .CLU_HOOPh_CFG is 20 13 == j && s.fld .CLU_HOOPh_LOG is 30 29 != 0)
  { s' with fab := { s'.fab with hoopLogs := s'.fab.hoopLogs ++ logs.map (fun e => (e / 64, e % 64)) } }

/-- An arrival at barrier `j`: counted toward EXPECT, and the completion in the same cycle unless BROKEN (R180, R181). -/
def State.barArrive (s : State) (j : Nat) : State :=
  let n := s.barArrived j + 1
  let s := s.setFld .FAB_BARj [j] 31 16 (min n 65535)
  if s.barBroken j then s
  else if s.barExpect j ≤ n then s.barComplete j
  else s

/-- A member context faults or is stopped while arrivals are pending (R181). -/
def State.barBreak (s : State) (t : Nat) : State :=
  match s.jobOf t with
  | none => s
  | some j => if s.barArrived j = 0 then s else s.setFlag .FAB_BARj_STAT [j] 16 true

end Sys2Proof.Machine
end

