-- ==== Sys2Proof/Machine/Streams.lean ====
section
/-! DEFINITION. Streams: descriptors, the address generator, the request queues, fetches and landings, the regulator, the scale loader
(R152, R189 to R200, R206 to R209). -/

namespace Sys2Proof.Machine
open Sys2Proof

/-! ### Descriptors (R189, R190, R206, R207) -/

def Desc.kind (d : Desc) : Nat := bits d.ctl 1 0
def Desc.isWrite (d : Desc) : Bool := bit d.ctl 2
def Desc.isGen (d : Desc) : Bool := bit d.ctl 3
def Desc.isU16 (d : Desc) : Bool := bit d.ctl 4
def Desc.elog (d : Desc) : Nat := bits d.ctl 11 8
def Desc.fill (d : Desc) : Byte := BitVec.ofNat 8 (bits d.ctl 23 16)

/-- Byte `i` of GEN, and the 16-bit field there. -/
def Desc.g8 (d : Desc) (i : Nat) : Nat := (d.gen.getD i 0).toNat
def Desc.g16 (d : Desc) (i : Nat) : Nat := d.g8 i + 256 * d.g8 (i + 1)
def Desc.g32 (d : Desc) (i : Nat) : Nat := d.g16 i + 65536 * d.g16 (i + 2)

/-- CCNT; 0 is read as 256 (R206). -/
def Desc.ccnt (d : Desc) : Nat := if d.g8 6 = 0 then 256 else d.g8 6

/-- Chunks per group of GRP (R206). -/
def Desc.grp (d : Desc) : Nat := 2 ^ bits (d.g8 7) 1 0

/-- The generator reads the own scratchpad (R209). -/
def Desc.local (d : Desc) : Bool := d.isGen && bit (d.g8 7) 2

/-- The rules of R207. -/
def Desc.genValid (d : Desc) : Bool :=
  decide (1 ≤ d.g16 0) && decide (1 ≤ d.g16 2) && decide (d.ccnt ≤ d.g16 4) && bits (d.g8 7) 1 0 != 3 && bits (d.g8 7) 7 3 == 0
    && decide (1 ≤ d.g16 16) && decide (1 ≤ d.g16 18)
    && decide (1 ≤ d.g8 20) && decide (d.g8 20 ≤ 7) && decide (1 ≤ d.g8 21) && decide (d.g8 21 ≤ 7)
    && decide (1 ≤ d.g8 22) && decide (1 ≤ d.g8 23) && decide (1 ≤ d.g8 24) && decide (1 ≤ d.g8 25)
    && (!bit (d.g8 7) 2 || decide (d.base < 2 ^ 20))

/-- The descriptor in 64 bytes, with `off` added to BASE; none where it is invalid (R190). -/
def descOf (bs : List Byte) (off : Int) : Option Desc :=
  let le (i n : Nat) : Nat := leNat ((bs.drop i).take n)
  let base0 := le 0 8
  let sum : Int := (base0 : Int) + off
  let d : Desc := ⟨sum.toNat, le 8 4, le 12 4, le 16 8, le 24 4, bs.drop 32⟩
  let zeros := bits base0 63 48 == 0 && bits d.ctl 7 5 == 0 && bits d.ctl 15 12 == 0 && bits d.ctl 31 24 == 0
    && bits d.ibase 63 48 == 0 && le 28 4 == 0 && (d.isGen || le 32 32 == 0)
  let baseOk := decide (0 ≤ sum) && decide (sum < (2 ^ 48 : Nat)) && d.base % 16 == 0
  let gather := decide (4 ≤ d.elog) && d.step % 16 == 0 &&
    (if d.isGen then d.ibase == 0 && !d.isU16 && d.genValid else d.ibase % (if d.isU16 then 2 else 4) == 0)
  let block := !d.isGen && !d.isU16 && d.elog == 0 && d.step % 256 == 0 && decide (256 ≤ d.step) && decide (d.step ≤ 1048576) && d.ibase % 8 == 0
  let ok := zeros && baseOk && (match d.kind with | 1 => gather | 2 => block | _ => false)
  if ok then some d else none

/-- The n-th output of the address generator (R206): an index, or a sentinel with its count in TILE_GEN_OOB. -/
inductive GenOut where
  | idx (x : Nat) | pad | oob
  deriving DecidableEq, Repr

def Desc.genAt (d : Desc) (n : Nat) : GenOut :=
  let iw := d.g16 0; let ih := d.g16 2; let xp := d.g16 4; let ccnt := d.ccnt; let grp := d.grp
  let yp := d.g32 8; let ox0 := d.g16 12; let oy0 := d.g16 14; let ow := d.g16 16; let oh := d.g16 18
  let kw := d.g8 20; let kh := d.g8 21; let sx := d.g8 22; let sy := d.g8 23; let dx := d.g8 24; let dy := d.g8 25
  let pl := d.g8 26; let pr := d.g8 27; let pt := d.g8 28; let pb := d.g8 29; let kx0 := d.g8 30; let ky0 := d.g8 31
  let e := grp * 64
  let r := kw * kh * ccnt
  let nb := (r + grp - 1) / grp
  let p := ow * oh
  let q := n / (nb * e)
  let b := n / e % nb
  let s := n % e / 64
  let c := n % 64
  let pi := q * 64 + c
  let rr := b * grp + s
  if p ≤ pi ∨ r ≤ rr then .pad
  else
    let t := rr / ccnt
    let cc := rr % ccnt
    let ix : Int := (((ox0 + pi % ow) * sx + (kx0 + t % kw) * dx : Nat) : Int) - pl
    let iy : Int := (((oy0 + pi / ow) * sy + (ky0 + t / kw) * dy : Nat) : Int) - pt
    if ((iw + pr : Nat) : Int) ≤ ix ∨ ((ih + pb : Nat) : Int) ≤ iy then .oob
    else if ix < 0 ∨ (iw : Int) ≤ ix ∨ iy < 0 ∨ (ih : Int) ≤ iy then .pad
    else .idx (iy.toNat * yp + ix.toNat * xp + cc)

/-! ### Requests (R191 to R193) -/

/-- Bytes per element or block. -/
def Desc.unit (d : Desc) : Nat := if d.kind = 1 then 2 ^ d.elog else d.step

/-- Bytes and rows of a request of `c` elements or blocks (R191). -/
def Desc.total (d : Desc) (c : Nat) : Nat := c * d.unit
def Desc.rowCount (d : Desc) (c : Nat) : Nat := (d.total c + 255) / 256

def Req.total (r : Req) : Nat := r.d.total r.c

/-- Bytes of one index or list entry in memory. -/
def Desc.isz (d : Desc) : Nat := if d.kind = 2 then 8 else if d.isU16 then 2 else 4

/-- What entry `n` stands for. -/
inductive Entry where
  | sentinel | oob | at (va : Nat) | range (va : Nat) | bad | unknown
  deriving DecidableEq, Repr

/-- Entry `n` of a request: a sentinel, an address, one of 2^48 or more, one whose index failed, or one not fetched yet (R192, R193, R208). -/
def Req.entry (r : Req) (n : Nat) : Entry :=
  let d := r.d
  let addr (off : Nat) : Entry := if 2 ^ 48 ≤ d.base + off then .range ((d.base + off) % 2 ^ 48) else .at (d.base + off)
  if d.isGen then
    match d.genAt n with
    | .pad => .sentinel
    | .oob => .oob
    | .idx x => addr (x * d.step)
  else if d.icount ≤ n then .sentinel
  else if r.bad.contains n then .bad
  else
    match r.idx.find n with
    | none => .unknown
    | some x =>
      if d.kind = 2 then
        if bits x 63 48 ≠ 0 then .range ((d.base + bits x 47 0) % 2 ^ 48)
        else if x = 2 ^ 48 - 1 then .sentinel
        else addr x
      else if x = 2 ^ (8 * d.isz) - 1 then .sentinel
      else addr (x * d.step)

/-- Bytes of row `row` that a request writes. -/
def Req.rowBytes (r : Req) (row : Nat) : Nat := min (r.addr + r.total) (256 * row + 256) - max r.addr (256 * row)

/-- The rows a request occupies. -/
def Req.rows (r : Req) : List Nat := rowsOf r.addr r.total

/-! ### Landings (R195 to R197) -/

def Tile.updReq (x : Tile) (id : Nat) (f : Req → Req) : Tile := { x with reqs := updFirst (fun r => r.id == id) f x.reqs }

/-- A request whose bytes have all landed and all been sent leaves the tile's books. -/
def Tile.dropDone (x : Tile) : Tile :=
  { x with reqs := x.reqs.filter (fun r => r.queued || x.fetches.any (fun f => f.req == r.id) || r.fills != [] || x.disc.any (fun d => d.req == r.id)) }

/-- Some sent fetch of the request still brings bytes of the row. -/
def Tile.rowAwaits (x : Tile) (id row : Nat) : Bool :=
  x.fetches.any (fun f => f.req == id && !f.write && f.segs.any (fun g => (rowsOf g.sp g.len).contains row))

/-- The bytes of `cut` that lie in a row, as zero writes. -/
def zeroCut (s : State) (t row : Nat) (cut : List (Nat × Nat)) : State :=
  cut.foldl (fun s p =>
    let lo := max p.1 (256 * row)
    let hi := min (p.1 + p.2) (256 * row + 256)
    if lo < hi then s.spWr t lo (List.replicate (hi - lo) 0) else s) s

/-- A discarded row lands: zeros, poison mark, flag set, counted in DISCARDED (R197). -/
def State.landDiscarded (s : State) (t row : Nat) (cut : List (Nat × Nat)) : State :=
  let s := zeroCut s t row cut
  let s := s.updTile t (fun x => (x.markPoison row).setLanded row)
  s.satInc .TILE_STRM_ERR (tix t) 31 16 1

/-- Bytes of one piece land in the scratchpad; a poisoned piece lands as zeros, marks its rows and counts each once in FAILED (R195, R196). -/
def State.landPiece (s : State) (t id sp : Nat) (bs : List Byte) (poison : Bool) : State :=
  let s := s.spWr t sp (if poison then List.replicate bs.length 0 else bs)
  let rows := rowsOf sp bs.length
  let known := match (s.tile t).reqs.find? (fun r => r.id == id) with | some r => r.badRows | none => []
  let s := if poison then s.satInc .TILE_STRM_ERR (tix t) 15 0 (rows.filter (fun r => !known.contains r)).length else s
  let s := s.updTile t (fun x =>
    let x := if poison then rows.foldl Tile.markPoison x else x
    x.updReq id (fun r =>
      let landed := rows.foldl (fun (l : Tab Nat) row =>
        l.put row (l.get 0 row + (min (sp + bs.length) (256 * row + 256) - max sp (256 * row)))) r.landed
      { r with landed := landed, badRows := if poison then r.badRows ++ rows else r.badRows }))
  rows.foldl (fun s row =>
    let x := s.tile t
    match x.reqs.find? (fun r => r.id == id) with
    | none => s
    | some r =>
      if r.disc.contains row then
        if x.rowAwaits id row then s
        else (s.landDiscarded t row r.cut).updTile t (fun x => x.updReq id (fun r => { r with disc := r.disc.filter (· ≠ row) }))
      else if r.landed.get 0 row = r.rowBytes row then
        s.updTile t (fun x =>
          let x := if r.rowBytes row = 256 ∧ !r.badRows.contains row then x.clearPoisonRow row else x
          x.setLanded row)
      else s) s

/-- Sentinel fills land from the 16th clock after issue (R192, R195). -/
def State.landFills (s : State) (t : Nat) : State :=
  let x := s.tile t
  x.reqs.foldl (fun s r =>
    if r.iss + 16 ≤ x.clk then
      let s := s.updTile t (fun x => x.updReq r.id (fun r => { r with fills := [] }))
      r.fills.foldl (fun s g => s.landPiece t r.id g.sp (List.replicate g.len r.d.fill) false) s
    else s) s

/-- A context raises XLAT unless it is in FAULT, HALTED or IDLE; the raising itself stands in `State.contextFault`. -/
def Ctx.live (c : Ctx) : Bool := c.st != .fault && c.st != .halted && c.st != .idle

/-! ### Forming fetches (R194) -/

/-- What the engine's next piece of work for a request is. -/
inductive Plan where
  /-- an index fetch: first entry, number of entries -/
  | index (first count : Nat)
  /-- data: pieces as (scratchpad address, virtual address, length), sentinel fills, the byte after them, entries outside the padded input, what fails -/
  | data (segs : List Seg) (fills : List Seg) (next oob : Nat) (fail : Option (Option Nat))
  /-- an index is on its way -/
  | blocked
  deriving DecidableEq, Repr

/-- The pieces of a fetch of at most 128 bytes from byte `next` on, `fuel` elements at most (R194). `Seg.pa` holds virtual addresses here. -/
def gatherPieces (r : Req) : Nat → Nat → Nat → List Seg → List Seg → Nat → Plan
  | 0, next, _, segs, fills, oob => .data segs fills next oob none
  | fuel + 1, next, room, segs, fills, oob =>
    let u := r.d.unit
    let j := next / u
    if r.total ≤ next ∨ room = 0 then .data segs fills next oob none
    else
      let off := next % u
      let len := min (u - off) (if u ≤ 128 then u else 128)
      let sp := r.addr + next
      match r.entry (r.f + j) with
      | .sentinel => gatherPieces r fuel (next + (u - off)) room segs (fills ++ [⟨sp, 0, u - off⟩]) oob
      | .oob => gatherPieces r fuel (next + (u - off)) room segs (fills ++ [⟨sp, 0, u - off⟩]) (oob + 1)
      | .at va =>
        if room < len then .data segs fills next oob none
        else if u ≤ 128 then gatherPieces r fuel (next + len) (room - len) (segs ++ [⟨sp, va + off, len⟩]) fills oob
        else .data (segs ++ [⟨sp, va + off, len⟩]) fills (next + len) oob none
      | .range va =>
        if segs = [] then .data [⟨sp, va, len⟩] fills (next + len) oob (some (some va)) else .data segs fills next oob none
      | .bad =>
        if segs = [] then .data [⟨sp, 0, len⟩] fills (next + len) oob (some none) else .data segs fills next oob none
      | .unknown => .data segs fills next oob none

/-- The next piece of work of a request. -/
def Req.plan? (r : Req) : Plan :=
  let n := r.f + r.next / r.d.unit
  if r.entry n = .unknown then
    if n < r.nextIdx then .blocked
    else .index r.nextIdx (min (128 / r.d.isz) (min (r.f + r.c) r.d.icount - r.nextIdx))
  else gatherPieces r 256 r.next 128 [] [] 0

/-- A piece cut at 64 KiB page ends. -/
def cutPages : Nat → Seg → List Seg
  | 0, g => [g]
  | n + 1, g =>
    let room := 65536 - g.pa % 65536
    if g.len ≤ room then [g] else ⟨g.sp, g.pa, room⟩ :: cutPages n ⟨g.sp + room, g.pa + room, g.len - room⟩

/-- The traffic class of a memory for FAB_CSELc: 0 own vat, 1 another vat, 2 LPDDR5X (R198). -/
def State.trafficClass (s : State) (c pa : Nat) : Option Nat :=
  match s.region pa with
  | .vat c' => some (if c' = c then 0 else 1)
  | .lpx => some 2
  | _ => none

/-- The regulator of R198: the state after the debit, or none while a bucket lacks tokens. -/
def State.regulate (s : State) (t pa len : Nat) : Option State :=
  let c := clusterOf t
  match s.trafficClass c pa with
  | none => some s
  | some i =>
    if !s.flag .FAB_CSELc [c] i then some s
    else
      let need := (len + 31) / 32 * 32
      let cl := s.reg .FAB_CLVLc [c]
      match s.logicalOf t with
      | some l =>
        let g := c * 32 + l
        let tl := s.reg .FAB_TLVLg [g]
        if need ≤ cl ∧ need ≤ tl then some ((s.setReg .FAB_CLVLc [c] (cl - need)).setReg .FAB_TLVLg [g] (tl - need)) else none
      | none => if need ≤ cl then some (s.setReg .FAB_CLVLc [c] (cl - need)) else none

/-- Pieces grouped by the memory they lie in, in order of first use (R194). -/
def State.byMemory (s : State) (gs : List Seg) : List (List Seg) :=
  ((gs.map (fun g => s.region g.pa)).eraseDups).map (fun m => gs.filter (fun g => decide (s.region g.pa = m)))

/-- The MMU context of a context's fetches (TILE_CTXk_CFG.MMU_CTX). -/
def State.mmuCtx (s : State) (t k : Nat) : Nat := s.fld .TILE_CTXk_CFG (tix t ++ [k]) 13 8

/-- A tile's initiator in an error record (R397). -/
def iniTile (t : Nat) : Initiator := ⟨.isl, BitVec.ofNat 8 t⟩

/-- The pages of virtual pieces that the translation buffer lacks. -/
def Tile.missing (x : Tile) (mctx : Nat) (gs : List Seg) : List Nat :=
  ((gs.map (fun g => g.pa / 65536 * 65536)).filter (fun va => (lookupTlb x.tlb mctx va).isNone)).eraseDups

/-- Physical pieces, or the first virtual address that lacks the permission (KIND PERM). -/
def Tile.translate (x : Tile) (mctx : Nat) (acc : Acc) : List Seg → Except Nat (List Seg)
  | [] => .ok []
  | g :: gs =>
    match lookupTlb x.tlb mctx g.pa with
    | none => .error g.pa
    | some e =>
      if e.allows acc then
        match x.translate mctx acc gs with
        | .ok r => .ok (⟨g.sp, e.map g.pa, g.len⟩ :: r)
        | .error va => .error va
      else .error g.pa

/-- A fetch goes into flight. -/
def State.putFetch (s : State) (t : Nat) (f : Fetch) : State := s.updTile t (fun x => { x with fetches := x.fetches ++ [f] })

/-- The request's last piece has been sent: it leaves its queue (R194). -/
def State.endRequest (s : State) (t id : Nat) : State :=
  let s := s.updTile t (fun x => x.updReq id (fun r => if r.total ≤ r.next ∧ r.plan = [] then { r with queued := false } else r))
  s.updTile t Tile.dropDone

/-- Bytes of a write's source pieces, and whether a row of them is poisoned (R195, R196). -/
def State.sourceBytes (s : State) (t : Nat) (gs : List Seg) : List Byte × Bool :=
  ((gs.map (fun g => s.spRd t g.sp g.len)).flatten, gs.any (fun g => (s.tile t).rowsPoisoned (rowsOf g.sp g.len)))

/-- Sends the first group of a request's plan, if the regulator lets it (R194, R198). -/
def State.sendGroup (s : State) (t : Nat) (r : Req) : State :=
  match r.plan with
  | [] => s
  | gs :: rest =>
    match s.regulate t ((gs.map (·.pa)).getD 0 0) ((gs.map (·.len)).foldl (· + ·) 0) with
    | none => s.updTile t (fun x => x.updReq r.id (fun r => { r with starved := true }))
    | some s =>
      let (bs, po) := if r.d.isWrite then s.sourceBytes t gs else ([], false)
      let s := s.putFetch t ⟨r.id, r.ctx, r.d.isWrite, .data, gs, bs, po, false⟩
      let s := s.updTile t (fun x => x.updReq r.id (fun r => { r with plan := rest }))
      s.endRequest t r.id

/-- A failed fetch goes into flight: it lands as poisoned zeros, or counts as an acknowledged write (R196). -/
def State.putFailed (s : State) (t : Nat) (r : Req) (gs : List Seg) (kind : FetchKind) : State :=
  s.putFetch t ⟨r.id, r.ctx, r.d.isWrite && kind == .data, kind, gs, [], false, true⟩

/-- Data pieces, planned: local reads at once, translation, walks for what misses, and the first group sent (R194, R209, R299). -/
def State.planData (s : State) (t : Nat) (r : Req) (segs fills : List Seg) (next oob : Nat) (fail : Option (Option Nat)) : State :=
  let x := s.tile t
  let acc : Acc := if r.d.isWrite then .wr else .rd
  let cutS := (segs.map (cutPages 16)).flatten
  let miss := if r.d.local ∨ fail.isSome then [] else (x.missing r.mctx cutS).filter (fun va => !r.failed.contains va)
  if miss ≠ [] then
    s.updTile t (fun x => { x with walks := x.walks ++
      (miss.filter (fun va => !x.walks.any (fun w => w.who == .stream r.ctx && w.mctx == r.mctx && w.va == va))).map (fun va => ⟨.stream r.ctx, r.mctx, va⟩) })
  else
    let s := s.satInc .TILE_GEN_OOB (tix t) 15 0 oob
    let s := s.updTile t (fun x => x.updReq r.id (fun r => { r with next := next, fills := if r.d.isWrite then r.fills else r.fills ++ fills }))
    if segs = [] then s.endRequest t r.id
    else
      let failed (s : State) : State := (s.putFailed t r segs .data).endRequest t r.id
      match fail with
      | some (some va) => failed (s.logFault 0 kRANGE r.mctx va)
      | some none => (s.putFetch t ⟨r.id, r.ctx, r.d.isWrite, .data, segs, [], true, false⟩).endRequest t r.id
      | none =>
        if r.d.local then
          if segs.any (fun g => decide (0x100000 < g.pa + g.len)) then failed s
          else
            let bs := (segs.map (fun g => s.spRd t g.pa g.len)).flatten
            if r.d.isWrite then
              let (src, po) := s.sourceBytes t segs
              (s.putFetch t ⟨r.id, r.ctx, true, .data, segs.map (fun g => ⟨g.sp, spadBase t + g.pa, g.len⟩), src, po, false⟩).endRequest t r.id
            else (s.putFetch t ⟨r.id, r.ctx, false, .data, segs, bs, segs.any (fun g => x.rowsPoisoned (rowsOf g.pa g.len)), false⟩).endRequest t r.id
        else if cutS.any (fun g => r.failed.contains (g.pa / 65536 * 65536)) then failed s
        else
          match x.translate r.mctx acc cutS with
          | .error va => failed (s.logFault 0 kPERM r.mctx va)
          | .ok gs =>
            let s := s.updTile t (fun x => x.updReq r.id (fun r => { r with plan := s.byMemory gs }))
            match (s.tile t).reqs.find? (fun q => q.id == r.id) with
            | some r => s.sendGroup t r
            | none => s

/-- An index or block-list fetch (R192, R193, R198). -/
def State.planIndex (s : State) (t : Nat) (r : Req) (first count : Nat) : State :=
  let x := s.tile t
  let va := r.d.ibase + first * r.d.isz
  let gs := cutPages 1 ⟨0, va, count * r.d.isz⟩
  let miss := (x.missing r.mctx gs).filter (fun va => !r.failed.contains va)
  let advance (s : State) : State := s.updTile t (fun x => x.updReq r.id (fun r => { r with nextIdx := first + count }))
  if miss ≠ [] then
    s.updTile t (fun x => { x with walks := x.walks ++
      (miss.filter (fun va => !x.walks.any (fun w => w.who == .stream r.ctx && w.mctx == r.mctx && w.va == va))).map (fun va => ⟨.stream r.ctx, r.mctx, va⟩) })
  else if gs.any (fun g => r.failed.contains (g.pa / 65536 * 65536)) then advance (s.putFailed t r gs (.index first count))
  else
    match x.translate r.mctx .rd gs with
    | .error va => advance ((s.logFault 0 kPERM r.mctx va).putFailed t r gs (.index first count))
    | .ok ps =>
      match s.regulate t ((ps.map (·.pa)).getD 0 0) (count * r.d.isz) with
      | none => s.updTile t (fun x => x.updReq r.id (fun r => { r with starved := true }))
      | some s => advance (s.putFetch t ⟨r.id, r.ctx, false, .index first count, ps, [], false, false⟩)

/-- One fetch or write of a context's oldest queued request. -/
def State.serveRequest (s : State) (t : Nat) (r : Req) : State :=
  if r.plan ≠ [] then s.sendGroup t r
  else
    match r.plan? with
    | .index first count => s.planIndex t r first count
    | .data segs fills next oob fail => s.planData t r segs fills next oob fail
    | .blocked => s

/-- One fetch of the scale loader (R152). -/
def State.serveLoader (s : State) (t : Nat) (l : ScaleLoad) : State :=
  let x := s.tile t
  let n := min 16 (l.count - l.sent)
  let gs := cutPages 1 ⟨0, l.va + 8 * l.sent, 8 * n⟩
  let miss := (x.missing l.mctx gs).filter (fun va => !l.failed.contains va)
  let sent (s : State) : State := s.updTile t (fun x => { x with load := x.load.map (fun l => { l with sent := l.sent + n }) })
  if miss ≠ [] then
    s.updTile t (fun x => { x with walks := x.walks ++ (miss.filter (fun va => !x.walks.any (fun w => w.who == .scale && w.va == va))).map (fun va => ⟨.scale, l.mctx, va⟩) })
  else if gs.any (fun g => l.failed.contains (g.pa / 65536 * 65536)) then sent (s.putFetch t ⟨0, 4, false, .scale l.sent, gs, [], false, true⟩)
  else
    match x.translate l.mctx .rd gs with
    | .error va => sent ((s.logFault 2 kPERM l.mctx va).putFetch t ⟨0, 4, false, .scale l.sent, gs, [], false, true⟩)
    | .ok ps =>
      match s.regulate t ((ps.map (·.pa)).getD 0 0) (8 * n) with
      | none => s
      | some s => sent (s.putFetch t ⟨0, 4, false, .scale l.sent, ps, [], false, false⟩)

/-- The oldest queued request of a context. -/
def Tile.headReq (x : Tile) (k : Nat) : Option Req := x.reqs.find? (fun r => r.ctx == k && r.queued)

/-- Requester `i` of the stream engine (0 to 3 the context queues, 4 the scale loader) has work. -/
def Tile.hasWork (x : Tile) (i : Nat) : Bool :=
  if i = 4 then (match x.load with | some l => decide (l.sent < l.count) | none => false)
  else match x.headReq i with | some r => r.plan != [] || r.plan? != .blocked | none => false

/-- The engine's next requester in round-robin order after `last`. -/
def Tile.nextRequester (x : Tile) (last : Nat) : Option Nat := ((List.range 5).map (fun d => (last + 1 + d) % 5)).find? (x.hasWork ·)

/-- Fetches in flight (R194). -/
def Tile.inflight (x : Tile) : Nat := x.fetches.length

/-- One clock of the stream engine: at most one fetch or write, none while 256 are outstanding (R194). -/
def State.streamSend (s : State) (t : Nat) : State :=
  let x := s.tile t
  if 256 ≤ x.inflight then s
  else
    match x.nextRequester x.rrq with
    | none => s
    | some i =>
      let s := s.updTile t (fun x => { x with rrq := i })
      let s := if i = 4 then (match x.load with | some l => s.serveLoader t l | none => s)
               else (match x.headReq i with | some r => s.serveRequest t r | none => s)
      (s.landFills t).updTile t Tile.dropDone

/-! ### The scale loader (R152) -/

/-- The end of a load: BUSY clears, and ERR is set where it was cut short. -/
def State.endLoad (s : State) (t : Nat) (err : Bool) : State :=
  let s := s.updTile t (fun x => { x with load := none, fetches := x.fetches.filter (fun f => f.ctx ≠ 4), walks := x.walks.filter (fun w => w.who ≠ .scale) })
  let s := s.setFlag .TILE_SFLD_CTL (tix t) 30 false
  if err then s.setFlag .TILE_SFLD_CTL (tix t) 29 true else s

/-- Entry `j` of the scale file changes whole; the staging register follows (R151). -/
def State.putScale (s : State) (t j e : Nat) : State :=
  let s := s.setReg64 .TILE_SFj_LO .TILE_SFj_HI (tix t ++ [j]) (e % 2 ^ 56)
  { s with stage := s.stage.erase (Reg.adr .TILE_SFj_LO (tix t ++ [j])) }

end Sys2Proof.Machine
end

