-- ==== Sys2Proof/Machine/TileCtx.lean ====
section
/-! DEFINITION. Faults, halting and stopping of task contexts, slice release, start-up and brine of a tile (R87, R94, R95, R111, R114 to R116, R185, R197). -/

namespace Sys2Proof.Machine
open Sys2Proof

/-- An event for the scheduler cores. -/
def State.tell (s : State) (e : SchEv) : State := { s with events := s.events ++ [e] }

/-- The slices a context owns begin their release (R87). -/
def Tile.releaseAll (x : Tile) (k : Nat) : Tile :=
  (List.range 4).foldl (fun x j =>
    let y := x.slice j
    if y.owner = some k ∧ !y.releasing then x.setSlice j { y with releasing := true, rel := x.clk } else x) x

/-- The bytes of a read request that no fetch has been sent for: address and length (R197). -/
def Req.unsent (r : Req) : List (Nat × Nat) :=
  (r.plan.flatten.map (fun g => (g.sp, g.len))) ++ (if r.next < r.total then [(r.addr + r.next, r.total - r.next)] else [])

/-- The requests of a context whose slots are invalidated: writes not sent are discarded; unsent read rows land as poisoned zeros,
at once, at the 16th clock, or with the sent fetch they await (R197). -/
def State.discardReqs (s : State) (t k : Nat) : State :=
  let x := s.tile t
  let rs := x.reqs.filter (fun r => r.ctx == k && r.queued)
  let s := rs.foldl (fun s r =>
    let cut := if r.d.isWrite then [] else r.unsent
    let rows := ((cut.map (fun p => rowsOf p.1 p.2)).flatten).eraseDups
    let s := s.updTile t (fun x => x.updReq r.id (fun r => { r with queued := false, next := r.total, plan := [], cut := cut }))
    rows.foldl (fun s row =>
      if (s.tile t).rowAwaits r.id row then s.updTile t (fun x => x.updReq r.id (fun r => { r with disc := r.disc ++ [row] }))
      else if r.iss + 16 ≤ x.clk then s.landDiscarded t row cut
      else s.updTile t (fun x => { x with disc := x.disc ++ [⟨row, r.iss + 16, r.id⟩] })) s) s
  s.updTile t (fun x => Tile.dropDone { x with walks := x.walks.filter (fun w => w.who ≠ .stream k) })

/-- Steps 2 to 4 of R95: the queue's matrix instructions go on, slices are released, descriptor slots invalidated. -/
def State.windDown (s : State) (t k : Nat) : State :=
  let s := s.discardReqs t k
  let s := s.updTile t (fun x => x.releaseAll k)
  s.updCtx t k (fun c => { c with d := .empty, held := none, woken := false, bar := .no, skip := none, miss := none, ffail := none })

/-- R115: the fault is recorded with FPC, the context moves to FAULT and winds down, the scheduler core is told, a barrier with arrivals pending breaks (R181).
A context in FAULT, HALTED or IDLE records no further fault (R116). -/
def State.contextFault (s : State) (t k code pc : Nat) : State :=
  let c := s.ctxOf t k
  if !c.live then s
  else
    let is := tix t ++ [k]
    let s := s.setReg .TILE_CTXk_FAULT is (2 ^ 31 + code * 2 ^ 16)
    let s := s.setReg64 .TILE_CTXk_FPC_LO .TILE_CTXk_FPC_HI is (pc % 2 ^ 48)
    let s := s.windDown t k
    let s := s.updCtx t k (fun c => { c with st := .fault })
    (s.barBreak t).tell (.fault t k)

/-- HALT: the context moves to HALTED and winds down; the scheduler core is told (R111). -/
def State.haltCtx (s : State) (t k : Nat) : State :=
  let s := s.windDown t k
  (s.updCtx t k (fun c => { c with st := .halted })).tell (.halted t k)

/-- STOP on a context that is not IDLE (R95); a barrier with arrivals pending breaks (R181). -/
def State.stopCtx (s : State) (t k : Nat) : State :=
  let c := s.ctxOf t k
  if c.st = .idle then s
  else
    let s := s.windDown t k
    (s.updCtx t k (fun c => { c with st := .idle })).barBreak t

/-- START on a context in IDLE, HALTED or FAULT: the program counter from ENTRY, the stacks empty, READY (R95, R105). -/
def State.startCtx (s : State) (t k : Nat) : State :=
  let c := s.ctxOf t k
  if c.st = .idle ∨ c.st = .halted ∨ c.st = .fault then
    let entry := s.reg64 .TILE_CTXk_ENTRY_LO .TILE_CTXk_ENTRY_HI (tix t ++ [k])
    s.updCtx t k (fun c => { c with st := .ready, pc := entry, loops := [], rets := [], held := none, woken := false, bar := .no, skip := none, miss := none, ffail := none })
  else s

/-- Every context's registers, slots, stacks, flags and windows zeroed (R94, R185). -/
def Ctx.wiped (c : Ctx) : Ctx := { Ctx.zero with st := c.st, pc := c.pc, oldWait := c.oldWait }

/-- A register of a tile window back at zero for every index of a list. -/
def State.zeroRegs (s : State) (lo hi : Nat) : State :=
  { s with regs := ⟨s.regs.entries.filter (fun e => !(decide (lo ≤ e.1) && decide (e.1 < hi)))⟩ }

/-- First address of a tile's register window (R49). -/
def tileWin (t : Nat) : Nat := 0x2000000 + clusterOf t * 0x1000000 + 0x100000 + slotOf t * 0x10000

/-- The brine of R185: scratchpad, landing flags, registers of the contexts, scale file, statistics, instruction cache. TILE_CYCLES and the stall counters stay. -/
def State.brineTile (s : State) (t : Nat) : State :=
  let s := { s with mem := s.mem.zero (spadBase t) 0x100000 }
  let s := s.zeroRegs (tileWin t + 0x2000) (tileWin t + 0x6000)
  let s := { s with stage := ⟨s.stage.entries.filter (fun e => !(decide (tileWin t + 0x2000 ≤ e.1) && decide (e.1 < tileWin t + 0x4000)))⟩ }
  s.updTile t (fun x =>
    { x with unlanded := [], poison := [], icache := [], stat := .empty, samples := [], drop := [],
             ctx := ⟨x.ctx.entries.map (fun e => (e.1, e.2.wiped))⟩ })

/-- The end of the start-up of R94: brine, stationary sets, accumulators and slices cleared, contexts IDLE, READY. The scale loader's registers return to their reset values. -/
def State.tileStartUp (s : State) (t : Nat) : State :=
  let s := s.brineTile t
  let s := s.zeroRegs (tileWin t + 0x300) (tileWin t + 0x30C)
  s.updTile t (fun x =>
    { x with ready := true, brining := false, slices := .empty, sets := .empty, banks := .empty, mq := [], reqs := [], fetches := [], sends := [],
             load := none, disc := [], walks := [], tlb := [], ctx := .empty })

/-- A write of EN = 0: every context stops as under STOP, a scale load is cut short, the clock is gated and READY clears (R94, R95, R152). -/
def State.tileOff (s : State) (t : Nat) : State :=
  let s := (upTo 4).foldl (fun s k => s.stopCtx t k) s
  let s := if (s.tile t).load.isSome then s.endLoad t true else s
  s.updTile t (fun x => { x with ready := false, brining := false })

end Sys2Proof.Machine
end

