-- ==== Sys2Proof/Machine/SSlot.lean ====
section
/-! DEFINITION. The S slot: integer arithmetic, narrow loads and stores, control flow, CSRs (R108, R109, R122 to R126). -/

namespace Sys2Proof.Machine
open Sys2Proof

/-! ### Arithmetic (R122) -/

/-- The 32-bit result of a W form, sign-extended (R122). -/
def sext32 (v : DWord) : DWord := (v.truncate 32).signExtend 64

/-- x operated with y (R122): `w` is the W form, `a` the arithmetic form of SHR. -/
def aluResult (mn : Mn) (w a : Bool) (x y : DWord) : DWord :=
  match mn with
  | .ADD => if w then sext32 (x + y) else x + y
  | .SUB => if w then sext32 (x - y) else x - y
  | .AND => x &&& y
  | .OR => x ||| y
  | .XOR => x ^^^ y
  | .SHL => if w then sext32 (((x.truncate 32 : Word) <<< (y.toNat % 32)).zeroExtend 64) else x <<< (y.toNat % 64)
  | _ =>
    if w then
      let x32 : Word := x.truncate 32
      (if a then x32.sshiftRight (y.toNat % 32) else x32 >>> (y.toNat % 32)).signExtend 64
    else if a then x.sshiftRight (y.toNat % 64)
    else x >>> (y.toNat % 64)

/-- The result of an SA instruction on a context's registers. -/
def Ctx.saResult (c : Ctx) (mn : Mn) (f : SA) : DWord :=
  aluResult mn (f.fn.getLsbD 0) (f.fn.getLsbD 1) (c.rdSA (saRs1IsA f) f.rs1.toNat) (c.rdSrc2 f.src2)

/-- The destination register of format SA with its new value. -/
def saDst (f : SA) (v : DWord) : Dst := if saRdIsA f then .a f.rd.toNat v else .s f.rd.toNat v

/-! ### LDN and STN (R123) -/

def smSize (f : SM) : Nat := 2 ^ bits f.fn.toNat 1 0
def smPost (f : SM) : Bool := f.fn.getLsbD 4
def smIsA (f : SM) : Bool := f.fn.getLsbD 7

/-- The byte address of an LDN or STN (R123). -/
def Ctx.smAddr (c : Ctx) (f : SM) : Nat := if smPost f then (c.rdA f.ab.toNat).toNat else c.addrImm f.ab.toNat f.imm

/-- The value an LDN writes: zero- or sign-extended (R123). -/
def State.ldnValue (s : State) (t k : Nat) (f : SM) : DWord :=
  let n := smSize f
  let v := leNat (s.spRd t ((s.ctxOf t k).smAddr f) n)
  if f.fn.getLsbD 2 then BitVec.ofNat 64 (ofSigned 64 (toSigned (8 * n) v)) else BitVec.ofNat 64 v

/-- The register an STN stores. -/
def Ctx.stnValue (c : Ctx) (f : SM) : DWord := if smIsA f then c.rdA f.rd.toNat else c.rdS f.rd.toNat

/-! ### CSRs (R108, R109, R126) -/

/-- GTILE of a physical slot: c * 32 + l (R108). -/
def State.globalTile (s : State) (t : Nat) : Nat :=
  clusterOf t * 32 + (match s.logicalOf t with | some l => l | none => Config.unboundTile t % 32)

/-- FFLAGS, with the MSAT of drains that have reached their latency point (R108, R144). -/
def State.fflagsNow (s : State) (t k : Nat) : Nat :=
  let x := s.tile t
  let sat := x.mq.any (fun e => e.ctx == k && x.latDone e && (match e.run with | some r => r.msat | none => false))
  if sat then Nat.lor (s.ctxOf t k).fflags ffMSAT else (s.ctxOf t k).fflags

/-- The value of a CSR, none for a number that R108 does not list. -/
def State.csrValue (s : State) (t k n : Nat) : Option Nat :=
  let c := s.ctxOf t k
  let g := s.globalTile t
  if n = 0 then some (g * 2 ^ 24 + clusterOf t * 2 ^ 16 + g % 32 * 2 ^ 8 + k)
  else if n = 1 then some ((s.tile t).clk % 2 ^ 64)
  else if n = 2 then some (s.phase + s.swp.count % 2 ^ 48 * 2 ^ 16)
  else if n = 3 then some (s.fflagsNow t k)
  else if n = 4 then some (s.fld .TILE_CTXk_CFG (tix t ++ [k]) 1 0 + s.fld .TILE_CTXk_CFG (tix t ++ [k]) 13 8 * 256)
  else if n = 5 then some (c.loops.length + c.rets.length * 256)
  else if 0x10 ≤ n ∧ n ≤ 0x1F then some (c.awrap.get 0 (n - 0x10)).toNat
  else if 0xF00 ≤ n ∧ n ≤ 0xF05 then some (s.rg (0x100 + 4 * (n - 0xF00))).toNat
  else none

/-- A CSRWR raises CSR: an unlisted or RO number, or an AWRAP window past row 4,095 (R108, R109). -/
def csrWriteBad (n v : Nat) : Bool :=
  if n = 3 then false
  else if 0x10 ≤ n ∧ n ≤ 0x1F then decide (4096 < bits v 28 16) || decide (4096 < bits v 11 0 + bits v 28 16)
  else true

/-- CSRWR: W1C on FFLAGS, but for flags of this cycle (R126); RW on AWRAPn. -/
def Ctx.csrWrite (c : Ctx) (n v : Nat) : Ctx :=
  if n = 3 then { c with fflags := Nat.lor (c.fflags &&& (63 - v % 64)) c.newFl }
  else { c with awrap := c.awrap.set 0 (n - 0x10) (BitVec.ofNat 64 (bits v 28 16 * 65536 + bits v 11 0)) }

/-! ### Control flow (R124, R125) -/

/-- BRC's condition between s[RS1] and s[RS2] (R124). -/
def brCond (cond : Nat) (x y : DWord) : Bool :=
  match cond with
  | 0 => x == y
  | 1 => x != y
  | 2 => x.slt y
  | 3 => !x.slt y
  | 4 => x.ult y
  | _ => !x.ult y

/-- The bundle's own address + OFF (R124). -/
def sbTarget (pc : Nat) (f : SB) : Nat := ofSigned 48 ((pc : Int) + f.off.toInt)

/-- The target of a taken branch of an enabled word, if it is one. -/
def Ctx.branch (c : Ctx) (w : RWord) : Option Nat :=
  if !c.guardS w.g then none
  else
    match w.mn, w.f with
    | .BR, .sb f => some (sbTarget c.pc f)
    | .CALL, .sb f => some (sbTarget c.pc f)
    | .BRC, .sb f => if brCond f.fn.toNat (c.rdS f.rs1.toNat) (c.rdS f.rs2.toNat) then some (sbTarget c.pc f) else none
    | .RET, _ => c.rets.head?
    | _, _ => none

/-- The loop-end check at the issue of the bundle at `pc`: the stack after it, and the next bundle if the loop goes on (R125). -/
def loopEnd (pc : Nat) : List LoopEnt → List LoopEnt × Option Nat
  | [] => ([], none)
  | e :: es =>
    if e.fin = pc then
      if e.count ≤ 1 then loopEnd pc es else ({ e with count := e.count - 1 } :: es, some e.start)
    else (e :: es, none)

/-- The next bundle, the stacks and the pending skip after a bundle of `n` words has issued (R124, R125). -/
def Ctx.advance (c : Ctx) (ws : List RWord) : Ctx :=
  let seq := (c.pc + 8 * ws.length) % 2 ^ 48
  match ws.findSome? (c.branch ·) with
  | some tgt =>
    let rets :=
      if ws.any (fun w => w.mn == .CALL && c.guardS w.g) then seq :: c.rets
      else if ws.any (fun w => w.mn == .RET && c.guardS w.g) then c.rets.drop 1
      else c.rets
    { c with pc := tgt, rets := rets }
  | none =>
    let (loops, back) := loopEnd c.pc c.loops
    let lp := ws.findSome? (fun w =>
      match w.mn, w.f with
      | .LOOP, .sb f => if c.guardS w.g then some ((c.rdS f.rs1.toNat).toNat, sbTarget c.pc f) else none
      | _, _ => none)
    match lp with
    | none => { c with loops := loops, pc := back.getD seq }
    | some (n, fin) =>
      if n = 0 then
        match back with
        | some b => { c with loops := loops, pc := b }
        | none => { c with loops := loops, pc := fin, skip := some fin }
      else { c with loops := ⟨seq, fin, n⟩ :: loops, pc := back.getD seq }

/-! ### Faults and effects at issue -/

/-- The precise fault of an enabled S-slot instruction: its lowest code (R114, R116). -/
def State.faultS (s : State) (t k : Nat) (w : RWord) : Option Nat :=
  let c := s.ctxOf t k
  match w.mn, w.f with
  | .LDN, .sm f =>
    let a := c.smAddr f
    match spadCheck a (smSize f) (smSize f) with
    | some e => some e
    | none => if (s.tile t).rowsPoisoned (rowsOf a (smSize f)) then some fDPOISON else none
  | .STN, .sm f => spadCheck (c.smAddr f) (smSize f) (smSize f)
  | .CALL, _ => if 8 ≤ c.rets.length then some fSTK else none
  | .RET, _ => if c.rets = [] then some fSTK else none
  | .LOOP, .sb f => if 4 ≤ c.loops.length ∧ (c.rdS f.rs1.toNat).toNat ≠ 0 then some fSTK else none
  | .CSRRD, .sc f => if (s.csrValue t k f.csr.toNat).isNone then some fCSR else none
  | .CSRWR, .sc f => if csrWriteBad f.csr.toNat (c.rdS f.rs1.toNat).toNat then some fCSR else none
  | _, _ => none

/-- The scratchpad rows an S-slot instruction reads (R107). -/
def State.rowsS (s : State) (t k : Nat) (w : RWord) : List Nat :=
  match w.mn, w.f with
  | .LDN, .sm f => rowsOf ((s.ctxOf t k).smAddr f) (smSize f)
  | _, _ => []

/-- The effect of an enabled S-slot instruction beside control flow; operands from `s0` (R98). -/
def effS (s0 : State) (t k : Nat) (w : RWord) (s : State) : State :=
  let c0 := s0.ctxOf t k
  let clk := (s0.tile t).clk
  match w.mn, w.f with
  | mn, .sa f => s.updCtx t k (fun c => c.push (clk + 1) (saDst f (c0.saResult mn f)))
  | .LDN, .sm f =>
    let v := s0.ldnValue t k f
    s.updCtx t k (fun c =>
      let c := c.push (clk + 4) (if smIsA f then .a f.rd.toNat v else .s f.rd.toNat v)
      if smPost f then c.push (clk + 4) (.a f.ab.toNat (c0.postInc f.ab.toNat f.imm.toInt)) else c)
  | .STN, .sm f =>
    let s := s.spWr t (c0.smAddr f) (leBytes (smSize f) (c0.stnValue f).toNat)
    if smPost f then s.updCtx t k (fun c => c.push (clk + 1) (.a f.ab.toNat (c0.postInc f.ab.toNat f.imm.toInt))) else s
  | .CSRRD, .sc f => s.updCtx t k (fun c => c.push (clk + 2) (.s f.rd.toNat (BitVec.ofNat 64 ((s0.csrValue t k f.csr.toNat).getD 0))))
  | .CSRWR, .sc f =>
    s.updCtx t k (fun c =>
      (c.csrWrite f.csr.toNat (c0.rdS f.rs1.toNat).toNat).push (clk + 2) (.s f.rd.toNat (BitVec.ofNat 64 ((s0.csrValue t k f.csr.toNat).getD 0))))
  | _, _ => s

end Sys2Proof.Machine
end

