-- ==== Sys2Proof/Machine/TSlot.lean ====
section
/-! DEFINITION. The T slot: streams, SEND, counters, statistics control; its faults, rows and effects at issue (R127 to R135). -/

namespace Sys2Proof.Machine
open Sys2Proof

/-- The lowest of several fault codes (R116). -/
def lowest (cs : List (Option Nat)) : Option Nat :=
  cs.foldl (fun m c => match m, c with
    | none, c => c
    | m, none => m
    | some a, some b => some (min a b)) none

/-- The descriptor an SOPEN would load (R127, R189, R190). -/
def State.sopenDesc (s : State) (t k : Nat) (f : TS) : Option Desc :=
  let c := s.ctxOf t k
  descOf (s.spRd t (c.addrImm f.ar.toNat f.imm) 64) (c.rdS f.rs1.toNat).toInt

/-- The descriptor, count and first element of an SIDX or SBLK that has an effect (R128). -/
def Ctx.requestOf (c : Ctx) (mn : Mn) (f : TS) : Option (Desc × Nat × Nat) :=
  let n := (c.rdS f.rs1.toNat).toNat
  match c.d.find f.d.toNat with
  | none => none
  | some d => if n = 0 ∨ d.kind ≠ (if mn = .SIDX then 1 else 2) then none else some (d, n, (c.rdS f.rs2.toNat).toNat)

/-- Bytes that SLAND covers. -/
def Ctx.slandBytes (c : Ctx) (f : TS) : Nat := 256 * (c.rdS f.rs1.toNat).toNat

/-- The precise fault of an enabled T-slot instruction: its lowest code (R114, R116). -/
def State.faultT (s : State) (t k : Nat) (w : RWord) : Option Nat :=
  let c := s.ctxOf t k
  match w.mn, w.f with
  | .SOPEN, .ts f =>
    let a := c.addrImm f.ar.toNat f.imm
    match spadCheck a 64 64 with
    | some e => some e
    | none =>
      if (s.tile t).rowsPoisoned (rowsOf a 64) then some fDPOISON
      else if (s.sopenDesc t k f).isNone then some fDESC else none
  | .SLAND, .ts f => if c.slandBytes f = 0 then none else spadCheck (c.addrImm f.ar.toNat f.imm) (c.slandBytes f) 256
  | mn, .ts f =>
    match c.requestOf mn f with
    | none => none
    | some (d, n, _) => spadCheck (c.addrImm f.ar.toNat f.imm) (256 * d.rowCount n) 256
  | .SEND, .tx f =>
    let src := (c.rdA f.as_.toNat).toNat
    let n := 256 * f.nrow.toNat
    lowest [spadCheck src n 256, spadCheck (c.rdA f.ad.toNat).toNat n 256,
      if (s.tile t).rowsPoisoned (rowsOf src n) then some fDPOISON else none,
      if 32 ≤ (c.rdS f.rt.toNat).toNat then some fSENDTGT else none]
  | _, .tr f => if 16383 < c.trCounter f then some fRNTRANGE else none
  | _, _ => none

/-- The scratchpad rows whose landing flags a T-slot instruction checks: the source rows of SEND (R107). -/
def State.rowsT (s : State) (t k : Nat) (w : RWord) : List Nat :=
  match w.mn, w.f with
  | .SEND, .tx f => rowsOf ((s.ctxOf t k).rdA f.as_.toNat).toNat (256 * f.nrow.toNat)
  | _, _ => []

/-- The queue of a context holds 16 requests (R194). -/
def Tile.queueFull (x : Tile) (k : Nat) : Bool := decide (16 ≤ (x.reqs.filter (fun r => r.ctx == k && r.queued)).length)

/-- A request enters its context's queue; a read clears the flags of its rows (R128, R194, R195). -/
def State.issueRequest (s : State) (t k : Nat) (d : Desc) (addr n first : Nat) : State :=
  let m := s.mmuCtx t k
  s.updTile t (fun x =>
    let r : Req := ⟨x.nid, k, (x.context k).pc, m, d, addr, n, first, x.clk, .empty, [], first, 0, [], [], .empty, [], [], [], [], false, true⟩
    let x := { x with nid := x.nid + 1, reqs := x.reqs ++ [r] }
    if d.isWrite then x else x.clearLanded (rowsOf addr (r.total)))

/-- MSEST on channels CH0 to CH0 + NCH − 1 (R135): the samples of this clock are counted before the change, those of the next are dropped by CLR (R437). -/
def Tile.msest (x : Tile) (f : TB) : Tile :=
  let x := x.flushSamples
  let st := (List.range f.nch.toNat).foldl (fun (st : Tab StatCh) i =>
    let j := f.ch0.toNat + i
    let h := st.get StatCh.zero j
    st.put j (if f.clr then ⟨0, 0, f.en⟩ else { h with en := f.en })) x.stat
  { x with stat := st, drop := if f.clr then x.drop.filter (fun d => decide (x.clk ≤ d.1)) ++ (List.range f.nch.toNat).map (fun i => (x.clk + 1, f.ch0.toNat + i)) else x.drop }

/-- The effect of an enabled T-slot instruction; operands from `s0` (R98). -/
def effT (s0 : State) (t k : Nat) (w : RWord) (s : State) : State :=
  let c0 := s0.ctxOf t k
  let clk := (s0.tile t).clk
  match w.mn, w.f with
  | .SOPEN, .ts f =>
    match s0.sopenDesc t k f with
    | some d => s.updCtx t k (fun c => { c with d := c.d.put f.d.toNat d })
    | none => s
  | .SLAND, .ts f => s.updTile t (fun x => x.clearLanded (rowsOf (c0.addrImm f.ar.toNat f.imm) (c0.slandBytes f)))
  | mn, .ts f =>
    match c0.requestOf mn f with
    | some (d, n, first) => s.issueRequest t k d (c0.addrImm f.ar.toNat f.imm) n first
    | none => s
  | .SEND, .tx f =>
    let j : SendJob := ⟨k, s0.fld .TILE_JOB (tix t) 7 0, (c0.rdA f.as_.toNat).toNat, s0.physOf (clusterOf t) (c0.rdS f.rt.toNat).toNat,
      (c0.rdA f.ad.toNat).toNat, f.nrow.toNat, f.cnt.toNat, clk⟩
    s.updTile t (fun x => { x with sends := x.sends ++ [j] })
  | .RNWAIT, _ => s
  | mn, .tr f =>
    let v := c0.trValue f
    let back := if f.i ∧ f.rv ≠ 0 then some (t, k, f.rv.toNat) else none
    let m : CtrMsg := ⟨c0.trCounter f, if mn = .RNADD then .add v else .set v, t, some (t, k), back⟩
    let s := { s with fab := { s.fab with ops := s.fab.ops ++ [m] } }
    if back.isSome then s.updCtx t k (fun c => { c with oldWait := true }) else s
  | .MSEST, .tb f => s.updTile t (fun x => x.msest f)
  | _, _ => s

end Sys2Proof.Machine
end

