-- ==== Sys2Proof/Machine/Issue.lean ====
section
/-! DEFINITION. The issue of one bundle by one context: encoding, what holds it, precise faults, effects (R97 to R99, R107, R110, R111, R114 to R116, R131 to R134). -/

namespace Sys2Proof.Machine
open Sys2Proof

/-- The guard enables an instruction: lane 0, or any lane for the V slot (R99). -/
def Ctx.enables (c : Ctx) (w : RWord) : Bool := if w.mn.slot = 2 then c.guardMask w.g != 0 else c.guardS w.g

/-- What holds a bundle. -/
inductive Hold where
  | oldVal | rnt | rows | grant | full | fence | mqueue | barFence | barArrive | barWait
  deriving DecidableEq, Repr

/-- The rows whose landing flags an enabled instruction checks (R81, R107). -/
def State.rowsRead (s : State) (t k : Nat) (w : RWord) : List Nat :=
  match w.f with
  | .vr f => (s.ctxOf t k).vRows w.mn f
  | .mx f => s.mxRows t k w.mn f
  | .ts _ | .tx _ | .tr _ | .tb _ => s.rowsT t k w
  | _ => s.rowsS t k w

/-- The kinds a FENCE names are complete (R133). -/
def State.fenceMet (s : State) (t k kind : Nat) : Bool :=
  let x := s.tile t
  (!bit kind 0 || x.mq.all (fun e => e.ctx != k || x.latDone e))
    && (!bit kind 1 || x.sends.all (fun j => j.ctx != k))
    && (!bit kind 2 || (x.reqs.all (fun r => !(r.ctx == k && r.d.isWrite && r.queued)) && x.fetches.all (fun f => !(f.ctx == k && f.write))))
    && (!bit kind 3 || s.fab.ops.all (fun m => m.from_ != some (t, k)))

/-- The enabled instructions of a bundle. -/
def Ctx.active (c : Ctx) (ws : List RWord) : List RWord := ws.filter c.enables

/-- The rows of a bundle whose flags are clear. -/
def State.missingRows (s : State) (t k : Nat) (ws : List RWord) : List Nat :=
  ((((s.ctxOf t k).active ws).map (s.rowsRead t k)).flatten).filter (fun r => (s.tile t).unlanded.contains r)

/-- The bundle's RNWAIT has not met its threshold (R131). -/
def State.rnUnmet (s : State) (t k : Nat) (ws : List RWord) : Bool :=
  match (s.ctxOf t k).rnWait ws with
  | some (n, v) => decide (n ≤ 16383) && decide (s.reg .RNT_VALk [n] < v)
  | none => false

/-- What holds a bundle of legal words, if anything does. -/
def State.holdOf (s : State) (t k : Nat) (ws : List RWord) : Option Hold :=
  let c := s.ctxOf t k
  let x := s.tile t
  let act := c.active ws
  let wantsQueue := act.any (fun w => match w.f with | .ts f => (c.requestOf w.mn f).isSome && (w.mn == .SIDX || w.mn == .SBLK) | _ => false)
  let banks := (act.map (fun w => match w.f with | .vr f => (c.vRows w.mn f).map (· % 16) | _ => [])).flatten
  let fences := act.all (fun w => match w.f with | .tb f => w.mn != .FENCE || s.fenceMet t k f.kind.toNat | _ => true)
  if c.oldWait then some .oldVal
  else if s.rnUnmet t k ws then some .rnt
  else if s.missingRows t k ws ≠ [] then some .rows
  else if wantsQueue ∧ x.queueFull k then some .full
  else if banks.any (fun b => x.rdBanks.contains b) then some .grant
  else if !fences then some .fence
  else if act.any (fun w => w.mn.slot == 3) ∧ 8 ≤ x.queued then some .mqueue
  else if act.any (fun w => w.mn == .BAR) then
    match c.bar with
    | .woken => none
    | .sent => some .barWait
    | .no => if s.fenceMet t k 15 then some .barArrive else some .barFence
  else none

/-- The precise fault of an enabled instruction (R114). -/
def State.faultOf (s : State) (t k : Nat) (w : RWord) : Option Nat :=
  let c := s.ctxOf t k
  let x := s.tile t
  match w.f with
  | .vr f => lowest [c.vFault w.mn f, if x.rowsPoisoned (c.vRows w.mn f) then some fDPOISON else none]
  | .mx f =>
    match s.mxRow t k w.mn f with
    | none => none
    | some (a, n) => lowest [spadCheck a n 256, if x.rowsPoisoned (s.mxRows t k w.mn f) then some fDPOISON else none]
  | .ts _ | .tx _ | .tr _ | .tb _ => s.faultT t k w
  | _ => s.faultS t k w

/-- The fault of the earliest slot of a bundle (R116). -/
def State.bundleFault (s : State) (t k : Nat) (ws : List RWord) : Option Nat :=
  ((s.ctxOf t k).active ws).findSome? (s.faultOf t k)

/-- The effect of one enabled instruction; operands from `s0` (R98). -/
def effOf (s0 : State) (t k : Nat) (s : State) (w : RWord) : State :=
  match w.f with
  | .vr f => effV s0 t k w.mn w.g f s
  | .mx f => effM s0 t k w.mn f s
  | .ts _ | .tx _ | .tr _ | .tb _ => effT s0 t k w s
  | _ => effS s0 t k w s

/-- The issue of a bundle: effects, the next program counter, the context's state (R85, R110, R111). -/
def State.issueNow (s : State) (t k : Nat) (ws : List RWord) (lock : Bool) : State :=
  let act := (s.ctxOf t k).active ws
  let s1 := act.foldl (effOf s t k) s
  let yields := !lock && act.any (fun w => w.mn == .YIELD)
  let s2 := s1.updTile t (fun x =>
    { x with cur := k, sel := some k, turn := false,
             ctx := ⟨x.ctx.entries.map (fun e => (e.1, if e.1 ≠ k ∧ e.2.st = .run then { e.2 with st := .ready } else e.2))⟩ })
  let s3 := s2.updCtx t k (fun c =>
    { c.advance ws with st := if yields then .ready else .run, held := none, woken := false, bar := .no })
  if act.any (fun w => w.mn == .HALT) then s3.haltCtx t k else s3

/-- A held bundle: WAIT, PARK, or RUN for the matrix queue (R81, R82, R85, R86, R131, R134). In lockstep mode context 0 tries again from there in every clock (R88; log 18). -/
def State.applyHold (s : State) (t k : Nat) (ws : List RWord) (h : Hold) : State :=
  match h with
  | .mqueue => s
  | .rnt => s.updCtx t k (fun c => if c.st = .park then c else { c with st := .park, held := some ws, woken := false })
  | .barWait => s.updCtx t k (fun c => { c with st := .park, held := some ws })
  | .barArrive =>
    let s := { s with fab := { s.fab with bars := s.fab.bars ++ [BarMsg.mk (s.fld .TILE_JOB (tix t) 7 0) t k] } }
    s.updCtx t k (fun c => { c with st := .park, held := some ws, bar := .sent })
  | _ => s.updCtx t k (fun c => { c with st := .wait, held := some ws })

/-- How an attempt to issue ends. -/
inductive Tried where
  | issued | held (h : Hold) | faulted | missed
  deriving DecidableEq, Repr

/-- A context tries to issue a bundle, given as decoded words (R76, R97, R98, R114, R116). -/
def State.tryBundle (s : State) (t k : Nat) (ws : List (Option RWord)) (lock : Bool) : State × Tried :=
  let pc := (s.ctxOf t k).pc
  let rs := ws.filterMap id
  if rs.length ≠ ws.length ∨ !bundleLegal rs then (s.contextFault t k fILL pc, .faulted)
  else
    match s.holdOf t k rs with
    | some h => (s.applyHold t k rs h, .held h)
    | none =>
      match s.bundleFault t k rs with
      | some code => (s.contextFault t k code pc, .faulted)
      | none => (s.issueNow t k rs lock, .issued)

/-! ### Stall attribution (R88, R89, R200) -/

/-- A read request that still owes bytes to a row (R200). -/
def Req.owes (r : Req) (row : Nat) : Bool := !r.d.isWrite && r.rows.contains row && decide (r.landed.get 0 row < r.rowBytes row)

/-- The cause of a cycle held by rows: that of the oldest missing row (R200). Vat bank conflicts are timing and are not modelled (log 17). -/
def Tile.rowCause (x : Tile) (rows : List Nat) : Nat :=
  match x.reqs.find? (fun r => rows.any r.owes) with
  | none => 0
  | some r =>
    match (sortBy id (rows.filter r.owes)).head? with
    | none => 0
    | some row =>
      let walks := x.walks.any (fun w => w.who == .stream r.ctx) && decide ((x.headReq r.ctx).map (·.id) = some r.id)
        && (match r.plan? with | .data segs _ _ _ _ => segs.any (fun g => (rowsOf g.sp g.len).contains row) | _ => false)
      if walks then 5
      else if r.starved && r.queued && r.unsent.any (fun p => (rowsOf p.1 p.2).contains row) then 1
      else 0

/-- The stall counter of a cycle in which a context's bundle does not issue (R88). -/
def State.causeOf (s : State) (t k : Nat) (ws : List RWord) : Nat :=
  let c := s.ctxOf t k
  if s.dbgHold t then 7
  else if s.throttled t then 6
  else if c.oldWait ∨ s.rnUnmet t k ws then 2
  else if (c.active ws).any (fun w => w.mn == .BAR) then 3
  else (s.tile t).rowCause (s.missingRows t k ws)

/-- The precedence of a stall counter (R88). -/
def causeRank (c : Nat) : Nat := [7, 6, 2, 3, 4, 5, 1, 0].getD c 0

/-- One more stalled cycle in counter `c`. -/
def State.stall (s : State) (t c : Nat) : State :=
  let is := tix t ++ [c]
  s.setReg64 .TILE_STALLc_LO .TILE_STALLc_HI is ((s.reg64 .TILE_STALLc_LO .TILE_STALLc_HI is + 1) % 2 ^ 64)

def State.prio (s : State) (t k : Nat) : Nat := s.fld .TILE_CTXk_CFG (tix t ++ [k]) 1 0

/-- Native mode: a cycle without an issue counts once while a context is in WAIT or PARK (R89). -/
def State.countIdle (s : State) (t : Nat) : State :=
  let ks := (upTo 4).filter (fun k => (s.ctxOf t k).st == .wait || (s.ctxOf t k).st == .park)
  let top := ks.foldl (fun m k => max m (s.prio t k)) 0
  let cs := (ks.filter (fun k => s.prio t k == top)).map (fun k => s.causeOf t k ((s.ctxOf t k).held.getD []))
  match (sortBy causeRank cs).head? with
  | some c => s.stall t c
  | none => s

/-! ### Instruction rows -/

/-- An instruction row: the context's next bundle is this one word (log 7). A pending skip of a LOOP of 0 ends behind one word (log 19). -/
def State.rowIssue (s : State) (t k : Nat) (w : RWord) : State :=
  let lock := s.flag .TILE_CTRL (tix t) 1
  let c := s.ctxOf t k
  let may := c.st == .ready || c.st == .run || (lock && (c.st == .wait || c.st == .park))
  if !(s.tile t).ready || s.dbgHold t || (lock && k != 0) || !may then s
  else
    let s := match c.skip with
      | some fin => s.updCtx t k (fun c => { c with pc := (fin + 8) % 2 ^ 48, skip := none })
      | none => s
    (s.tryBundle t k [some w] lock).1

end Sys2Proof.Machine
end

