-- ==== Sys2Proof/Machine/TileClock.lean ====
section
/-! DEFINITION. One tile clock: results that land, the matrix engines, instruction fetch, context selection, stall counting (R76, R86, R88 to R93, R106, R118, R139). -/

namespace Sys2Proof.Machine
open Sys2Proof

/-! ### Results that land (R106, R139) -/

/-- A row destination of a V instruction is written; a write of the whole row clears its poison (R99, R196). -/
def State.commitRow (s : State) (t a w : Nat) (mask : BitVec 64) (lanes : List Word) : State :=
  let bs := packLanes w mask (s.spRd t a (rowBytes w)) lanes
  if mask = BitVec.allOnes 64 then s.spWrRows t a bs else s.spWr t a bs

/-- One result of context `k` lands. -/
def State.commitDst (s : State) (t k : Nat) : Dst → State
  | .s i v => s.updCtx t k (fun c => c.wrS i v)
  | .a i v => s.updCtx t k (fun c => c.wrA i v)
  | .v i mask lanes => s.updCtx t k (fun c => c.wrV i mask lanes)
  | .p i mask bs => s.updCtx t k (fun c => c.wrP i mask bs)
  | .row a w mask lanes => s.commitRow t a w mask lanes
  | .flags f => s.updCtx t k (fun c => { c with fflags := Nat.lor c.fflags f, newFl := Nat.lor c.newFl f })
  | .sample ch r => s.updTile t (fun x => x.addSample ch r)

/-- The V instructions whose row write meets a bank that the array drainer writes in this clock: their writes move by one clock (R139). -/
def Tile.beaten (x : Tile) (c : Ctx) : List Nat :=
  c.pend.filterMap (fun p => match p.dst with
    | .row a _ _ _ => if p.due ≤ x.clk ∧ x.wrBanks.contains (a / 256 % 16) then p.vi else none
    | _ => none)

/-- The results of context `k` that are due land, in the order of issue (R106). -/
def State.commitCtx (s : State) (t k : Nat) : State :=
  let x := s.tile t
  let c := s.ctxOf t k
  let late := x.beaten c
  let isLate (p : PendWr) : Bool := match p.vi with | some i => late.contains i | none => false
  let now := c.pend.filter (fun p => decide (p.due ≤ x.clk) && !isLate p)
  let rest := (c.pend.filter (fun p => decide (x.clk < p.due) || isLate p)).map (fun p => if isLate p then { p with due := p.due + 1 } else p)
  now.foldl (fun s p => s.commitDst t k p.dst) (s.updCtx t k (fun c => { c with pend := rest }))

/-! ### Instruction fetch (R117, R118) -/

def Tile.iline (x : Tile) (mctx va : Nat) : Option ILine := x.icache.find? (fun l => l.mctx == mctx && l.va == va / 256 * 256)

/-- What a fetch of a bundle finds: its words, a line that is missing, or a poisoned line. -/
inductive Fetched where
  | bundle (ws : List Nat) (beyond : Bool) | miss (line : Nat) | bad (line : Nat)
  deriving DecidableEq, Repr

/-- The decoded words of a bundle; one that runs past its fourth word is illegal (R97). -/
def decodeBundle (ws : List Nat) (beyond : Bool) : List (Option RWord) :=
  ws.map (fun w => (decodeWord w).2) ++ (if beyond then [none] else [])

/-- The words of a bundle that is skipped break R97: more than four of them, or slots that do not rise. -/
def breaksOrder (ws : List Nat) (beyond : Bool) : Bool :=
  beyond || !(decide ((ws.map (fun w => bits w 62 61)).Pairwise (· < ·)))

/-- Up to `n` words from `va` upward, to the word with E = 1 (R96, R97). -/
def Tile.fetchWords (x : Tile) (mctx : Nat) : Nat → Nat → Fetched
  | 0, _ => .bundle [] true
  | n + 1, va =>
    match x.iline mctx va with
    | none => .miss (va / 256 * 256)
    | some l =>
      if l.bad.contains (va % 256 / 64) then .bad l.va
      else
        let w := leNat ((l.bytes.drop (va % 256)).take 8)
        if bit w 63 then .bundle [w] false
        else
          match x.fetchWords mctx n ((va + 8) % 2 ^ 48) with
          | .bundle ws beyond => .bundle (w :: ws) beyond
          | r => r

/-- A context begins to wait for a line; a translation it lacks starts a walk (R118, R299). -/
def State.startMiss (s : State) (t k line : Nat) : State :=
  let c := s.ctxOf t k
  if c.miss = some line then s
  else
    let m := s.mmuCtx t k
    let s := s.updCtx t k (fun c => { c with miss := some line })
    s.updTile t (fun x =>
      if (lookupTlb x.tlb m line).isSome ∨ x.walks.any (fun w => w.who == .ifetch k && w.va == line / 65536 * 65536) then x
      else { x with walks := x.walks ++ [⟨.ifetch k, m, line / 65536 * 65536⟩] })

/-- A context fetches the bundle at its program counter, after the end bundle of a LOOP of 0 where one is to be skipped (R125), and tries to issue it. -/
def State.fetchIssue (s : State) (t k : Nat) (lock : Bool) : Nat → State × Tried
  | 0 => (s, .missed)
  | n + 1 =>
    let c := s.ctxOf t k
    if c.oldWait then (s.applyHold t k [] .oldVal, .held .oldVal)
    else
      let at_ := c.skip.getD c.pc
      let fault (code : Nat) : State × Tried := (s.contextFault t k code at_, .faulted)
      match (s.tile t).fetchWords (s.mmuCtx t k) 4 at_ with
      | .miss line =>
        match c.ffail with
        | some (l, code) => if l = line then fault code else (s.startMiss t k line, .missed)
        | none => (s.startMiss t k line, .missed)
      | .bad line =>
        ((s.updTile t (fun x => { x with icache := x.icache.filter (fun l => l.va ≠ line ∨ l.mctx ≠ s.mmuCtx t k) })).contextFault t k fIPOISON at_, .faulted)
      | .bundle ws beyond =>
        if c.skip.isSome then
          if breaksOrder ws beyond then fault fILL
          else (s.updCtx t k (fun c => { c with skip := none, pc := (at_ + 8 * ws.length) % 2 ^ 48 })).fetchIssue t k lock n
        else s.tryBundle t k (decodeBundle ws beyond) lock

/-! ### Context selection (R86) -/

/-- The READY context of highest PRIO, the first in round-robin order after the context that last issued. -/
def State.bestReady (s : State) (t : Nat) : Option Nat :=
  let x := s.tile t
  let from_ := if x.sel.isNone then 3 else x.cur
  let ks := ((List.range 4).map (fun d => (from_ + 1 + d) % 4)).filter (fun k => (x.context k).st == .ready)
  let top := ks.foldl (fun m k => max m (s.prio t k)) 0
  ks.find? (fun k => s.prio t k == top)

/-- The context whose turn it is: in RUN, or selected by a switch cycle and not yet issued. -/
def Tile.incumbent (x : Tile) : Option Nat :=
  match (upTo 4).find? (fun k => (x.context k).st == .run) with
  | some k => some k
  | none => match x.sel with
    | some k => if x.turn ∧ (x.context k).st = .ready then some k else none
    | none => none

/-- The context that the tile selects: the incumbent, unless a READY context of higher PRIO takes over. -/
def State.chosen (s : State) (t : Nat) : Option Nat :=
  match (s.tile t).incumbent, s.bestReady t with
  | some r, some q => if s.prio t r < s.prio t q then some q else some r
  | some r, none => some r
  | none, q => q

/-- A switch cycle to context `k`: no bundle issues, and a context in RUN returns to READY. -/
def State.switchTo (s : State) (t k : Nat) : State :=
  s.updTile t (fun x =>
    { x with sel := some k, turn := true,
             ctx := ⟨x.ctx.entries.map (fun e => (e.1, if e.1 ≠ k ∧ e.2.st = .run then { e.2 with st := .ready } else e.2))⟩ })

/-- Native mode, the context that may issue tries; if it cannot, the cycle is a switch cycle to another READY context, or is counted (R86, R89). -/
def State.nativeTry (s : State) (t k : Nat) : State :=
  let s := s.updTile t (fun x => { x with sel := some k, turn := false })
  let (s', r) := s.fetchIssue t k false 2
  match r with
  | .issued => s'
  | .missed => (s'.updTile t (fun x => { x with turn := true })).countIdle t
  | .held .mqueue => (s'.updTile t (fun x => { x with turn := true })).countIdle t
  | _ =>
    match s'.bestReady t with
    | some q => s'.switchTo t q
    | none => s'.countIdle t

/-- The bundle of context `k` is cached and nothing holds it (R385). -/
def State.couldIssue (s : State) (t k : Nat) : Bool :=
  let c := s.ctxOf t k
  match (s.tile t).fetchWords (s.mmuCtx t k) 4 c.pc with
  | .bundle ws beyond => c.skip.isNone && (s.holdOf t k ((decodeBundle ws beyond).filterMap id)).isNone
  | _ => false

/-- Native issue mode (R86, R89). -/
def State.nativeClock (s : State) (t : Nat) : State :=
  match s.chosen t with
  | none => s.countIdle t
  | some k =>
    match (s.tile t).sel with
    | some m =>
      if m ≠ k then s.switchTo t k
      else if s.throttled t then (if s.couldIssue t k then s.stall t 6 else s.countIdle t)
      else s.nativeTry t k
    | none => if s.throttled t then (if s.couldIssue t k then s.stall t 6 else s.countIdle t) else s.nativeTry t k

/-- Lockstep issue mode: context 0 alone; every cycle its next bundle cannot issue is one stall (R82, R88, R118). -/
def State.lockstepClock (s : State) (t : Nat) : State :=
  if !(s.ctxOf t 0).live then s
  else if s.throttled t then s.stall t 6
  else
    let (s', r) := s.fetchIssue t 0 true 2
    match r with
    | .issued => s'
    | .faulted => s'
    | .missed => s'.stall t 0
    | .held .mqueue => s'
    | .held _ =>
      match (s.tile t).fetchWords (s.mmuCtx t 0) 4 (s'.ctxOf t 0).pc with
      | .bundle ws beyond => s'.stall t (s.causeOf t 0 ((decodeBundle ws beyond).filterMap id))
      | _ => s'.stall t 2

/-- The issue part of a clock. An honoured DBG_HOLD holds every context (R88, R89). -/
def State.issuePhase (s : State) (t : Nat) : State :=
  let lock := s.flag .TILE_CTRL (tix t) 1
  if s.dbgHold t then
    if lock then (if (s.ctxOf t 0).live then s.stall t 7 else s) else s.countIdle t
  else if lock then s.lockstepClock t
  else s.nativeClock t

/-- One clock of a tile that is enabled; results land before the issue (R86, R106). -/
def State.tileClock (s : State) (t : Nat) : State :=
  if !s.flag .TILE_CTRL (tix t) 0 then s
  else if !(s.tile t).ready then s.updTile t (fun x => { x with clk := x.clk + 1 })
  else
    let s := s.updTile t (fun x =>
      { x.flushSamples with clk := x.clk + 1, rdBanks := [], wrBanks := [],
                            ctx := ⟨x.ctx.entries.map (fun e => (e.1, { e.2 with newFl := 0 }))⟩ })
    let s := s.tickEngines t
    let s := foldState (fun s k => s.commitCtx t k) s (upTo 4)
    let s := s.landFills t
    s.issuePhase t

/-! ### The commands -/

/-- TILE_CLOCK (R86). -/
def execTileClock (t : TileId) (s : State) : Host.Outcome State Fault Refusal := liveIn (clusterOf t.val) s (fun s => s.tileClock t.val)

/-- A context in WAIT whose condition is met becomes READY; a BAR whose fences are met records its arrival; a woken context leaves PARK (R86, R134). -/
def State.contextReady (s : State) (t k : Nat) : State :=
  let c := s.ctxOf t k
  let ready : State := s.updCtx t k (fun c => { c with st := .ready })
  match c.st with
  | .wait =>
    match c.held with
    | none => if c.oldWait then s else ready
    | some ws =>
      match s.holdOf t k ws with
      | none => ready
      | some .barArrive => s.applyHold t k ws .barArrive
      | some .mqueue => ready
      | some .rnt => ready
      | some _ => s
  | .park => if c.woken ∨ c.bar = .woken then ready else s
  | _ => s

def execContextReady (t : TileId) (k : CtxId) (s : State) : Host.Outcome State Fault Refusal := liveIn (clusterOf t.val) s (fun s => s.contextReady t.val k.val)

/-- A missed line arrives: it must lie in an executable page of a sealed region (R114, R117, R118). 64 KiB hold 256 lines; the oldest leaves a full cache (log 9). -/
def State.icacheFill (s : State) (t k : Nat) (ecc : Ecc) : State :=
  match (s.ctxOf t k).miss with
  | none => s
  | some line =>
    let m := s.mmuCtx t k
    let done (s : State) : State := s.updCtx t k (fun c => { c with miss := none })
    let fail (s : State) : State := (done s).updCtx t k (fun c => { c with ffail := some (line, fIFETCH) })
    if ((s.tile t).iline m line).isSome then done s
    else
      match lookupTlb (s.tile t).tlb m line with
      | none => s
      | some e =>
        if !e.allows .ex then fail (s.logFault 1 kPERM m line)
        else
          let pa := e.map line
          if (s.sealedAt pa).isNone then fail s
          else
            let bad := (upTo 4).filter (fun i => ecc == .uncorrectable || s.poisoned (pa + 64 * i) 64 || s.badLines (pa + 64 * i) 64 != [])
            let (r, s) := s.memRead pa 256 t ecc
            (done s).updTile t (fun x =>
              { x with icache := (if 256 ≤ x.icache.length then x.icache.drop 1 else x.icache) ++ [⟨m, line, pa, r.bytes, bad⟩] })

def execIcacheFill (t : TileId) (k : CtxId) (ecc : Ecc) (s : State) : Host.Outcome State Fault Refusal := liveIn (clusterOf t.val) s (fun s => s.icacheFill t.val k.val ecc)

end Sys2Proof.Machine
end

