-- ==== Sys2Proof/Machine/ArrayRows.lean ====
section
/-! DEFINITION. The events of the matrix queue and the slices: start, latency point, release (R79, R82, R83, R87, R141 to R146). -/

namespace Sys2Proof.Machine
open Sys2Proof

/-! ### Checks at the start (R114, R141) -/

/-- Slice `j` belongs to context `k`, or is named by an MPART of it that takes slices. -/
def Tile.holdsAfter (x : Tile) (k : Nat) (f : MX) (j : Nat) : Bool :=
  f.slm.getLsbD j || (decide ((x.slice j).owner = some k) && !(x.slice j).releasing)

def Tile.modeAfter (x : Tile) (f : MX) (j : Nat) : Nat := if f.slm.getLsbD j then f.mode.toNat else (x.slice j).mode

/-- Every gang of the context would be whole and of one MODE (R79). -/
def Tile.gangsWhole (x : Tile) (k : Nat) (f : MX) : Bool :=
  (upTo 4).all (fun j =>
    !x.holdsAfter k f j ||
    match x.modeAfter f j with
    | 2 => x.holdsAfter k f (j / 2 * 2) && x.holdsAfter k f (j / 2 * 2 + 1) && x.modeAfter f (j / 2 * 2) == 2 && x.modeAfter f (j / 2 * 2 + 1) == 2
    | 3 => (upTo 4).all (fun i => x.holdsAfter k f i && x.modeAfter f i == 3)
    | _ => true)

/-- The imprecise fault of a matrix instruction that starts: the lowest code (R114, R116, R141). -/
def Tile.startFault (x : Tile) (e : MEnt) : Option Nat :=
  let js := slicesOf e.f.slm
  if e.mn = .MPART then
    if e.f.acc then none
    else if !x.gangsWhole e.ctx e.f then some fARRMODE
    else if js.any (fun j => (x.slice j).releasing || ((x.slice j).owner.isSome && (x.slice j).owner != some e.ctx)) then some fARROWNED
    else none
  else if !x.wholeGroups e.f.slm then some fARRMODE
  else if js.any (fun j => (x.slice j).owner != some e.ctx || (x.slice j).gone) then some fARRNOTOWN
  else none

/-! ### Effects at the start -/

/-- MPART takes its slices with a MODE, or releases those the context owns (R87, R145). -/
def Tile.startMpart (x : Tile) (k : Nat) (f : MX) : Tile :=
  (slicesOf f.slm).foldl (fun x j =>
    let y := x.slice j
    if f.acc then
      (if y.owner = some k ∧ !y.releasing then x.setSlice j { y with releasing := true, rel := x.clk, gone := true } else x)
    else x.setSlice j ⟨some k, f.mode.toNat, false, y.rel, false⟩) x

/-- MLDI records its format, zero point and shared scale in the sets it loads (R142, R153, R156). -/
def State.startMldi (s : State) (t : Nat) (f : MX) : State :=
  let e := if f.st then s.sfEntry t f.sfb.toNat else 0
  let zx : Int := if f.st && isIntFmt f.fmt.toNat then zeroPoint f.fmt.toNat e else 0
  s.updTile t (fun x => (slicesOf f.slm).foldl (fun x j =>
    let key := 2 * j + b2n f.set
    let y := x.sets.get StatSet.zero key
    { x with sets := x.sets.put key { y with fmt := some f.fmt.toNat, zx := zx, scale := sfShift e } }) x)

/-- MCLR writes zero to a bank of every named slice (R146). -/
def Tile.startMclr (x : Tile) (f : MX) : Tile :=
  (slicesOf f.slm).foldl (fun x j =>
    { x with banks := x.banks.put (4 * j + f.bank.toNat) { x.bank j f.bank.toNat with ent := .empty } }) x

/-- A row that the loader has read in the clock in which an MSTW starts is read again: the feeder serves the streamer first (R84). -/
def Tile.yieldFeeder (x : Tile) : Tile :=
  if x.rdBanks = [] then x
  else
    { x with rdBanks := [], mq := x.mq.map (fun e =>
        match e.mn, e.run with
        | .MLDI, some r =>
          if 0 < r.rows ∧ (r.occEnd = none ∨ r.occEnd = some (x.clk + 1)) then { e with run := some { r with rows := r.rows - 1, occEnd := none } } else e
        | _, _ => e) }

/-- The effects of an instruction at its start beside those of its clocks. -/
def State.startEffect (s : State) (t : Nat) (e : MEnt) : State :=
  match e.mn with
  | .MPART => s.updTile t (fun x => x.startMpart e.ctx e.f)
  | .MLDI => s.startMldi t e.f
  | .MCLR => s.updTile t (fun x => x.startMclr e.f)
  | .MSTW => s.updTile t Tile.yieldFeeder
  | _ => s

/-- The next instruction of an engine starts; this clock is its first (R82, R83). After a fault the context's later queue entries are discarded (R115). -/
def State.matrixStart (s : State) (t : Nat) (eng : Engine) : State :=
  let x := s.tile t
  match x.startable eng with
  | none => s
  | some (pre, e, post) =>
    match x.startFault e with
    | some code =>
      let s := s.updTile t (fun x => { x with mq := pre ++ post.filter (fun p => p.ctx ≠ e.ctx ∨ p.run.isSome) })
      s.contextFault t e.ctx code e.pc
    | none =>
      let s := s.startEffect t e
      let occ := (s.tile t).occupancy e
      let e' := e.started x.clk occ
      let s := s.updTile t (fun x => { x with mq := updFirst (fun p => p.id == e.id) (fun _ => e') x.mq })
      (tickEngine eng t (s, (s.tile t).rdBanks != []) e').1

/-- The oldest instruction of an engine reaches its latency point (R83): it leaves the tile's books, an MDRN that saturated sets MSAT (R144),
and the release of its slices counts from here (R87). -/
def State.matrixComplete (s : State) (t : Nat) (eng : Engine) : State :=
  let x := s.tile t
  match takeFirst (fun e => decide (e.mn.engine = eng) && e.run.isSome) x.mq with
  | none => s
  | some (e, rest) =>
    match e.latPoint with
    | none => s
    | some c =>
      if x.clk < c then s
      else
        let s := s.updTile t (fun x =>
          (slicesOf e.f.slm).foldl (fun x j =>
            let y := x.slice j
            if y.releasing ∧ e.mn ≠ .MPART then x.setSlice j { y with rel := max y.rel c } else x) { x with mq := rest })
        match e.run with
        | some r => if r.msat then s.updCtx t e.ctx (fun c => { c with fflags := Nat.lor c.fflags ffMSAT, newFl := Nat.lor c.newFl ffMSAT }) else s
        | none => s

/-- A released slice becomes free four clocks after the last matrix instruction on it, with its sets and banks zeroed (R87). A free slice has no MODE of its own (R79; log 47). -/
def State.sliceFree (s : State) (t j : Nat) : State :=
  let x := s.tile t
  let y := x.slice j
  let busy := x.mq.any (fun e => decide (y.owner = some e.ctx) && e.f.slm.getLsbD j && !(e.mn == .MPART && e.f.acc))
  if !y.releasing ∨ busy ∨ x.clk < y.rel + 4 then s
  else
    s.updTile t (fun x =>
      let x := x.setSlice j { Slice.free with rel := y.rel }
      { x with sets := (x.sets.erase (2 * j)).erase (2 * j + 1),
               banks := (((x.banks.erase (4 * j)).erase (4 * j + 1)).erase (4 * j + 2)).erase (4 * j + 3) })

/-! ### The commands -/

/-- MATRIX_START (R82). -/
def execMatrixStart (t : TileId) (e : Engine) (s : State) : Host.Outcome State Fault Refusal := liveIn (clusterOf t.val) s (fun s => s.matrixStart t.val e)

/-- MATRIX_COMPLETE (R83). -/
def execMatrixComplete (t : TileId) (e : Engine) (s : State) : Host.Outcome State Fault Refusal := liveIn (clusterOf t.val) s (fun s => s.matrixComplete t.val e)

/-- SLICE_FREE (R87). -/
def execSliceFree (t : TileId) (j : Fin 4) (s : State) : Host.Outcome State Fault Refusal := liveIn (clusterOf t.val) s (fun s => s.sliceFree t.val j.val)

end Sys2Proof.Machine
end

