-- ==== Sys2Proof/Machine/Attention.lean ====
section
/-! DEFINITION. The attention engines: passes, wheels, the arithmetic of one head, bucketing, walk epochs (R219 to R241). -/

namespace Sys2Proof.Machine
open Sys2Proof

def State.attn (s : State) (c : Nat) : Att := s.att.get Att.zero c

def State.setAtt (s : State) (c : Nat) (a : Att) : State := { s with att := s.att.put c a }

def State.updRun (s : State) (c : Nat) (f : AttRun → AttRun) : State :=
  s.setAtt c { s.attn c with run := (s.attn c).run.map f }

/-- An engine as an initiator (R397). -/
def iniAtt (c : Nat) : Initiator := ⟨.isl, BitVec.ofNat 8 (0x88 + c)⟩

/-! ### The pass descriptor (R221, R222) -/

/-- `n` bytes of the descriptor at an offset. -/
def AttRun.le (r : AttRun) (off n : Nat) : Nat := leNat ((r.desc.drop off).take n)

def AttRun.bucket (r : AttRun) : Bool := bit (r.le 0 4) 0
def AttRun.causal (r : AttRun) : Bool := bit (r.le 0 4) 1
def AttRun.dh (r : AttRun) : Nat := 64 * 2 ^ bits (r.le 0 4) 3 2
def AttRun.kvfmt (r : AttRun) : Nat := bits (r.le 0 4) 6 4
def AttRun.qfmt (r : AttRun) : Nat := bits (r.le 0 4) 7 7
def AttRun.ofmt (r : AttRun) : Nat := bits (r.le 0 4) 9 8
def AttRun.jid (r : AttRun) : Nat := bits (r.le 0 4) 23 16
def AttRun.hq (r : AttRun) : Nat := r.le 4 2
def AttRun.hkv (r : AttRun) : Nat := r.le 6 2
def AttRun.nseq (r : AttRun) : Nat := r.le 8 2
def AttRun.qtok (r : AttRun) : Nat := r.le 10 1
def AttRun.scale (r : AttRun) : Nat := r.le 12 4
def AttRun.ltab (r : AttRun) : Nat := r.le 0x10 8
def AttRun.qbase (r : AttRun) : Nat := r.le 0x18 8
def AttRun.obase (r : AttRun) : Nat := r.le 0x20 8
def AttRun.sbase (r : AttRun) : Nat := r.le 0x28 8

/-- Element widths in bytes: KV, query, output (R221, R226). -/
def AttRun.w (r : AttRun) : Nat := if r.kvfmt = 3 then 2 else 1
def AttRun.qw (r : AttRun) : Nat := r.qfmt + 1
def AttRun.ow (r : AttRun) : Nat := if r.ofmt = 2 then 4 else 2

/-- Bytes of one token in one lane, and tokens per page (R226). -/
def AttRun.tok (r : AttRun) : Nat := r.dh * r.w
def AttRun.pgTok (r : AttRun) : Nat := 65536 / r.tok

/-- Tokens an item covers of each lane: a page, or a 256-token block (R231, R235). -/
def AttRun.itemTok (r : AttRun) : Nat := if r.bucket then 256 else r.pgTok

/-- The descriptor meets R222. -/
def AttRun.valid (r : AttRun) : Bool :=
  let ctl := r.le 0 4
  decide (bits ctl 3 2 ≤ 2) && decide (r.kvfmt ≤ 3) && decide (r.ofmt ≤ 2) && bits ctl 15 10 == 0 && bits ctl 31 24 == 0 &&
  decide (1 ≤ r.hq) && decide (r.hq ≤ 128) && decide (1 ≤ r.hkv) && decide (r.hkv ≤ r.hq) && r.hq % r.hkv == 0 &&
  decide (1 ≤ r.nseq) && decide (r.nseq ≤ 1024) && decide (1 ≤ r.qtok) && decide (r.qtok ≤ 64) && r.le 11 1 == 0 &&
  r.ltab % 16 == 0 && bits r.ltab 63 48 == 0 && r.qbase % 64 == 0 && r.obase % 64 == 0 && r.sbase % 4 == 0 && r.le 0x30 16 == 0

/-! ### Translated accesses (R220, R237) -/

/-- The translation of the 64 KiB page of `va` (R219). -/
def Tlb.page (t : Tlb) (va : Nat) : Tlb := { t with va := va / 65536 * 65536, pa := t.map (va / 65536 * 65536), size := 65536 }

/-- The buffer takes an entry in place of the least recently used of 4,096 (R237). -/
def attFill (ts : List Tlb) (t : Tlb) : List Tlb := (if 4096 ≤ ts.length then ts.drop 1 else ts) ++ [t]

/-- The page's entry becomes the most recently used. -/
def attTouch (ts : List Tlb) (t : Tlb) : List Tlb := ts.filter (· != t) ++ [t]

def State.attMctx (s : State) (c : Nat) : Nat := s.fld .ATT_CTRL [c] 13 8

/-- A walk for the engine: the page's entry, or the fault kind. -/
def State.attWalk (s : State) (c va : Nat) (unc : Bool) : Except Nat Tlb :=
  if 2 ^ 48 ≤ va then .error kRANGE
  else
    match s.walk (s.attMctx c) va unc with
    | .ok t => .ok (t.page va)
    | .bad k => .error k

/-- The entry of `va`'s page with the permission, walked when it is not held; a failure is logged (R237, R298). -/
def State.attXlat (s : State) (c va : Nat) (write : Bool) : Option Nat × State :=
  let m := s.attMctx c
  let judge (t : Tlb) (s : State) : Option Nat × State :=
    if (if write then t.w else t.r) then (some (t.map va), s) else (none, s.logFault 3 kPERM m va)
  match (s.attn c).run.bind (fun r => lookupTlb r.tlb m va) with
  | some t => judge t (s.updRun c (fun r => { r with tlb := attTouch r.tlb t }))
  | none =>
    let s := s.updRun c (fun r => { r with misses := r.misses + 1 })
    match s.attWalk c va false with
    | .ok t => judge t (s.updRun c (fun r => { r with tlb := attFill r.tlb t }))
    | .error k => (none, s.logFault 3 k m va)

/-- The pieces of a range cut at page ends: address and length. -/
def pagePieces : Nat → Nat → Nat → List (Nat × Nat)
  | 0, _, _ => []
  | fuel + 1, a, n => if n = 0 then [] else let k := min n (65536 - a % 65536); (a, k) :: pagePieces fuel (a + k) (n - k)

/-- What the engine's read of a range gives: the bytes, whether translation failed, whether poison came. -/
structure AttRead where
  bytes : List Byte
  xlat : Bool
  poison : Bool
  deriving DecidableEq, Repr

/-- A read of `n` bytes at a device virtual address. -/
def State.attRead (s : State) (c va n : Nat) : AttRead × State :=
  (pagePieces (n / 65536 + 2) va n).foldl (fun (p : AttRead × State) (q : Nat × Nat) =>
    match p.2.attXlat c q.1 false with
    | (none, s) => (⟨p.1.bytes ++ List.replicate q.2 0, true, p.1.poison⟩, s)
    | (some pa, s) =>
      let (m, s) := s.memRead pa q.2 (0x88 + c) .clean
      (⟨p.1.bytes ++ m.bytes, p.1.xlat, p.1.poison || m.poison⟩, s)) (⟨[], false, false⟩, s)

/-- A write at a device virtual address; a piece whose page fails is not written. -/
def State.attWrite (s : State) (c va : Nat) (bs : List Byte) : State :=
  ((pagePieces (bs.length / 65536 + 2) va bs.length).foldl (fun (p : State × List Byte) (q : Nat × Nat) =>
    match p.1.attXlat c q.1 true with
    | (none, s) => (s, p.2.drop q.2)
    | (some pa, s) => ((s.memWrite (iniAtt c) pa (p.2.take q.2)).2, p.2.drop q.2)) (s, bs)).1

/-! ### Wheels (R226, R227) -/

/-- First byte of lane `n` of a sequence; its tokens lie one after another from there. -/
def AttRun.laneAt (_ : AttRun) (q : AttSeq) (n : Nat) : Nat := q.wheel + n * q.npg * 65536

/-- Address of the FP32 scale of page `g` of lane `n` (INT8). -/
def AttRun.scaleAt (r : AttRun) (q : AttSeq) (n g : Nat) : Nat := q.wheel + 2 * r.hkv * q.npg * 65536 + 4 * (n * q.npg + g)

def AttRun.lanes (r : AttRun) : List Nat := List.range (2 * r.hkv)

/-- A sequence forms items and reads its wheel. -/
def AttSeq.reads (q : AttSeq) : Bool := q.code == 0 && decide (0 < q.items)

/-- The byte ranges a sequence reads for its item `i`: its tokens in every lane, and the scales of their pages. -/
def AttRun.itemRanges (r : AttRun) (q : AttSeq) (i : Nat) : List (Nat × Nat) :=
  let t0 := i * r.itemTok
  let t1 := min (t0 + r.itemTok) q.len
  if t1 ≤ t0 then []
  else
    (r.lanes.map (fun n => (r.laneAt q n + t0 * r.tok, (t1 - t0) * r.tok))) ++
    (if r.kvfmt = 2 then r.lanes.map (fun n => (r.scaleAt q n (t0 / r.pgTok), 4 * ((t1 - 1) / r.pgTok + 1 - t0 / r.pgTok))) else [])

/-- The 128-byte lines of a range, by number. -/
def linesAt (a n : Nat) : List Nat := if n = 0 then [] else (List.range ((a + n - 1) / 128 - a / 128 + 1)).map (· + a / 128)

/-- The line lies in the range. -/
def inLines (line : Nat) (p : Nat × Nat) : Bool := decide (p.1 / 128 ≤ line) && decide (line * 128 < p.1 + p.2)

/-- Item `i` of a sequence may be read: in BUCKET mode once it has started (R235). -/
def AttRun.open (r : AttRun) (q : AttSeq) (i : Nat) : Bool := !r.bucket || decide (q.item0 + i < r.started)

/-- The sequence may read the line now. -/
def AttRun.wants (r : AttRun) (q : AttSeq) (line : Nat) : Bool :=
  q.reads && !q.merged && (List.range q.items).any (fun i => r.open q i && (r.itemRanges q i).any (inLines line))

def lineKey (s line : Nat) : Nat := s * 2 ^ 41 + line

/-- Every line of item `i` of sequence number `n` has been read. -/
def AttRun.itemDone (r : AttRun) (n : Nat) (q : AttSeq) (i : Nat) : Bool :=
  (r.itemRanges q i).all (fun p => (linesAt p.1 p.2).all (fun l => decide (2 ^ 41 ≤ l) || (r.lines.find (lineKey n l)).isSome))

/-- The first sequence that waits for a line. -/
def AttRun.waiter (r : AttRun) (line : Nat) : Option (Nat × AttSeq) :=
  (r.seqs.zipIdx.find? (fun p => r.wants p.1 line && (r.lines.find (lineKey p.2 line)).isNone)).map (fun p => (p.2, p.1))

/-- Bytes `a .. a + n - 1` of the lines that sequence number `i` has read. -/
def AttRun.got (r : AttRun) (i a n : Nat) : Nat :=
  leNat ((List.range n).map (fun k => (r.lines.get [] (lineKey i ((a + k) / 128))).getD ((a + k) % 128) 0))

/-! ### Pass start (R223 to R225, R229 to R232, R235, R237) -/

/-- The snapshot of one lengths-table entry (R229, R232). -/
def State.attSnap (s : State) (c : Nat) (r : AttRun) (i : Nat) : AttSeq × State :=
  let (e, s) := s.attRead c (r.ltab + 16 * i) 16
  let len := leNat (e.bytes.take 4)
  let npg := leNat ((e.bytes.drop 4).take 2)
  let va := leNat ((e.bytes.drop 8).take 6)
  let code :=
    if e.xlat then 3 else if e.poison then 4
    else if !bit (leNat ((e.bytes.drop 6).take 2)) 0 then 6
    else if len = 0 then 1
    else if 65536 < len ∨ npg * r.pgTok < len ∨ len < r.qtok ∨ va % 65536 ≠ 0 then 2
    else 0
  (⟨code, len, npg, va, 0, 0, false, false, false⟩, s)

/-- The bucket length of a sequence that may form items (R235). -/
def AttSeq.bucketLen (q : AttSeq) : Option Nat :=
  if q.code = 1 then some 0 else if q.code = 0 then some ((q.len + 255) / 256 * 256) else none

/-- Items in DECODE mode, in table order: the sequences with their item numbers, and the number of items (R231). -/
def formDecode (p : Nat) : List AttSeq → Nat → List AttSeq × Nat
  | [], n => ([], n)
  | q :: qs, n =>
    let k := if q.code = 0 then (q.len + p - 1) / p else 0
    let (rest, m) := formDecode p qs (n + k)
    ({ q with item0 := n, items := k } :: rest, m)

/-- Items in BUCKET mode: `cur` is the running group's bucket length, number of members and first item (R235). -/
def formBucket : List AttSeq → Nat → Option (Nat × Nat × Nat) → List AttSeq × Nat
  | [], n, _ => ([], n)
  | q :: qs, n, cur =>
    match q.bucketLen with
    | none => let (rest, m) := formBucket qs n none; (q :: rest, m)
    | some b =>
      let k := b / 256
      let fresh : List AttSeq × Nat :=
        let (rest, m) := formBucket qs (n + k) (some (b, 1, n))
        ({ q with item0 := n, items := k } :: rest, m)
      match cur with
      | some (b', g, i0) =>
        if b' = b ∧ g < 16 then
          let (rest, m) := formBucket qs n (some (b, g + 1, i0))
          ({ q with item0 := i0, items := k } :: rest, m)
        else fresh
      | none => fresh

/-- The pages that item number `k` of the pass reads, in lane order. -/
def AttRun.itemPages (r : AttRun) (k : Nat) : List Nat :=
  r.seqs.flatMap (fun q =>
    if q.reads ∧ q.item0 ≤ k ∧ k < q.item0 + q.items then
      (r.itemRanges q (k - q.item0)).flatMap (fun p => (List.range ((p.1 + p.2 - 1) / 65536 - p.1 / 65536 + 1)).map (· + p.1 / 65536))
    else [])

/-- The preload of one page, unless it is held, fails or finds the buffer full (R237). -/
def State.attPreload (s : State) (c page : Nat) : State :=
  match (s.attn c).run with
  | none => s
  | some r =>
    if (lookupTlb r.tlb (s.attMctx c) (page * 65536)).isSome ∨ 4096 ≤ r.tlb.length then s
    else
      match s.attWalk c (page * 65536) false with
      | .ok t => s.updRun c (fun r => { r with tlb := attFill r.tlb t, preload := r.preload + 1 })
      | .error _ => s

/-- The snapshot, the items and the preload of a valid pass; more than 4,096 items run nothing (R231). -/
def State.attForm (s : State) (c : Nat) (r : AttRun) : State :=
  let (qs, s) := (List.range r.nseq).foldl (fun (p : List AttSeq × State) i =>
    let (q, s) := p.2.attSnap c r i
    (p.1 ++ [q], s)) ([], s)
  let (qs, n) := if r.bucket then formBucket qs 0 none else formDecode r.pgTok qs 0
  if 4096 < n then
    let qs := qs.map (fun q => { q with code := if q.code = 6 then 6 else 7, item0 := 0, items := 0 })
    (s.updRun c (fun r => { r with seqs := qs })).setFlag .ATT_ERR [c] 2 true
  else
    let far (q : AttSeq) : Bool := q.reads && (List.range q.items).any (fun i => (r.itemRanges q i).any (fun p => decide (2 ^ 48 < p.1 + p.2)))
    let qs := qs.map (fun q => { q with xlat := far q })
    let s := s.updRun c (fun r => { r with seqs := qs, items := n })
    let r := { r with seqs := qs, items := n }
    foldState (fun s p => s.attPreload c p) s (((List.range n).flatMap r.itemPages).eraseDups)

/-- ATT_GO (R223). -/
def State.attGo (s : State) (c : Nat) : State :=
  let a := s.attn c
  if 4 ≤ a.queue.length then s.setFlag .ATT_ERR [c] 0 true
  else s.setAtt c { a with queue := a.queue ++ [s.reg64 .ATT_PASS_LO .ATT_PASS_HI [c]] }

/-- A pass leaves the queue: descriptor, snapshot, items, preload. An invalid descriptor sets DESC and the pass has nothing to do (R222). -/
def State.attPassStart (s : State) (c : Nat) : State :=
  let a := s.attn c
  match a.run, a.queue with
  | none, va :: rest =>
    if !s.flag .ATT_CTRL [c] 0 then s
    else
      let s := s.setAtt c { a with queue := rest, run := some ⟨[], [], 0, [], 0, 0, .empty, 0, 0⟩ }
      let (e, s) := s.attRead c va 64
      let s := s.updRun c (fun r => { r with desc := e.bytes })
      match (s.attn c).run with
      | none => s
      | some r => if e.xlat || e.poison || !r.valid then s.setFlag .ATT_ERR [c] 1 true else s.attForm c r
  | _, _ => s

/-! ### Streaming (R228, R235, R237, R238) -/

/-- The sequence's line is settled: its bytes, or zeros after a failure. -/
def State.attSettle (s : State) (c i line : Nat) (bs : List Byte) (xlat poison : Bool) : State :=
  s.updRun c (fun r => { r with
    lines := r.lines.put (lineKey i line) bs,
    seqs := r.seqs.zipIdx.map (fun p => if p.2 = i then { p.1 with xlat := p.1.xlat || xlat, poison := p.1.poison || poison } else p.1) })

/-- Every line of a page that a sequence waits for fails. -/
def State.attFailPage (s : State) (c page : Nat) : State :=
  match (s.attn c).run with
  | none => s
  | some r =>
    (r.seqs.zipIdx.flatMap (fun p => ((List.range 512).map (· + page * 512)).filterMap (fun l =>
      if r.wants p.1 l ∧ (r.lines.find (lineKey p.2 l)).isNone then some (p.2, l) else none))).foldl
      (fun s p => s.attSettle c p.1 p.2 [] true false) s

/-- A read whose page is not held walks the table; the entry replaces the least recently used (R237). -/
def State.attMiss (s : State) (c page : Nat) (ecc : Ecc) : State :=
  match (s.attn c).run with
  | none => s
  | some r =>
    let m := s.attMctx c
    if (lookupTlb r.tlb m (page * 65536)).isSome ∨ ((List.range 512).all (fun i => (r.waiter (i + page * 512)).isNone)) then s
    else
      let s := s.updRun c (fun r => { r with misses := r.misses + 1 })
      let s := s.eccReport (s.fld .MMU_ROOTc [m] 26 0 * 131072) (0x88 + c) ecc
      match s.attWalk c (page * 65536) (decide (ecc = .uncorrectable)) with
      | .ok t => s.updRun c (fun r => { r with tlb := attFill r.tlb t })
      | .error k => (s.logFault 3 k m (page * 65536)).attFailPage c page

/-- A line returns whole to the first sequence that waits for it (R228). -/
def State.attReturn (s : State) (c line : Nat) (ecc : Ecc) : State :=
  match (s.attn c).run with
  | none => s
  | some r =>
    match r.waiter line, lookupTlb r.tlb (s.attMctx c) (line * 128) with
    | some (i, _), some t =>
      let s := s.updRun c (fun r => { r with tlb := attTouch r.tlb t })
      if !t.r then (s.logFault 3 kPERM (s.attMctx c) (line * 128)).attSettle c i line [] true false
      else
        let (m, s) := s.memRead (t.map (line * 128)) 128 (0x88 + c) ecc
        s.attSettle c i line m.bytes false m.poison
    | _, _ => s

/-- The running item of a BUCKET pass ends, its reads done, and the next starts; an overrun is counted (R235). -/
def State.attBucketItem (s : State) (c : Nat) (overran : Bool) : State :=
  match (s.attn c).run with
  | none => s
  | some r =>
    let done := r.started = 0 ∨ (r.seqs.zipIdx.all (fun p =>
      !(p.1.reads && decide (p.1.item0 ≤ r.started - 1) && decide (r.started - 1 < p.1.item0 + p.1.items)) ||
      r.itemDone p.2 p.1 (r.started - 1 - p.1.item0)))
    if r.bucket ∧ r.started ≤ r.items ∧ 0 < r.items ∧ done then
      s.updRun c (fun r => { r with ovr := r.ovr + b2n (overran && decide (0 < r.started)), started := r.started + 1 })
    else s

/-! ### Arithmetic of one head (R233) -/

/-- An exact quotient, cut below the 64th bit: rounding to nearest with ties away from zero cannot tell it from the exact one. -/
def FV.quot : FV → FV → FV
  | .nan, _ => .nan
  | _, .nan => .nan
  | .inf _, .inf _ => .nan
  | .inf a, .fin b _ _ => .inf (a != b)
  | .fin a _ _, .inf b => .fin (a != b) 0 0
  | .fin a m e, .fin b n f =>
    if n = 0 then (if m = 0 then .nan else .inf (a != b))
    else .fin (a != b) (m * 2 ^ (64 + Nat.log2 n) / n) (e - f - (64 + Nat.log2 n : Nat))

/-- A step sum over runs of 64 terms (R155, R233). -/
def stepRuns : Nat → List FV → Nat → Nat
  | 0, _, acc => acc
  | fuel + 1, vs, acc => if vs = [] then acc else stepRuns fuel (vs.drop 64) (fpStep (ofFP32 acc :: vs.take 64))

/-- The sum of a list by runs of 64; the first run has no old entry. -/
def stepSum (vs : List FV) : Nat := stepRuns (vs.length / 64 + 1) (vs.drop 64) (fpStep (vs.take 64))

/-- The sign of an exact zero of the engine's arithmetic (log 3). -/
def attZero (n : Nat) (xs : List Nat) : Bool := Config.zeroSign (0xF00 + n) xs

/-- FP32 operations of the engine: product, difference, fused a * b + c * d, exponential. -/
def attMul (a b : Nat) : Nat := toFP32 (attZero 0 [a, b]) ((ofFP32 a).mul (ofFP32 b))
def attSub (a b : Nat) : Nat := toFP32 (attZero 1 [a, b]) ((ofFP32 a).add (ofFP32 b).neg)
def attFused (a b c d : Nat) : Nat := toFP32 (attZero 2 [a, b, c, d]) (((ofFP32 a).mul (ofFP32 b)).add ((ofFP32 c).mul (ofFP32 d)))
def attExp (a : Nat) : Nat := (specialFP32 .VEXP false (ofFP32 a) a).code

def FV.finite (v : FV) : Bool := !v.isNan && !v.isInf

/-- The larger of two finite FP32 codes. -/
def attMax (a b : Nat) : Nat := if (ofFP32 a).lt (ofFP32 b) then b else a

/-- Key or value element `e` of token `t` in lane `n`, decoded. -/
def AttRun.kv (r : AttRun) (i : Nat) (q : AttSeq) (n t e : Nat) : FV :=
  let code := r.got i (r.laneAt q n + t * r.tok + e * r.w) r.w
  match r.kvfmt with
  | 0 => fspecE4M3.decode code
  | 1 => fspecE5M2.decode code
  | 2 => (FV.ofInt (toSigned 8 code)).mul (ofFP32 (r.got i (r.scaleAt q n (t / r.pgTok)) 4))
  | _ => fspecBF16.decode code

/-- The score of token `t` (R233). -/
def AttRun.score (r : AttRun) (i : Nat) (q : AttSeq) (n : Nat) (qv : List FV) (t : Nat) : Nat :=
  attMul r.scale (stepSum (qv.zipIdx.map (fun p => p.1.mul (r.kv i q n t p.2))))

/-- The running maximum, sum and output vector of a head. -/
structure HeadAcc where
  m : Nat
  l : Nat
  o : List Nat
  deriving DecidableEq, Repr

/-- One item of a head, from the scores of its visible tokens `t0 ..`. -/
def AttRun.headItem (r : AttRun) (i : Nat) (q : AttSeq) (n t0 : Nat) (sc : List Nat) : HeadAcc :=
  let mi := sc.foldl attMax (sc.headD 0)
  let p := sc.map (fun x => attExp (attSub x mi))
  ⟨mi, stepSum (p.map ofFP32),
    (List.range r.dh).map (fun e => stepSum (p.zipIdx.map (fun x => (ofFP32 x.1).mul (r.kv i q n (t0 + x.2) e))))⟩

/-- The merge of an item into what went before. -/
def HeadAcc.merge (x y : HeadAcc) : HeadAcc :=
  let mn := attMax x.m y.m
  let a := attExp (attSub x.m mn)
  let b := attExp (attSub y.m mn)
  ⟨mn, attFused x.l a y.l b, List.zipWith (fun o oi => attFused o a oi b) x.o y.o⟩

def AttRun.outSpec (r : AttRun) : FSpec := if r.ofmt = 0 then fspecBF16 else if r.ofmt = 1 then fspecFP16 else fspecFP32

/-- The output codes of query token `j` and query head `h`, and whether the head takes NAN (R233). -/
def AttRun.head (r : AttRun) (i : Nat) (q : AttSeq) (qv : List FV) (j h : Nat) : List Nat × Bool :=
  let hk := h / (r.hq / r.hkv)
  let vis := if r.causal then q.len - r.qtok + j + 1 else q.len
  let items := (List.range ((vis + r.itemTok - 1) / r.itemTok)).map (fun x =>
    let t0 := x * r.itemTok
    (t0, (List.range (min r.itemTok (vis - t0))).map (fun t => r.score i q (2 * hk) qv (t0 + t))))
  let scales := if r.kvfmt = 2 then (List.range ((vis - 1) / r.pgTok + 1)).flatMap (fun g =>
      [r.got i (r.scaleAt q (2 * hk) g) 4, r.got i (r.scaleAt q (2 * hk + 1) g) 4]) else []
  let sound := (r.scale :: scales).all (fun x => (ofFP32 x).finite) && items.all (fun p => p.2.all (fun x => (ofFP32 x).finite))
  if !sound then (List.replicate r.dh r.outSpec.canon, true)
  else
    match items.map (fun p => r.headItem i q (2 * hk + 1) p.1 p.2) with
    | [] => (List.replicate r.dh 0, false)
    | x :: xs =>
      let z := xs.foldl HeadAcc.merge x
      (z.o.map (fun o =>
        let d := toFP32 (attZero 3 [o, z.l]) ((ofFP32 o).quot (ofFP32 z.l))
        (r.outSpec.round (attZero 4 [o, z.l]) (ofFP32 d)).code), false)

/-- Every output byte of a sequence, and whether some head took NAN. -/
def AttRun.outputs (r : AttRun) (i : Nat) (q : AttSeq) (qs : List Byte) : List Byte × Bool :=
  let rowLen := r.dh * r.qw
  let f := if r.qfmt = 0 then fspecE4M3 else fspecBF16
  ((List.range r.qtok).flatMap (fun j => (List.range r.hq).map (fun h => (j, h)))).foldl (fun (acc : List Byte × Bool) (p : Nat × Nat) =>
    let row := (qs.drop ((p.1 * r.hq + p.2) * rowLen)).take rowLen
    let qv := (List.range r.dh).map (fun e => f.decode (leNat ((row.drop (e * r.qw)).take r.qw)))
    let (o, nan) := r.head i q qv p.1 p.2
    (acc.1 ++ o.flatMap (fun x => leBytes r.ow x), acc.2 || nan)) ([], false)

/-- The sequence's last item is complete (R224, R235). -/
def AttRun.seqDone (r : AttRun) (i : Nat) (q : AttSeq) : Bool :=
  !q.reads || ((List.range q.items).all (fun k => r.itemDone i q k) && (!r.bucket || decide (q.item0 + q.items + 1 ≤ r.started)))

/-- A sequence's outputs and then its status word are written (R232). -/
def State.attMerge (s : State) (c i : Nat) : State :=
  match (s.attn c).run with
  | none => s
  | some r =>
    match r.seqs[i]? with
    | none => s
    | some q =>
      if q.merged ∨ !r.seqDone i q then s
      else
        let n := r.qtok * r.hq * r.dh
        let (qr, s) : AttRead × State := if q.reads then s.attRead c (r.qbase + i * n * r.qw) (n * r.qw) else (⟨[], false, false⟩, s)
        let early := if q.code ≠ 0 then q.code else if q.xlat || qr.xlat then 3 else if q.poison || qr.poison then 4 else 0
        let (out, nan) := if early = 0 then r.outputs i q qr.bytes else (List.replicate (n * r.ow) 0, false)
        let code := if early = 0 ∧ nan then 5 else early
        let s := if 6 ≤ code then s else s.attWrite c (r.obase + i * n * r.ow) out
        let s := s.attWrite c (r.sbase + 4 * i) (leBytes 4 (code + q.items * 65536))
        let s := if 2 ≤ code ∧ code ≤ 5 then s.setFlag .ATT_ERR [c] 3 true else s
        s.updRun c (fun r => { r with seqs := r.seqs.zipIdx.map (fun p => if p.2 = i then { p.1 with merged := true } else p.1) })

/-! ### Epoch end, fences, stop (R225, R239, R241) -/

/-- The pending fences are acknowledged to EPACK. -/
def State.attAck (s : State) (c : Nat) : State :=
  let n := (s.attn c).fences
  if n = 0 then s else (s.setAtt c { s.attn c with fences := 0 }).counterNow (s.fld .ATT_CNT [c] 29 16) (.add n)

/-- The buffer is invalidated, ATT_LAST, ATT_XLAT and ATT_EPOCH change, DONE unless the pass was stopped, and the fences are acknowledged. -/
def State.attClose (s : State) (c : Nat) (r : AttRun) (done : Bool) : State :=
  let s := s.setAtt c { s.attn c with run := none }
  let s := s.setReg .ATT_LAST [c] (min r.ovr 65535 * 65536 + r.items)
  let s := s.setReg .ATT_XLAT [c] (min r.preload 65535 * 65536 + min r.misses 65535)
  let s := if done then s.counterNow (s.fld .ATT_CNT [c] 13 0) (.add 1) else s
  (s.attAck c).setReg .ATT_EPOCH [c] (s.reg .ATT_EPOCH [c] + 1)

/-- Every output and status write is acknowledged (R225). -/
def State.attEpochEnd (s : State) (c : Nat) : State :=
  match (s.attn c).run with
  | none => s
  | some r => if r.seqs.all (·.merged) then s.attClose c r true else s

/-- ATT_TFENCE.FENCE (R239). -/
def State.attFence (s : State) (c : Nat) : State := s.setAtt c { s.attn c with fences := (s.attn c).fences + 1 }

/-- No pass is running: a pending fence is acknowledged (R239). -/
def State.attFenceIdle (s : State) (c : Nat) : State := if (s.attn c).run = none then s.attAck c else s

/-- The running pass stops: its epoch ends without DONE and ABORT is set (R241). -/
def State.attAbort (s : State) (c : Nat) : State :=
  match (s.attn c).run with
  | none => s
  | some r => (s.attClose c r false).setFlag .ATT_ERR [c] 4 true

/-- ATT_CTRL.EN = 0 (R241). -/
def State.attStop (s : State) (c : Nat) : State := (s.setAtt c { s.attn c with queue := [] }).attAbort c

/-- The JID that a queued pass's descriptor names as it stands. -/
def State.attJid (s : State) (c va : Nat) : Option Nat :=
  match s.attWalk c va false with
  | .ok t => if t.r then some (bits (s.mem.rdLE (t.map va) 4) 23 16) else none
  | .error _ => none

/-- A kill of JID `j` at one engine (R241). -/
def State.attKill (j : Nat) (s : State) (c : Nat) : State :=
  let s := s.setAtt c { s.attn c with queue := (s.attn c).queue.filter (fun va => s.attJid c va != some j) }
  match (s.attn c).run with
  | some r => if r.jid = j ∧ r.desc ≠ [] then s.attAbort c else s
  | none => s

/-- ATT_STATUS. -/
def State.attStatus (s : State) (c : Nat) : Nat :=
  let a := s.attn c
  a.queue.length * 256 + b2n (decide (0 < a.fences)) * 4 + b2n a.run.isSome

/-! ### The commands -/

/-- ATT_PASS_START (R223, R224). -/
def execAttPassStart (c : Fin 4) (s : State) : Host.Outcome State Fault Refusal := liveIn c.val s (fun s => s.attPassStart c.val)

/-- ATT_TRANSLATION_MISS (R237, R238). -/
def execAttTranslationMiss (c : Fin 4) (page : BitVec 32) (ecc : Ecc) (s : State) : Host.Outcome State Fault Refusal :=
  liveIn c.val s (fun s => s.attMiss c.val page.toNat ecc)

/-- ATT_READ_RETURN (R220, R226 to R228). -/
def execAttReadReturn (c : Fin 4) (line : BitVec 41) (ecc : Ecc) (s : State) : Host.Outcome State Fault Refusal :=
  liveIn c.val s (fun s => s.attReturn c.val line.toNat ecc)

/-- ATT_BUCKET_ITEM (R235). -/
def execAttBucketItem (c : Fin 4) (overran : Bool) (s : State) : Host.Outcome State Fault Refusal := liveIn c.val s (fun s => s.attBucketItem c.val overran)

/-- ATT_SEQUENCE_MERGE (R232, R233). -/
def execAttSequenceMerge (c : Fin 4) (q : Nat) (s : State) : Host.Outcome State Fault Refusal := liveIn c.val s (fun s => s.attMerge c.val q)

/-- ATT_EPOCH_END (R225). -/
def execAttEpochEnd (c : Fin 4) (s : State) : Host.Outcome State Fault Refusal := liveIn c.val s (fun s => s.attEpochEnd c.val)

/-- ATT_FENCE_ACK_IDLE (R239). -/
def execAttFenceAckIdle (c : Fin 4) (s : State) : Host.Outcome State Fault Refusal := liveIn c.val s (fun s => s.attFenceIdle c.val)

end Sys2Proof.Machine
end

