-- ==== Sys2Proof/Machine/StreamEvents.lean ====
section
/-! DEFINITION. The events of the stream engine, SEND, the regulator, the scale loader and the statistics unit (R130, R152, R162, R168, R194 to R199), and the walks of the MMU for tiles (R299). -/

namespace Sys2Proof.Machine
open Sys2Proof

/-! ### Fetches and writes -/

/-- The in-flight fetch number `n` among those that satisfy `p`, and the others. -/
def takeNth {α : Type} (p : α → Bool) : Nat → List α → Option (α × List α)
  | _, [] => none
  | n, x :: xs =>
    if p x then
      match n with
      | 0 => some (x, xs)
      | n + 1 => (takeNth p n xs).map (fun q => (q.1, x :: q.2))
    else (takeNth p n xs).map (fun q => (q.1, x :: q.2))

def Fetch.isScale (f : Fetch) : Bool := match f.kind with | .scale _ => true | _ => false

def Tile.reqOf (x : Tile) (id : Nat) : Option Req := x.reqs.find? (fun r => r.id == id)

/-- XLAT at the bundle that issued a request (R196). -/
def State.raiseXlat (s : State) (t : Nat) (r : Req) : State := s.contextFault t r.ctx fXLAT r.pc

/-- The bytes of a fetch's pieces as read from memory: the code's outcome is reported with the first piece. -/
def State.readPieces (s : State) (src : Nat) : Ecc → List Seg → List (Seg × List Byte × Bool) × State
  | _, [] => ([], s)
  | ecc, g :: gs =>
    let (r, s) := s.memRead g.pa g.len src ecc
    let (rs, s) := s.readPieces src .clean gs
    ((g, r.bytes, r.poison) :: rs, s)

/-- Index entries from their bytes (R192, R193). -/
def parseEntries (isz first : Nat) : Nat → List Byte → List (Nat × Nat)
  | 0, _ => []
  | n + 1, bs => (first, leNat (bs.take isz)) :: parseEntries isz (first + 1) n (bs.drop isz)

/-- An index or block-list fetch returns (R192, R193, R196). -/
def State.indexLands (s : State) (t : Nat) (r : Req) (f : Fetch) (first count : Nat) (ecc : Ecc) : State :=
  let allBad (s : State) : State :=
    s.updTile t (fun x => x.updReq r.id (fun r => { r with bad := r.bad ++ (List.range count).map (· + first) }))
  if f.fail then (allBad s).raiseXlat t r
  else
    let (ps, s) := s.readPieces t ecc f.segs
    if ecc = .uncorrectable ∨ ps.any (fun p => p.2.2) then allBad s
    else
      let es := parseEntries r.d.isz first count ((ps.map (·.2.1)).flatten)
      s.updTile t (fun x => x.updReq r.id (fun r => { r with idx := es.foldl (fun i e => i.put e.1 e.2) r.idx }))

/-- A data fetch returns: its pieces land, a failed one as poisoned zeros with XLAT (R195, R196, R209). -/
def State.dataLands (s : State) (t : Nat) (r : Req) (f : Fetch) (ecc : Ecc) : State :=
  if f.fail then
    (f.segs.foldl (fun s g => s.landPiece t r.id g.sp (List.replicate g.len 0) true) s).raiseXlat t r
  else if r.d.local ∨ f.bytes ≠ [] then
    (f.segs.foldl (fun (p : State × List Byte) g =>
      (p.1.landPiece t r.id g.sp (p.2.take g.len) f.poison, p.2.drop g.len)) (s, f.bytes)).1
  else if f.poison then f.segs.foldl (fun s g => s.landPiece t r.id g.sp (List.replicate g.len 0) true) s
  else
    let (ps, s) := s.readPieces t ecc f.segs
    ps.foldl (fun s p => s.landPiece t r.id p.1.sp p.2.1 (p.2.2 || ecc == .uncorrectable)) s

/-- The `n`-th read fetch in flight of a tile returns; no data lands before the 16th clock after its request's issue (R195). -/
def State.rowLanding (s : State) (t n : Nat) (ecc : Ecc) : State :=
  let x := s.tile t
  match takeNth (fun (f : Fetch) => !f.write && !f.isScale) n x.fetches with
  | none => s
  | some (f, rest) =>
    match x.reqOf f.req with
    | none => s.updTile t (fun x => { x with fetches := rest })
    | some r =>
      let s' := s.updTile t (fun x => { x with fetches := rest })
      match f.kind with
      | .index first count => (s'.indexLands t r f first count ecc).updTile t Tile.dropDone
      | _ => if x.clk < r.iss + 16 then s else (s'.dataLands t r f ecc).updTile t Tile.dropDone

/-- The pieces of a write reach memory; a poisoned source row carries its poison (R196, R306). A write into a blocked region is refused (R303). -/
def State.writePieces (s : State) (t : Nat) (poison : Bool) : List Seg → List Byte → Bool × State
  | [], _ => (true, s)
  | g :: gs, bs =>
    let here := bs.take g.len
    let (ok, s) :=
      if s.region g.pa = .spad t then
        let a := g.pa - spadBase t
        let s := s.spWrRows t a here
        (true, if poison then s.updTile t (fun x => (rowsOf a g.len).foldl Tile.markPoison x) else s)
      else s.memWrite (iniTile t) g.pa here poison
    let (rest, s) := s.writePieces t poison gs (bs.drop g.len)
    (ok && rest, s)

/-- The `n`-th write in flight of a tile is acknowledged, or fails with XLAT (R196). -/
def State.streamWriteAck (s : State) (t n : Nat) : State :=
  let x := s.tile t
  match takeNth (fun (f : Fetch) => f.write) n x.fetches with
  | none => s
  | some (f, rest) =>
    let s := s.updTile t (fun x => { x with fetches := rest })
    let (ok, s) := if f.fail then (false, s) else s.writePieces t f.poison f.segs f.bytes
    let s := match x.reqOf f.req with
      | some r => if ok then s else s.raiseXlat t r
      | none => s
    s.updTile t Tile.dropDone

/-- The first discarded row that is due lands as poisoned zeros (R197). -/
def State.discardedRowLanding (s : State) (t : Nat) : State :=
  let x := s.tile t
  match takeFirst (fun (d : DiscRow) => decide (d.clk ≤ x.clk)) x.disc with
  | none => s
  | some (d, rest) =>
    let cut := match x.reqOf d.req with | some r => r.cut | none => []
    let s := s.updTile t (fun x => { x with disc := rest })
    (s.landDiscarded t d.row cut).updTile t Tile.dropDone

/-! ### SEND (R130, R168) -/

/-- The next row of a tile's oldest SEND is read and arrives at its target, or is dropped there; a sparing holds arrivals back (R403). -/
def State.sendRowArrival (s : State) (t : Nat) : State :=
  let x := s.tile t
  match x.sends with
  | [] => s
  | j :: rest =>
    if x.clk ≤ j.iss ∨ s.spareHolds j.tgt then s
    else
      let bytes := s.spRd t j.src 256
      let po := x.poison.contains (j.src / 256)
      let left := if j.left ≤ 1 then rest else { j with src := j.src + 256, dst := j.dst + 256, left := j.left - 1 } :: rest
      let s := s.updTile t (fun x => { x with sends := left })
      let y := s.tile j.tgt
      if y.ready ∧ s.jobOf j.tgt = some j.jid ∧ !y.killed then
        let s := s.spWr j.tgt j.dst bytes
        let row := j.dst / 256
        let s := s.updTile j.tgt (fun y => ((if po then y.markPoison row else y.clearPoisonRow row)).setLanded row)
        s.counterNow j.cnt (.add 1)
      else s.satInc .CLU_SENDDROP [clusterOf j.tgt] 31 0 1

/-! ### The regulator (R198, R199) -/

/-- One bucket refills: RATE, BURST and LEVEL in units of `u` bytes. -/
def refilled (cfg level u : Nat) : Nat := min (level + (bits cfg 7 0 + 1) * u) ((bits cfg 15 8 + 1) * u)

/-- Every bucket of a cluster refills in one clock; a BURST below its RATE is counted (R55, R198). -/
def State.regulatorRefill (s : State) (c : Nat) : State :=
  let one (s : State) (cfgR lvlR : Reg) (i u : Nat) : State :=
    let cfg := s.reg cfgR [i]
    let s := s.setReg lvlR [i] (refilled cfg (s.reg lvlR [i]) u)
    if bits cfg 15 8 < bits cfg 7 0 then s.satInc .FAB_REGMIS [] 31 0 1 else s
  one (foldState (fun s l => one s .FAB_TREGg .FAB_TLVLg (32 * c + l) 512) s (upTo 32)) .FAB_CREGc .FAB_CLVLc c 16384

/-! ### The scale loader (R152) -/

/-- A GO write to TILE_SFLD_CTL; its fields stand in the register already (R152). -/
def State.startScaleLoad (s : State) (t : Nat) : State :=
  let is := tix t
  if s.flag .TILE_SFLD_CTL is 30 then s
  else
    let first := s.fld .TILE_SFLD_CTL is 9 0
    let count := s.fld .TILE_SFLD_CTL is 20 10
    if count = 0 ∨ 1024 < first + count then s.setFlag .TILE_SFLD_CTL is 29 true
    else
      let va := s.reg64 .TILE_SFLD_LO .TILE_SFLD_HI is
      (s.setFlag .TILE_SFLD_CTL is 30 true).updTile t (fun x => { x with load := some ⟨s.fld .TILE_SFLD_CTL is 26 21, va, first, count, 0, 0, []⟩ })

/-- Entries of returned bytes in ascending order. -/
def State.putScales (s : State) (t first : Nat) : List (Nat × Nat) → State
  | [] => s
  | e :: es => (s.putScale t (first + e.1) e.2).putScales t first es

/-- The oldest returned fetches are written, as far as no earlier one is missing; the load ends with its last entry. -/
def State.drainScales (s : State) (t : Nat) : Nat → State
  | 0 => s
  | n + 1 =>
    match (s.tile t).load, takeFirst (fun (f : Fetch) => f.isScale) (s.tile t).fetches with
    | some l, some (f, rest) =>
      match f.kind with
      | .scale from_ =>
        if f.bytes = [] then s
        else
          let cnt := f.bytes.length / 8
          let s := s.putScales t l.first (parseEntries 8 from_ cnt f.bytes)
          let s := s.updTile t (fun x => { x with fetches := rest, load := some { l with done := l.done + cnt } })
          if l.count ≤ l.done + cnt then s.endLoad t false else s.drainScales t n
      | _ => s
    | _, _ => s

/-- The `n`-th loader fetch in flight returns (R152). -/
def State.scaleLoadData (s : State) (t n : Nat) (ecc : Ecc) : State :=
  let x := s.tile t
  match takeNth (fun (f : Fetch) => f.isScale && f.bytes == []) n x.fetches with
  | none => s
  | some (f, _) =>
    if f.fail then s.endLoad t true
    else
      let (ps, s) := s.readPieces t ecc f.segs
      if ecc = .uncorrectable ∨ ps.any (fun p => p.2.2) then s.endLoad t true
      else
        let bs := (ps.map (·.2.1)).flatten
        let s := s.updTile t (fun x => { x with fetches := updFirst (fun (q : Fetch) => q.isScale && q.kind == f.kind) (fun q => { q with bytes := bs }) x.fetches })
        s.drainScales t 256

/-! ### Statistics (R162) -/

/-- SNAP: the channels as of the end of the previous cycle. -/
def State.statSnap (s : State) (t : Nat) : State :=
  let s := s.zeroRegs (tileWin t + 0x4000) (tileWin t + 0x6000)
  (s.tile t).stat.entries.foldl (fun s e =>
    (s.setReg .TILE_STATj_SUM (tix t ++ [e.1]) e.2.sum).setReg .TILE_STATj_CNT (tix t ++ [e.1]) e.2.cnt) s

/-- CLR: live sums and counts become 0; the samples of this cycle come after. -/
def State.statClr (s : State) (t : Nat) : State :=
  s.updTile t (fun x => { x with stat := ⟨x.stat.entries.map (fun e => (e.1, { e.2 with sum := 0, cnt := 0 }))⟩ })

/-! ### Walks for tiles (R298, R299) -/

/-- A code event in a table read is reported for the level-0 table's address. -/
def State.walkReport (s : State) (mctx src : Nat) (ecc : Ecc) : State := s.eccReport (s.fld .MMU_ROOTc [mctx] 26 0 * 131072) src ecc

/-- The oldest walk of a tile ends. -/
def State.tileWalk (s : State) (t : Nat) (ecc : Ecc) : State :=
  match (s.tile t).walks with
  | [] => s
  | w :: rest =>
    let s := (s.updTile t (fun x => { x with walks := rest })).walkReport w.mctx t ecc
    match s.walk w.mctx w.va (ecc == .uncorrectable) with
    | .ok e => s.updTile t (fun x => { x with tlb := fillTlb x.tlb e })
    | .bad kind =>
      match w.who with
      | .stream k =>
        let s := s.logFault 0 kind w.mctx w.va
        match (s.tile t).headReq k with
        | some r => s.updTile t (fun x => x.updReq r.id (fun r => { r with failed := w.va :: r.failed }))
        | none => s
      | .ifetch k =>
        let s := s.logFault 1 kind w.mctx w.va
        s.updCtx t k (fun c => match c.miss with
          | some line => { c with miss := none, ffail := some (line, fIFETCH) }
          | none => c)
      | .scale =>
        let s := s.logFault 2 kind w.mctx w.va
        s.updTile t (fun x => { x with load := x.load.map (fun l => { l with failed := w.va :: l.failed }) })

/-! ### The commands -/

/-- STREAM_FETCH_SEND (R194). -/
def execStreamFetchSend (t : TileId) (s : State) : Host.Outcome State Fault Refusal :=
  liveIn (clusterOf t.val) s (fun s => if (s.tile t.val).ready then s.streamSend t.val else s)

/-- ROW_LANDING (R195, R196). -/
def execRowLanding (t : TileId) (n : Nat) (ecc : Ecc) (s : State) : Host.Outcome State Fault Refusal := liveIn (clusterOf t.val) s (fun s => s.rowLanding t.val n ecc)

/-- STREAM_WRITE_ACK (R196). -/
def execStreamWriteAck (t : TileId) (n : Nat) (s : State) : Host.Outcome State Fault Refusal := liveIn (clusterOf t.val) s (fun s => s.streamWriteAck t.val n)

/-- DISCARDED_ROW_LANDING (R197). -/
def execDiscardedRowLanding (t : TileId) (s : State) : Host.Outcome State Fault Refusal := liveIn (clusterOf t.val) s (fun s => s.discardedRowLanding t.val)

/-- SEND_ROW_ARRIVAL (R130, R168). -/
def execSendRowArrival (t : TileId) (s : State) : Host.Outcome State Fault Refusal := liveIn (clusterOf t.val) s (fun s => s.sendRowArrival t.val)

/-- REGULATOR_REFILL (R198). -/
def execRegulatorRefill (c : Fin 4) (s : State) : Host.Outcome State Fault Refusal := live s (fun s => s.regulatorRefill c.val)

/-- SCALE_LOAD_DATA (R152). -/
def execScaleLoadData (t : TileId) (n : Nat) (ecc : Ecc) (s : State) : Host.Outcome State Fault Refusal := liveIn (clusterOf t.val) s (fun s => s.scaleLoadData t.val n ecc)

end Sys2Proof.Machine
end

