-- ==== Sys2Proof/Machine/Codec.lean ====
section
/-! DEFINITION. The codec cores: jobs, stream contexts, completion, stop and kill (R277 to R285). -/

namespace Sys2Proof.Machine
open Sys2Proof

def State.codec (s : State) (k : Nat) : CodCore := s.cod.cores.get CodCore.zero k
def State.setCodec (s : State) (k : Nat) (c : CodCore) : State := { s with cod := { s.cod with cores := s.cod.cores.put k c } }
def State.updJob (s : State) (k : Nat) (f : CodJob → CodJob) : State := s.setCodec k { s.codec k with run := (s.codec k).run.map f }

/-- The codecs as initiators (R397). -/
def iniCodec : Initiator := ⟨.isl, 0xB8⟩

def State.codMctx (s : State) (k : Nat) : Nat := s.fld .COD_COREk_CTRL [k] 13 8

/-! ### Descriptors (R277, R280, R284) -/

/-- `n` bytes of a descriptor at an offset. -/
def leAt (bs : List Byte) (off n : Nat) : Nat := leNat ((bs.drop off).take n)

def CodJob.ctl (j : CodJob) : Nat := leAt j.desc 0 4
def CodJob.op (j : CodJob) : Nat := bits j.ctl 1 0
def CodJob.isDec (j : CodJob) : Bool := decide (2 ≤ j.op)
def CodJob.w (j : CodJob) : Nat := leAt j.desc 4 2
def CodJob.h (j : CodJob) : Nat := leAt j.desc 6 2
def CodJob.pic (j : CodJob) : Nat := leAt j.desc 8 8
def CodJob.pitch (j : CodJob) : Nat := leAt j.desc 0x10 4 * 256
def CodJob.cnt (j : CodJob) : Nat := leAt j.desc 0x14 2
def CodJob.keyint (j : CodJob) : Nat := leAt j.desc 0x16 2
def CodJob.bs (j : CodJob) : Nat := leAt j.desc 0x18 8
def CodJob.bssize (j : CodJob) : Nat := leAt j.desc 0x20 4
def CodJob.state (j : CodJob) : Nat := leAt j.desc 0x30 8
def CodJob.stat (j : CodJob) : Nat := leAt j.desc 0x38 8

/-- A field outside R280, or a misaligned address. -/
def CodJob.badDesc (j : CodJob) : Bool :=
  bits j.ctl 5 4 == 3 || bits j.ctl 7 6 != 0 || bits j.ctl 31 24 != 0 || (j.op == 0 && decide (51 < bits j.ctl 15 8)) ||
  j.pic % 4096 != 0 || decide (leAt j.desc 0x10 4 < (j.w * 2 + 255) / 256) || decide (16383 < j.cnt) || j.bs % 256 != 0 ||
  (bits j.ctl 5 4 == 2 && decide (leAt j.desc 0x28 4 < leAt j.desc 0x24 4)) || leAt j.desc 0x2C 4 != 0 || j.state % 4096 != 0 || j.stat % 16 != 0

/-- A feature outside R277, or an OP the core does not perform. -/
def CodJob.unsup (j : CodJob) (k : Nat) : Bool :=
  let side (v : Nat) : Bool := decide (64 ≤ v) && decide (v ≤ 8192) && v % 8 == 0
  j.isDec != decide (k = 2) || !side j.w || !side j.h || decide (35651584 < j.w * j.h)

/-! ### Translated accesses (R280, R299) -/

/-- The physical address of `va` with the permission, through the core's buffer or a walk; a failure is logged. -/
def State.codXlat (s : State) (k va : Nat) (write : Bool) : Option Nat × State :=
  let m := s.codMctx k
  let judge (t : Tlb) (s : State) : Option Nat × State :=
    if (if write then t.w else t.r) then (some (t.map va), s) else (none, s.logFault 4 kPERM m va)
  if 2 ^ 48 ≤ va then (none, s.logFault 4 kRANGE m va)
  else
    match lookupTlb (s.codec k).tlb m va with
    | some t => judge t s
    | none =>
      match s.walk m va false with
      | .ok t => judge t (s.setCodec k { s.codec k with tlb := fillTlb (s.codec k).tlb t })
      | .bad kind => (none, s.logFault 4 kind m va)

/-- A read of `n` bytes; poisoned bytes come as zeros. -/
def State.codRead (s : State) (k va n : Nat) : AttRead × State :=
  (pagePieces (n / 65536 + 2) va n).foldl (fun (p : AttRead × State) (q : Nat × Nat) =>
    match p.2.codXlat k q.1 false with
    | (none, s) => (⟨p.1.bytes ++ List.replicate q.2 0, true, p.1.poison⟩, s)
    | (some pa, s) =>
      let (m, s) := s.memRead pa q.2 0xB8 .clean
      (⟨p.1.bytes ++ m.bytes.zipIdx.map (fun b => if s.poisoned (pa + b.2) 1 then 0 else b.1), p.1.xlat, p.1.poison || m.poison⟩, s)) (⟨[], false, false⟩, s)

/-- A write; whether every page translated, and the state. -/
def State.codWrite (s : State) (k va : Nat) (bs : List Byte) : Bool × State :=
  let r := (pagePieces (bs.length / 65536 + 2) va bs.length).foldl (fun (p : Bool × State × List Byte) (q : Nat × Nat) =>
    match p.2.1.codXlat k q.1 true with
    | (none, s) => (false, s, p.2.2.drop q.2)
    | (some pa, s) => (p.1, (s.memWrite iniCodec pa (p.2.2.take q.2)).2, p.2.2.drop q.2)) (true, s, bs)
  (r.1, r.2.1)

/-! ### Stream contexts (R281) -/

def Strm.head (t : Strm) : List Byte := (List.range 4096).map (Config.strmByte t.seq t.since t.key t.uid)

def State.strmFind (s : State) (k : Nat) (j : CodJob) : Option Strm :=
  (s.cod.streams.find? (fun e => e.1 == (s.codMctx k, j.state))).map (·.2)

/-- The stream context a job finds in its first 4,096 bytes: a new stream, one that the cores have written, or one whose contents are undefined. -/
inductive StrmRead where
  | fresh | known (t : Strm) | other
  deriving DecidableEq, Repr

def State.strmRead (s : State) (k : Nat) (j : CodJob) (head : List Byte) : StrmRead :=
  if head.all (fun b => b == 0) then .fresh
  else
    match s.strmFind k j with
    | some t => if head = t.head then .known t else .other
    | none => .other

/-- The stream context is written: head and reference pictures. -/
def State.strmWrite (s : State) (k : Nat) (j : CodJob) (t : Strm) : Bool × State :=
  let s := { s with cod := { s.cod with streams := ((s.codMctx k, j.state), t) :: s.cod.streams.filter (fun e => e.1 != (s.codMctx k, j.state)) } }
  s.codWrite k j.state (t.head ++ (List.range (3 * j.w * j.h * 2)).map (fun i => Config.strmByte t.seq t.since t.key t.uid (4096 + i)))

/-- The next frame of a stream is a key frame (R284, R285). A new stream's is one already. -/
def State.strmKey (s : State) (k : Nat) (j : CodJob) : State :=
  let (r, s) := s.codRead k j.state 4096
  if r.xlat then s
  else
    match s.strmRead k j r.bytes with
    | .fresh => s
    | .known t =>
      let t := { t with key := true }
      let s := { s with cod := { s.cod with streams := s.cod.streams.map (fun (e : (Nat × Nat) × Strm) => if e.1 = (s.codMctx k, j.state) then (e.1, t) else e) } }
      (s.codWrite k j.state t.head).2
    | .other =>
      let (v, s) := s.free 32
      let t : Strm := ⟨v, 0, true, s.cod.ord⟩
      let s := { s with cod := { s.cod with streams := ((s.codMctx k, j.state), t) :: s.cod.streams.filter (fun e => e.1 != (s.codMctx k, j.state)) } }
      (s.codWrite k j.state t.head).2

/-! ### Jobs (R280, R281) -/

/-- COD_COREk_GO. -/
def State.codGo (s : State) (k : Nat) : State :=
  let c := s.codec k
  if 8 ≤ c.queue.length then s.setFlag .COD_COREk_ERR [k] 0 true
  else s.setCodec k { c with queue := c.queue ++ [s.reg64 .COD_COREk_JOB_LO .COD_COREk_JOB_HI [k]] }

/-- A job on another core holds the same stream context and left its queue earlier. -/
def State.codConflict (s : State) (k : Nat) (j : CodJob) : Bool :=
  s.cod.cores.entries.any (fun e => e.1 != k && (match e.2.run with
    | some o => o.state == j.state && decide (o.ord < j.ord)
    | none => false))

/-- The pages of a range. -/
def pagesOf (a n : Nat) : List Nat := if n = 0 then [] else (List.range ((a + n - 1) / 65536 - a / 65536 + 1)).map (· + a / 65536)

/-- The pages a job touches: picture planes, bitstream, stream context, status record. -/
def CodJob.pages (j : CodJob) : List Nat :=
  (pagesOf j.pic (j.h * j.pitch + j.h / 2 * j.pitch) ++ pagesOf j.bs j.bssize ++ pagesOf j.state (4096 + 6 * j.w * j.h) ++ pagesOf j.stat 16).eraseDups

/-- CODEC_JOB_START: a job leaves the queue, or a waiting one starts (R280, R281). -/
def State.codStart (s : State) (k : Nat) : State :=
  let c := s.codec k
  match c.run, c.queue with
  | some j, _ => if j.waiting ∧ !s.codConflict k j then s.updJob k (fun j => { j with waiting := false }) else s
  | none, va :: rest =>
    if !s.flag .COD_COREk_CTRL [k] 0 then s
    else
      let s := s.setCodec k { c with queue := rest }
      let (r, s) := s.codRead k va 64
      if r.xlat then s.setFlag .COD_COREk_ERR [k] 1 true
      else
        let j : CodJob := ⟨r.bytes, 0, s.cod.ord, false, [], false⟩
        let code := if j.badDesc then 1 else if j.unsup k then 2 else 0
        let m := s.codMctx k
        let walks := if code = 0 then j.pages.filter (fun p => (lookupTlb (s.codec k).tlb m (p * 65536)).isNone) else []
        let j := { j with code := code, waiting := s.codConflict k j, walks := walks }
        ({ s with cod := { s.cod with ord := s.cod.ord + 1 } }).setCodec k { s.codec k with run := some j }
  | none, [] => s

/-- The oldest walk of a core ends (R298, R299). -/
def State.codWalk (s : State) (k : Nat) (ecc : Ecc) : State :=
  match (s.codec k).run with
  | none => s
  | some j =>
    match j.walks with
    | [] => s
    | p :: rest =>
      let m := s.codMctx k
      let s := (s.updJob k (fun j => { j with walks := rest })).walkReport m 0xB8 ecc
      match s.walk m (p * 65536) (ecc == .uncorrectable) with
      | .ok t => s.setCodec k { s.codec k with tlb := fillTlb (s.codec k).tlb t }
      | .bad kind => (s.logFault 4 kind m (p * 65536)).updJob k (fun j => { j with xlat := true })

/-! ### Completion (R279, R282 to R284) -/

/-- Steps 2 and 4 of R283, JOBERR, and the end of the job. A CNT that names no counter counts nowhere (log 49). -/
def State.codEnd (s : State) (k : Nat) (j : CodJob) (code ty : Nat) (qp : Byte) (bytes seq : Nat) (ctx : State → State) : State :=
  let (ok, s) := s.codWrite k j.stat (leBytes 1 code ++ leBytes 1 ty ++ [qp, 0] ++ leBytes 4 bytes ++ leBytes 4 seq ++ leBytes 4 0)
  let s := ctx s
  let s := if 16383 < j.cnt then s else s.counterNow j.cnt (.add 1)
  let s := if code ≠ 0 ∨ !ok then s.setFlag .COD_COREk_ERR [k] 1 true else s
  s.setCodec k { s.codec k with run := none }

/-- The samples of a plane: `rows` rows of `n` 16-bit samples. -/
def State.readPlane (s : State) (k base pitch rows n : Nat) : List Nat × Bool × Bool × State :=
  (List.range rows).foldl (fun (p : List Nat × Bool × Bool × State) r =>
    let (m, s) := p.2.2.2.codRead k (base + r * pitch) (2 * n)
    (p.1 ++ (List.range n).map (fun i => leNat ((m.bytes.drop (2 * i)).take 2)), p.2.1 || m.xlat, p.2.2.1 || m.poison, s)) ([], false, false, s)

/-- A source sample: bits 15:6, rounded to 8 bits with BITS10 = 0 (R279). -/
def CodJob.sample (j : CodJob) (v : Nat) : Nat := if bit j.ctl 2 then v / 64 else min 255 (divRna (v / 64) 4)

/-- The stream's frame number, frames since its last key frame, key mark, last writer: free where the context's contents are undefined. -/
def State.strmOf (s : State) (k : Nat) (j : CodJob) (head : List Byte) : Strm × State :=
  match s.strmRead k j head with
  | .fresh => (⟨0, 0, true, 0⟩, s)
  | .known t => (t, s)
  | .other =>
    let (a, s) := s.free 32
    let (b, s) := s.free 32
    let (c, s) := s.free 1
    let (d, s) := s.free 32
    (⟨a, b, c == 1, d⟩, s)

/-- An encode job completes. -/
def State.codEncode (s : State) (k : Nat) (j : CodJob) : State :=
  let (y, xy, py, s) := s.readPlane k j.pic j.pitch j.h j.w
  let (c, xc, pc, s) := s.readPlane k (j.pic + j.h * j.pitch) j.pitch (j.h / 2) j.w
  let (hd, s) := s.codRead k j.state 4096
  let (t, s) := s.strmOf k j hd.bytes
  let key := t.key || bit j.ctl 3 || (j.keyint != 0 && decide (j.keyint ≤ t.since))
  let src := (y ++ c).map j.sample
  let out := Config.encBytes j.desc src key t.uid
  let qp := if bits j.ctl 5 4 = 0 then BitVec.ofNat 8 (bits j.ctl 15 8) else Config.encQp j.desc src key t.uid
  if xy || xc || hd.xlat || j.xlat then
    s.codEnd k j 3 (b2n !key) qp 0 t.seq (fun s => s.strmKey k j)
  else
    let (ok, s) := s.codWrite k j.bs (out.take j.bssize)
    if !ok then s.codEnd k j 3 (b2n !key) qp 0 t.seq (fun s => s.strmKey k j)
    else
      let beyond := decide (j.bssize < out.length)
      let code := if py || pc || hd.poison then 4 else if beyond then 5 else 0
      s.codEnd k j code (b2n !key) qp out.length t.seq
        (fun s => (s.strmWrite k j ⟨(t.seq + 1) % 2 ^ 32, if key then 1 else t.since + 1, beyond, j.ord + 1⟩).2)

/-- The rows of a decoded picture, in the layout of R279. -/
def State.writePlane (s : State) (k base pitch rows n : Nat) (v : Nat → Nat) : Bool × State :=
  (List.range rows).foldl (fun (p : Bool × State) r =>
    let (ok, s) := p.2.codWrite k (base + r * pitch) ((List.range n).flatMap (fun i => leBytes 2 (v (r * n + i))))
    (p.1 && ok, s)) (true, s)

/-- A decode job completes. -/
def State.codDecode (s : State) (k : Nat) (j : CodJob) : State :=
  let (b, s) := s.codRead k j.bs j.bssize
  let (hd, s) := s.codRead k j.state 4096
  let (t, s) := s.strmOf k j hd.bytes
  let res := Config.decCode j.desc b.bytes t.uid
  let used := Config.decUsed j.desc b.bytes t.uid
  let ty := b2n (Config.decInter j.desc b.bytes t.uid)
  let qp := Config.decQp j.desc b.bytes t.uid
  if res = 2 then s.codEnd k j 2 ty qp used t.seq id
  else if b.xlat || hd.xlat || j.xlat then s.codEnd k j 3 ty qp 0 t.seq id
  else
    let v (i : Nat) : Nat := let x := Config.decSample j.desc b.bytes t.uid i
      if Config.decEight j.desc b.bytes t.uid then x % 256 * 256 else x % 1024 * 64
    let (ok1, s) := s.writePlane k j.pic j.pitch j.h j.w v
    let (ok2, s) := s.writePlane k (j.pic + j.h * j.pitch) j.pitch (j.h / 2) j.w (fun i => v (j.h * j.w + i))
    let code := if !(ok1 && ok2) then 3 else if b.poison || hd.poison then 4 else if res = 6 then 6 else 0
    s.codEnd k j code ty qp used t.seq (fun s => if code = 3 then s else (s.strmWrite k j ⟨(t.seq + 1) % 2 ^ 32, t.since + 1, false, j.ord + 1⟩).2)

/-- CODEC_JOB_COMPLETE. A refused job writes its status record and increments its counter (R284); where the record's fields have no meaning for it they are free. -/
def State.codComplete (s : State) (k : Nat) : State :=
  match (s.codec k).run with
  | none => s
  | some j =>
    if j.waiting ∨ j.walks ≠ [] then s
    else if j.code ≠ 0 then
      let (a, s) := s.free 8
      let (b, s) := s.free 8
      let (c, s) := s.free 32
      let (d, s) := s.free 32
      s.codEnd k j j.code a (BitVec.ofNat 8 b) c d id
    else if j.isDec then s.codDecode k j
    else s.codEncode k j

/-! ### Stop and kill (R285) -/

/-- The running job stops and its stream is marked. -/
def State.codHalt (s : State) (k : Nat) : State :=
  match (s.codec k).run with
  | none => s
  | some j =>
    let s := if j.code = 0 then s.strmKey k j else s
    s.setCodec k { s.codec k with run := none }

/-- COD_COREk_CTRL.EN = 0. -/
def State.codStop (s : State) (k : Nat) : State :=
  let c := s.codec k
  if c.run = none ∧ c.queue = [] then s
  else ((s.setCodec k { c with queue := [] }).codHalt k).setFlag .COD_COREk_ERR [k] 2 true

/-- The JID that a queued job's descriptor names as it stands. -/
def State.codJid (s : State) (k va : Nat) : Option Nat :=
  let m := s.codMctx k
  let read (t : Tlb) : Option Nat := if t.r then some (bits (s.mem.rdLE (t.map va) 4) 23 16) else none
  match lookupTlb (s.codec k).tlb m va with
  | some t => read t
  | none => match s.walk m va false with | .ok t => read t | .bad _ => none

/-- A kill of JID `j` at one core. -/
def State.codKill (jid : Nat) (s : State) (k : Nat) : State :=
  let s := s.setCodec k { s.codec k with queue := (s.codec k).queue.filter (fun va => s.codJid k va != some jid) }
  match (s.codec k).run with
  | some j => if bits j.ctl 23 16 = jid then s.codHalt k else s
  | none => s

/-- COD_COREk_STATUS. -/
def State.codStatus (s : State) (k : Nat) : Nat :=
  let c := s.codec k
  c.queue.length * 256 + b2n (match c.run with | some j => j.waiting | none => false) * 2 + b2n c.run.isSome

/-! ### The commands -/

/-- CODEC_JOB_START (R280, R281). -/
def execCodecJobStart (k : Fin 3) (s : State) : Host.Outcome State Fault Refusal := live s (fun s => s.codStart k.val)

/-- CODEC_JOB_COMPLETE (R283, R284). -/
def execCodecJobComplete (k : Fin 3) (s : State) : Host.Outcome State Fault Refusal := live s (fun s => s.codComplete k.val)

end Sys2Proof.Machine
end

