-- ==== Sys2Proof/Machine/Wake.lean ====
section
/-! DEFINITION. Power states as accesses meet them: the states of R386, wake (R390, R391), and the accesses that wait for a domain in RUN. -/

namespace Sys2Proof.Machine
open Sys2Proof

def State.updPrs (s : State) (f : Prs → Prs) : State := { s with prs := f s.prs }

/-! ### States -/

def stRUN : Nat := 0
def stTRIM : Nat := 1
def stREST : Nat := 2
def stCAVE : Nat := 3
def stEXIT : Nat := 5

def State.pst (s : State) (c : Nat) : Nat := s.fld .PRS_STATE [] (4 * c + 2) (4 * c)
def State.setPst (s : State) (c v : Nat) : State := s.setFld .PRS_STATE [] (4 * c + 2) (4 * c) v

/-- A domain of power states is in RUN. -/
def State.inRun (s : State) (c : Nat) : Bool := s.pst c == stRUN && !s.prs.cave

def State.setEntry (s : State) (d : Nat) (e : PEntry) : State := s.updPrs (fun p => { p with entry := p.entry.put d e })
def State.clearEntry (s : State) (d : Nat) : State := s.updPrs (fun p => { p with entry := p.entry.erase d })

/-! ### Entry and exit -/

/-- An entry is abandoned. -/
def State.abandon (s : State) (d : Nat) (refused : Bool) : State :=
  (s.satInc .PRS_CNT2 [] (if refused then 31 else 15) (if refused then 16 else 0) 1).clearEntry d

/-- An exit starts. -/
def State.startExit (s : State) (d : Nat) : State :=
  if d = 4 then s.updPrs (fun p => { p with caveExit := true }) else s.setPst d stEXIT

/-- Registers that CAVE leaves as they are: GLB, the sweep unit, Press, the island's security block, MGT_EOUT, port 2 and the timebase,
the LPDDR5X training, and the repair state that Press restores (R386, R392, R398; log 38). -/
def keptInCave (a : Nat) : Bool :=
  match regAt a with
  | none => false
  | some (r, is) =>
    decide (a < 0x1000) || (regsNear 0x100000).contains r || (regsNear 0x200000).contains r ||
    (match r with
     | .SWP_CTRL | .SWP_PERIOD | .SWP_ORIGIN_LO | .SWP_ORIGIN_HI | .SWP_IDX | .SWP_JUMP | .SWP_STATUS | .SWP_NOW | .SWP_SWEEP_LO | .SWP_SWEEP_HI => true
     | .SWP_CNT0 | .SWP_CNT1 | .SWP_CNTCLR | .SWP_EVT | .SWP_MISS_LO | .SWP_MISS_HI | .SWP_MISS_POP | .SWP_QCFGq | .SWP_PTi_LO | .SWP_PTi_HI => true
     | .MGT_EOUT | .NET_TCFG | .NET_TSTAT | .LPX_GCTRL | .LPX_CHEN | .LPX_GSTAT | .LPX_CHFAIL | .CLU_REMAPl | .TILE_RPRk => true
     | .NET_PORTp_CFG | .NET_PORTp_STAT | .NET_QBVp_CTRL | .NET_QBVp_CYCLE | .NET_QBVp_CHG_LO | .NET_QBVp_CHG_HI | .NET_QBVp_GCLk | .NET_SHAPEp_c =>
       nth is 0 == 2
     | .VAT_RPRc_k => true
     | _ => false)

/-- A domain that is in a low state and not on its way out of it. -/
def State.asleep (s : State) (d : Nat) : Bool :=
  if d = 4 then s.prs.cave && !s.prs.caveExit else !s.prs.cave && (s.pst d == stTRIM || s.pst d == stREST)

/-- A wake event reaches a domain: before the commit the entry is abandoned; in the entry window a level, an access or the phase table is latched
and an edge is lost (R390, R430); in the state the exit starts. -/
def State.wakeDomain (s : State) (d : Nat) (edge : Bool) : State :=
  match s.prs.entry.find d with
  | some e =>
    if !e.committed then s.abandon d false
    else if edge then s
    else s.setEntry d { e with latched := true }
  | none => if s.asleep d then s.startExit d else s

/-! ### Accesses that wait -/

/-- The cluster that an address reaches into: its register window, its local counters, its vat, its scratchpads. -/
def State.clusterOfAddr (s : State) (a : Nat) : Option Nat :=
  if 0x2000000 ≤ a ∧ a < 0x6000000 then some ((a - 0x2000000) / 0x1000000)
  else if 0x1000000 ≤ a ∧ a < 0x1038000 then some ((a - 0x1000000) / 16 / 3584)
  else
    match s.region a with
    | .vat c => some c
    | .spad t => some (clusterOf t)
    | _ => none

/-- The domain that an access waits for: a cluster that is not in RUN, or the device (4) in CAVE where the block or memory is off (R386, R391; log 42). -/
def State.sleeping (s : State) (a : Nat) : Option Nat :=
  if s.prs.cave then (if keptInCave a || decide (s.region a = .island) then none else some 4)
  else
    match s.clusterOfAddr a with
    | some c => if s.clusterRuns c then none else some c
    | none => none

def State.hold (s : State) (h : HeldAcc) : State := { s with held := s.held ++ [h] }

/-- An access wakes the cluster it waits for; it does not wake the device (R391). -/
def State.wakeFor (s : State) (d : Nat) : State := if d = 4 then s else s.wakeDomain d false

end Sys2Proof.Machine
end

