-- ==== Sys2Proof/Machine/SyncEvents.lean ====
section
/-! DEFINITION. Rennet counters, windows, hoop audit and barriers as commands meet them (R131, R132, R170 to R182). -/

namespace Sys2Proof.Machine
open Sys2Proof

/-- The instances of a register that the register store lists. -/
def State.listed (s : State) (r : Reg) : List (List Nat) := s.regs.entries.filterMap (fun e => r.match? e.1)

/-! ### Counters -/

/-- The oldest `n` operations in flight on counter `k`, and the other operations. -/
def takeOps (k : Nat) : Nat → List CtrMsg → List CtrMsg × List CtrMsg
  | 0, ms => ([], ms)
  | _, [] => ([], [])
  | n + 1, m :: ms =>
    if m.k = k then let (a, b) := takeOps k n ms; (m :: a, b)
    else let (a, b) := takeOps k (n + 1) ms; (a, m :: b)

/-- `n` operations in flight on counter `k` reach it in one cycle (R132, R170). -/
def State.counterOpEffect (s : State) (k n : Nat) : State :=
  let (now, rest) := takeOps k n s.fab.ops
  if now = [] then s
  else if k < 14336 ∧ !s.clusterRuns (k / 3584) then s.wakeFor (if s.prs.cave then 4 else k / 3584)
  else ({ s with fab := { s.fab with ops := rest } }).counterBatch k now

/-- The old value reaches `s[rv]` and the context's next bundle is no longer held (R131). -/
def State.oldValueReturn (s : State) (t k : Nat) : State :=
  match takeFirst (fun (o : OldVal) => o.tile == t && o.ctx == k) s.fab.olds with
  | none => s
  | some (o, rest) =>
    ({ s with fab := { s.fab with olds := rest } }).updCtx t k (fun c => { c.wrS o.rv (BitVec.ofNat 64 o.val) with oldWait := false })

/-! ### Windows (R172, R173) -/

/-- BASE and LIMIT of a window, inclusive. -/
def State.winRange (s : State) (w : Nat) : Nat × Nat :=
  (s.reg64 .FAB_WINw_BASE_LO .FAB_WINw_BASE_HI [w], s.reg64 .FAB_WINw_LIMIT_LO .FAB_WINw_LIMIT_HI [w])

/-- The window lies over one vat or one scratchpad (R172); a pair that disagrees matches no address (R55). -/
def State.winSound (s : State) (w : Nat) : Bool :=
  let (b, l) := s.winRange w
  decide (b ≤ l) && decide (s.region b = s.region l) && (match s.region b with | .vat _ => true | .spad _ => true | _ => false)

/-- How a window takes a message. -/
inductive WinRes where
  | drop | refuse | take (addr : Nat)
  deriving DecidableEq, Repr

/-- Steps 1 and 2 of R173. -/
def State.winJudge (s : State) (w : Nat) (peer : Option (Fin 256)) (off n : Nat) (write : Bool) : WinRes :=
  let named := match peer with | some p => decide (p.val = s.fld .FAB_WINw_CFG [w] 23 16) | none => false
  if !named || !s.flag .FAB_WINw_CTRL [w] 0 || s.fab.winHeld.contains w || !s.winSound w then .drop
  else
    let (b, l) := s.winRange w
    if l + 1 < b + off + n ∨ l < b + off ∨ !s.flag .FAB_WINw_CFG [w] (if write then 14 else 15) then .refuse
    else .take (b + off)

def State.winDropped (s : State) (w : Nat) : State := s.satInc .FAB_WINw_CNTS [w] 31 16 1
def State.winRefused (s : State) (w : Nat) : State := s.satInc .FAB_WINw_CNTS [w] 15 0 1

/-- The initiator of a peer's access: PCIe for a peer of KIND 2, the network otherwise (R342, R397). -/
def State.iniPeer (s : State) (w : Nat) : Initiator :=
  ⟨.app, if s.fld .NET_PEERi_CFG [s.fld .FAB_WINw_CFG [w] 23 16] 1 0 = 2 then 0xD0 else 0xC8⟩

/-- Steps 3 and 4 of R173: the bytes, the landing flags of a scratchpad window, then the counter. An aperture of a tile that is not READY takes no byte (R169). -/
def State.winWrite (s : State) (w a : Nat) (data : List Byte) : State :=
  let done (s : State) : State := s.counterNow (s.fld .FAB_WINw_CFG [w] 13 0) (.add 1)
  match s.region a with
  | .spad t =>
    if s.apertureOpen t then
      let b := a - spadBase t
      let s := s.spWrRows t b data
      done (s.updTile t (fun x => (rowsOf b data.length).foldl Tile.setLanded x))
    else done s
  | _ =>
    let (ok, s) := s.memWrite (s.iniPeer w) a data
    if ok then done s else s

/-- An incoming write message (R173). An arrival at a tile that a sparing moves, or at a cluster that is not in RUN, is held; the latter wakes the cluster (R403, R391). -/
def State.windowMessage (s : State) (w : Nat) (peer : Option (Fin 256)) (off : Nat) (data : List Byte) : State :=
  match s.winJudge w peer off data.length true with
  | .drop => s.winDropped w
  | .refuse => s.winRefused w
  | .take a =>
    match s.sleeping a with
    | some d => (s.hold (.win w a data)).wakeFor d
    | none =>
      match s.region a with
      | .spad t => if s.spareHolds t then s.hold (.win w a data) else s.winWrite w a data
      | _ => s.winWrite w a data

/-- The domain that a peer's read waits for. -/
def State.readWaits (s : State) (w : Nat) (peer : Option (Fin 256)) (off n : Nat) : Option Nat :=
  match s.winJudge w peer off n false with
  | .take a => s.sleeping a
  | _ => none

/-- What a peer's read returns: the bytes, or the reason of its refusal. -/
inductive WinRead where
  | dropped | refused | data (bs : List Byte)
  deriving DecidableEq, Repr

/-- A read through a window changes no counter of the job (R173). -/
def State.windowReadValue (s : State) (w : Nat) (peer : Option (Fin 256)) (off n : Nat) : WinRead :=
  match s.winJudge w peer off n false with
  | .drop => .dropped
  | .refuse => .refused
  | .take a =>
    match s.region a with
    | .spad t => .data (if s.apertureOpen t then s.mem.rdBytes a n else List.replicate n 0)
    | _ => .data (s.memRead a n (s.iniPeer w).src.toNat .clean).1.bytes

/-- A peer's read as a command: a dropped or refused read is counted as a message is (R173); one at a cluster that is not in RUN wakes it and waits (R391). -/
def State.windowRead (s : State) (w : Nat) (peer : Option (Fin 256)) (off n : Nat) : State :=
  match s.winJudge w peer off n false with
  | .drop => s.winDropped w
  | .refuse => s.winRefused w
  | .take a =>
    match s.sleeping a with
    | some d => s.wakeFor d
    | none =>
      match s.region a with
      | .spad _ => s
      | _ => (s.memRead a n (s.iniPeer w).src.toNat .clean).2

/-! ### Hoop audit (R177, R179) -/

/-- ARM set to 1: bases taken, state zeroed; a counter outside the cluster's local range never arms (R177). -/
def State.armHoop (s : State) (c h : Nat) : State :=
  let is := [c, h]
  let f := s.fld .CLU_HOOPh_FILL is 13 0
  let d := s.fld .CLU_HOOPh_DRAIN is 13 0
  if localTo c f && localTo c d then
    let s := s.setHoop (64 * c + h) ⟨s.reg .RNT_VALk [f], s.reg .RNT_VALk [d]⟩
    (s.setReg .CLU_HOOPh_LOG is 0).setReg .CLU_HOOPh_TALLY is 0
  else s.setFlag .CLU_HOOPh_CFG is 31 false

/-- A record no longer watches its counters. -/
def State.disarmHoop (s : State) (c h : Nat) : State :=
  let s := s.setFlag .CLU_HOOPh_CFG [c, h] 31 false
  { s with fab := { s.fab with hoops := s.fab.hoops.erase (64 * c + h) } }

/-- A barrier completion reaches the record: VALID, class HOOP, ARM cleared (R179). -/
def State.hoopLog (s : State) (c h : Nat) : State :=
  match takeFirst (fun (e : Nat × Nat) => e.1 == c && e.2 == h) s.fab.hoopLogs with
  | none => s
  | some (_, rest) =>
    let s := { s with fab := { s.fab with hoopLogs := rest } }
    if s.flag .CLU_HOOPh_CFG [c, h] 31 ∧ s.fld .CLU_HOOPh_LOG [c, h] 30 29 ≠ 0 then
      let s := s.setFlag .CLU_HOOPh_LOG [c, h] 31 true
      (s.signalU 2 (s.fld .CLU_HOOPh_LOG [c, h] 30 29) h).disarmHoop c h
    else s

/-! ### Barriers (R180, R181) -/

/-- The arrival of a context's BAR reaches the barrier unit. -/
def State.barrierArrival (s : State) (t k : Nat) : State :=
  match takeFirst (fun (m : BarMsg) => m.tile == t && m.ctx == k) s.fab.bars with
  | none => s
  | some (m, rest) => ({ s with fab := { s.fab with bars := rest } }).barArrive m.jid

/-- A write of FAB_BARj: EXPECT is written; ARRIVED is zeroed by a 0, which also ends BROKEN, and kept otherwise; an EXPECT at or below a nonzero ARRIVED completes (R180, R181). -/
def State.barWrite (s : State) (j data : Nat) : State :=
  let s := s.setFld .FAB_BARj [j] 15 0 (bits data 15 0)
  if bits data 31 16 = 0 then (s.setFld .FAB_BARj [j] 31 16 0).setFlag .FAB_BARj_STAT [j] 16 false
  else if s.barArrived j ≠ 0 ∧ s.barExpect j ≤ s.barArrived j ∧ !s.barBroken j then s.barComplete j
  else s

/-! ### The commands -/

/-- COUNTER_OP_EFFECT (R132, R170). -/
def execCounterOpEffect (k : BitVec 14) (n : Nat) (s : State) : Host.Outcome State Fault Refusal := live s (fun s => s.counterOpEffect k.toNat n)

/-- RN_OLD_VALUE_RETURN (R131). -/
def execRnOldValueReturn (t : TileId) (k : CtxId) (s : State) : Host.Outcome State Fault Refusal := live s (fun s => s.oldValueReturn t.val k.val)

/-- WINDOW_MESSAGE (R173). -/
def execWindowMessage (w : Fin 256) (peer : Option (Fin 256)) (off : Nat) (data : List Byte) (s : State) : Host.Outcome State Fault Refusal :=
  live s (fun s => s.windowMessage w.val peer off data)

/-- WINDOW_READ (R173). -/
def execWindowRead (w : Fin 256) (peer : Option (Fin 256)) (off len : Nat) (s : State) : Host.Outcome State Fault Refusal :=
  live s (fun s => s.windowRead w.val peer off len)

/-- HOOP_LOG (R179). -/
def execHoopLog (c : Fin 4) (h : Fin 64) (s : State) : Host.Outcome State Fault Refusal := live s (fun s => s.hoopLog c.val h.val)

/-- BARRIER_ARRIVAL (R180). -/
def execBarrierArrival (t : TileId) (k : CtxId) (s : State) : Host.Outcome State Fault Refusal := live s (fun s => s.barrierArrival t.val k.val)

end Sys2Proof.Machine
end

