-- ==== Sys2Proof/Machine/Kill.lean ====
section
/-! DEFINITION. The kill unit (R183 to R188, R404). -/

namespace Sys2Proof.Machine
open Sys2Proof

/-- A request sets the JID's pending bit, or merges with the kill of the same JID (R184). -/
def State.killRequest (s : State) (j : Nat) : State :=
  if s.fab.killPend.contains j ∨ s.fab.kill.map (·.jid) = some j then s
  else { s with fab := { s.fab with killPend := insertBy id j s.fab.killPend } }

/-- The tiles that carry a JID. -/
def State.tilesOf (s : State) (j : Nat) : List Nat :=
  (s.listed .TILE_JOB).filterMap (fun is => match is with
    | [c, l] => if s.jobOf (34 * c + l) = some j then some (34 * c + l) else none
    | _ => none)

/-- Step 1: the windows of the job close. -/
def State.closeWindows (s : State) (j : Nat) : State :=
  (s.listed .FAB_WINw_CTRL).foldl (fun s w => if s.fld .FAB_WINw_CFG w 31 24 = j then s.setFlag .FAB_WINw_CTRL w 0 false else s) s

/-- Steps 2 and 3 at one tile: contexts idle, commands ignored, unread SEND rows discarded, the scale load cut short, the matrix queue emptied,
slices released, descriptor slots invalidated. -/
def State.killTile (s : State) (t : Nat) : State :=
  let s := if (s.tile t).load.isSome then s.endLoad t true else s
  s.updTile t (fun x =>
    let x := { x with killed := true, sends := [], mq := [],
                      ctx := ⟨x.ctx.entries.map (fun e => (e.1,
                        { e.2 with st := if e.2.live then .idle else e.2.st, d := .empty, held := none, woken := false, bar := .no, oldWait := false,
                                   skip := none, miss := none, ffail := none }))⟩ }
    (List.range 4).foldl (fun x j =>
      let y := x.slice j
      if y.owner.isSome then x.setSlice j { y with releasing := true, rel := x.clk, gone := true } else x) x)

/-- Step 4 at one tile: writes already sent reach memory, fetches are dropped. -/
def State.quietTile (s : State) (t : Nat) : State :=
  let ws := (s.tile t).fetches.filter (fun f => f.write && !f.fail)
  let s := ws.foldl (fun s f => (s.writePieces t f.poison f.segs f.bytes).2) s
  s.updTile t (fun x => { x with fetches := [], reqs := [], disc := [], walks := [] })

/-- Step 4: counter operations of the job's tiles that are in flight take effect; old values on their way to them are dropped. -/
def State.quietCounters (s : State) (ts : List Nat) : State :=
  let mine (m : CtrMsg) : Bool := match m.from_ with | some (t, _) => ts.contains t | none => false
  let now := s.fab.ops.filter mine
  let s := { s with fab := { s.fab with ops := s.fab.ops.filter (fun m => !mine m), bars := s.fab.bars.filter (fun b => !ts.contains b.tile) } }
  let s := ((now.map (·.k)).eraseDups).foldl (fun s k => s.counterBatch k (now.filter (fun m => m.k == k))) s
  { s with fab := { s.fab with olds := s.fab.olds.filter (fun o => !ts.contains o.tile) } }

/-- Step 5: owned counters 0 and unowned, the barrier at its reset value but for GEN, hoop records disarmed. -/
def State.resetJob (s : State) (j : Nat) : State :=
  let s := (s.listed .RNT_CFGk).foldl (fun s k =>
    if s.flag .RNT_CFGk k 8 ∧ s.fld .RNT_CFGk k 7 0 = j then (s.setReg .RNT_VALk k 0).setReg .RNT_CFGk k 0 else s) s
  let s := (s.setReg .FAB_BARj [j] 0).setFlag .FAB_BARj_STAT [j] 16 false
  (s.listed .CLU_HOOPh_CFG).foldl (fun s is => if s.fld .CLU_HOOPh_CFG is 20 13 = j then s.disarmHoop (nth is 0) (nth is 1) else s) s

/-- The logical tile of a sparing is bound to its new slot (R403). -/
def State.bindSpare (s : State) (c : Nat) (sp : Spare) : State := s.setReg .CLU_REMAPl [c, sp.ltile] (sp.slot % 34)

/-- Arrivals held for the tile of a sparing. -/
def heldFor (t : Nat) (s : State) (h : HeldAcc) : Bool :=
  match h with | .win _ a _ => decide (s.region a = .spad t) | _ => false

/-- A kill reaches a sparing: its windows are closed, and arrivals held at them are dropped there (R173, R183). -/
def State.dropHeld (s : State) (t : Nat) : State :=
  s.held.foldl (fun s h => match h with | .win w _ _ => if heldFor t s h then s.winDropped w else s | _ => s)
    { s with held := s.held.filter (fun h => !heldFor t s h) }

/-- A sparing that copies is stopped by the kill of its job and its new slot bound at once (R404). -/
def State.killSpares (s : State) (j : Nat) : State :=
  s.spares.entries.foldl (fun s e =>
    if e.2.jid = some j ∧ e.2.st ≠ .waiting then
      ((s.dropHeld (34 * e.1 + e.2.old)).bindSpare e.1 e.2).updTile (34 * e.1 + e.2.slot) (fun x => { x with killed := true })
    else s) s

/-- The kill unit takes the lowest pending JID: steps 1 to 5 (R183, R184). A tile in a cluster that is not in RUN is woken first (R391). -/
def State.killStart (s : State) : State :=
  match s.fab.kill, s.fab.killPend with
  | none, j :: rest =>
    let ts := s.tilesOf j
    if ts.any (fun t => !s.clusterRuns (clusterOf t)) then ts.foldl (fun s t => s.wakeFor (if s.prs.cave then 4 else clusterOf t)) s
    else
    let s := { s with fab := { s.fab with kill := some ⟨j, false⟩, killPend := rest } }
    let s := s.closeWindows j
    let s := foldState State.killTile s ts
    let s := foldState (State.attKill j) s [0, 1, 2, 3]
    let s := foldState (State.codKill j) s [0, 1, 2]
    let s := foldState State.quietTile s ts
    let s := s.quietCounters ts
    let s := s.killSpares j
    s.resetJob j
  | _, _ => s

/-- The old slot of a finished sparing is brined and disabled, REPAIR code 1 is signalled, BUSY and ARM clear (R403). -/
def State.endSpare (s : State) (c : Nat) (sp : Spare) : State :=
  let t := 34 * c + sp.old
  let s := (s.brineTile t).tileOff t
  let s := s.setFlag .TILE_CTRL (tix t) 0 false
  let s := (s.setFlag .CLU_SPARE [c] 31 false).setFlag .CLU_SPARE [c] 30 false
  ({ s with spares := s.spares.erase c }).signalU 12 1 c

/-- Step 6 at one tile, and the end of step 7: brined, slices free, every context IDLE, TILE_JOB.VALID clear, commands accepted again. -/
def State.endKillTile (s : State) (t : Nat) : State :=
  let s := if (s.tile t).ready then s.brineTile t else s
  let s := s.updTile t (fun x =>
    { x with killed := false, slices := .empty, sets := .empty, banks := .empty,
             ctx := ⟨x.ctx.entries.map (fun e => (e.1, { e.2 with st := .idle, oldWait := false }))⟩ })
  s.setFlag .TILE_JOB (tix t) 8 false

/-- The tiles that the running kill has stopped: those of the job, and the new slot of a sparing (R404). -/
def State.killedTiles (s : State) : List Nat := s.tiles.entries.filterMap (fun e => if e.2.killed then some e.1 else none)

/-- Steps 6 and 7 (R183). An honoured DBG_HOLD holds a tile before its brine (R188). -/
def State.killComplete (s : State) : State :=
  match s.fab.kill with
  | none => s
  | some r =>
    let ts := s.killedTiles
    if ts.any s.dbgHold then { s with fab := { s.fab with kill := some { r with held := true } } }
    else
      let s := foldState State.endKillTile s ts
      let s := s.spares.entries.foldl (fun s e => if e.2.jid = some r.jid then (s.bindSpare e.1 e.2).endSpare e.1 e.2 else s) s
      ({ s with fab := { s.fab with kill := none } }).tell (.killed r.jid)

/-! ### The commands -/

/-- KILL_START (R183, R184). -/
def execKillStart (s : State) : Host.Outcome State Fault Refusal := live s State.killStart

/-- KILL_COMPLETE (R183, R188). -/
def execKillComplete (s : State) : Host.Outcome State Fault Refusal := live s State.killComplete

end Sys2Proof.Machine
end

