-- ==== Sys2Proof/Machine/Memory.lean ====
section
/-! DEFINITION. Vat scrubbing and repair, LPDDR5X training and refresh, MMU invalidation, sealed regions, the brine engine (R290 to R307, R405, R408). -/

namespace Sys2Proof.Machine
open Sys2Proof

def State.updFab (s : State) (f : Fab → Fab) : State := { s with fab := f s.fab }

/-! ### The vat (R290, R405) -/

/-- `n` corrections that the scrubber makes in cluster `c`'s vat, each signalled as MEM_CE. -/
def State.scrubFixes (s : State) (c : Nat) : Nat → State
  | 0 => s
  | n + 1 => ((s.satInc .VAT_ERRc [c] 31 16 1).signalU 3 1 c).scrubFixes c n

/-- VAT_SCRUB: one line of every bank; after 2^15 steps PASS increments. -/
def State.vatScrub (s : State) (c fixed : Nat) : State :=
  let s := s.scrubFixes c fixed
  let k := s.fab.scrub.get 0 c + 1
  if k < 32768 then s.updFab (fun f => { f with scrub := f.scrub.put c k })
  else (s.updFab (fun f => { f with scrub := f.scrub.put c 0 })).setFld .VAT_ERRc [c] 7 0 (s.fld .VAT_ERRc [c] 7 0 + 1)

/-- VAT_REPAIR_DONE: the copy that EN started ends, DONE is set and REPAIR code 2 signalled (R405). -/
def State.vatRepairDone (s : State) (c k : Nat) : State :=
  if s.flag .VAT_RPRc_k [c, k] 31 ∧ !s.flag .VAT_RPRc_k [c, k] 30 then (s.setFlag .VAT_RPRc_k [c, k] 30 true).signalU 12 2 c else s

/-! ### LPDDR5X (R292, R293, R296, R408) -/

/-- Number of ones below bit 32. -/
def popCount (v : Nat) : Nat := ((upTo 32).filter (fun i => bit v i)).length

/-- LPX_GCTRL.INIT: TRAINED clears, the contents are lost, CHEN is read (R292, R293). -/
def State.lpxInit (s : State) : State :=
  if s.flag .LPX_GSTAT [] 1 then s
  else
    let n := s.lpxSize
    let s := { s with mem := s.mem.zero lpxBase n, poison := s.poison.filter (fun g => decide (16 * g < lpxBase)) }
    let s := s.setReg .LPX_CHFAIL [] 0
    (s.setReg .LPX_GSTAT [] 2).updFab (fun f => { f with lpxEn := s.reg .LPX_CHEN [], lpxFast := s.fld .LPX_GCTRL [] 5 4 == 1 })

/-- The post-package repairs pending at an INIT: DONE or FAIL, EN clears, REPAIR code 3 or 4 (R408). -/
def State.pprRuns (s : State) (fails : Nat) : State :=
  foldState (fun s k =>
    if !s.flag .LPX_PPRk [k] 31 then s
    else
      let bad := bit fails k
      let s := s.setFld .LPX_PPRk [k] 31 31 0
      let s := (s.setFlag .LPX_PPRk [k] 29 (!bad)).setFlag .LPX_PPRk [k] 28 bad
      s.signalU 12 (if bad then 4 else 3) k) s (upTo 8)

/-- LPX_INIT_DONE: the channels that failed, the capacity read, the repairs that failed (R292). -/
def State.lpxInitDone (s : State) (fail cap ppr : Nat) : State :=
  if !s.flag .LPX_GSTAT [] 1 then s
  else
    let s := s.pprRuns ppr
    let en := s.fab.lpxEn
    let bad := Nat.land en fail
    if en = 0 ∨ bad ≠ 0 then (s.setReg .LPX_GSTAT [] 4).setReg .LPX_CHFAIL [] bad
    else s.setReg .LPX_GSTAT [] (1 + popCount en * 256 + cap * 65536)

def State.refDebt (s : State) (ch : Nat) : Int := s.fab.debt.get 0 ch
def State.setDebt (s : State) (ch : Nat) (d : Int) : State := s.updFab (fun f => { f with debt := f.debt.put ch d })

/-- How far a permitted controller pulls refreshes in: d = 8, or 4 when RATE was 1 at the last INIT (R296, R434). -/
def State.refTop (s : State) : Int := if s.fab.lpxFast then 4 else 8

/-- REFRESH_TICK: the debt falls; a permitted quiet channel pulls refreshes in up to its limit, one that is not permitted issues what keeps it at −8 (R296). -/
def State.refreshTick (s : State) (ch : Nat) (quiet : Bool) : State :=
  if !s.flag .LPX_GSTAT [] 0 ∨ !bit s.fab.lpxEn ch then s
  else
    let k := ch / 4
    let d := s.refDebt ch - 1
    if s.flag .LPX_REFk [k] 0 then
      if quiet then (s.satInc .LPX_REFk [k] 31 16 (s.refTop - d).toNat).setDebt ch (max d s.refTop)
      else s.setDebt ch (max d (-8))
    else if d < -8 then (s.satInc .LPX_REFk [k] 15 8 1).setDebt ch (-8)
    else s.setDebt ch d

/-- The effect of a REFRESH entry (R66, R296). -/
def State.refreshPermit (s : State) (mask : Nat) : State := foldState (fun s k => s.setFlag .LPX_REFk [k] 0 (bit mask k)) s (upTo 8)

/-! ### MMU invalidation (R300) -/

/-- A GO write to MMU_INV_CTL, whose fields stand in the register. Translations read before it go at once. -/
def State.mmuInv (s : State) : State :=
  if s.fab.inv then s
  else
    let c := s.fld .MMU_INV_CTL [] 21 16
    let all := s.flag .MMU_INV_CTL [] 15
    let n := let v := s.fld .MMU_INV_CTL [] 12 0; max 1 (min 4096 v)
    let lo := s.reg .MMU_INV_VA [] * 65536
    let keep (t : Tlb) : Bool := t.mctx != c || (!all && (decide (lo + n * 65536 ≤ t.va) || decide (t.va + t.size ≤ lo)))
    let s := { s with tiles := ⟨s.tiles.entries.map (fun (e : Nat × Tile) => (e.1, { e.2 with tlb := e.2.tlb.filter keep }))⟩,
                      cod := { s.cod with cores := ⟨s.cod.cores.entries.map (fun (e : Nat × CodCore) => (e.1, { e.2 with tlb := e.2.tlb.filter keep }))⟩ } }
    s.updFab (fun f => { f with inv := true })

def State.mmuInvDone (s : State) : State := s.updFab (fun f => { f with inv := false })

/-! ### Sealed regions (R301, R302, R305) -/

/-- Two ranges meet. -/
def rangesMeet (a an b bn : Nat) : Bool := decide (a < b + bn) && decide (b < a + an)

/-- R301: the region lies in one vat or in LPDDR5X and overlaps no other whose SEAL is 1. -/
def State.sealable (s : State) (r : Nat) : Bool :=
  let (b, d, t) := s.sealRange r
  decide (b < d) && (s.region b).isVatOrLpx && s.oneRegion b (t - b) &&
  (upTo 64).all (fun q => q == r || !s.sealBit q || (let (b', _, t') := s.sealRange q; !rangesMeet b (t - b) b' (t' - b')))

/-- Tagging begins with a new generation number (R302 step 3). -/
def State.beginTags (s : State) (r : Nat) : State := s.setSeal r { s.sealSt r with gen := ((s.sealSt r).gen + 1) % 2 ^ 32, tagging := true, unsealing := false }

/-- The tags of the first `n` lines of a region are written. -/
def State.writeTags (s : State) (r n : Nat) : State :=
  let (b, d, _) := s.sealRange r
  (List.range n).foldl (fun s i => s.wrMem (d + 8 * i) (leBytes 8 (s.lineTag r (b + 64 * i)).toNat)) s

/-- FAB_SEALr_CTRL.SEAL becomes 1 (the bit is stored already); a refused seal leaves it 0 and sets ERR (R301, R302). One written during an unseal waits for its end (R305). -/
def State.sealWrite (s : State) (r : Nat) : State :=
  if (s.sealSt r).unsealing then s
  else if s.sealable r then s.beginTags r
  else (s.setFlag .FAB_SEALr_CTRL [r] 0 false).setFlag .FAB_SEALr_CTRL [r] 2 true

/-- SEALED: every line has its tag (R302 steps 4 and 5). -/
def State.sealedDone (s : State) (r : Nat) : State :=
  if !(s.sealSt r).tagging then s
  else
    let (b, d, _) := s.sealRange r
    ((s.writeTags r ((d - b) / 64)).setSeal r { s.sealSt r with tagging := false }).setFlag .FAB_SEALr_CTRL [r] 1 true

/-- FAB_SEALr_CTRL.SEAL becomes 0: instruction-cache lines of the region go; tagging stops where it stands, at a free line (R305). -/
def State.unsealWrite (s : State) (r : Nat) : State :=
  let (b, d, _) := s.sealRange r
  let s := { s with tiles := ⟨s.tiles.entries.map (fun (e : Nat × Tile) => (e.1, { e.2 with icache := e.2.icache.filter (fun l => !rangesMeet l.pa 256 b (d - b)) }))⟩ }
  if (s.sealSt r).tagging then
    let (n, s) := s.free 32
    (s.writeTags r (n % ((d - b) / 64 + 1))).setSeal r { s.sealSt r with tagging := false, unsealing := true }
  else s.setSeal r { s.sealSt r with unsealing := true }

/-- UNSEAL_DONE: SEALED clears and the write block lifts, or a seal written meanwhile begins (R305). -/
def State.unsealDone (s : State) (r : Nat) : State :=
  if !(s.sealSt r).unsealing then s
  else
    let s := (s.setFlag .FAB_SEALr_CTRL [r] 1 false).setSeal r { s.sealSt r with unsealing := false }
    if s.sealBit r then s.sealWrite r else s

/-! ### Brine engine (R307) -/

/-- A GO write to FAB_BRN_CTL, whose fields stand in the register. -/
def State.brineGo (s : State) : State :=
  let page := s.fld .FAB_BRN_ADDR [] 27 0
  let n := max 1 (min 4096 (s.fld .FAB_BRN_CTL [] 26 14))
  let a := page * 65536
  let ok := decide (s.fab.brine.length < 16) && (s.region a).isVatOrLpx && s.oneRegion a (n * 65536) && (s.blockedBy a (n * 65536)).isNone
  if ok then s.updFab (fun f => { f with brine := f.brine ++ [⟨page, n, s.fld .FAB_BRN_CTL [] 13 0⟩] })
  else s.setFlag .FAB_BRN_CTL [] 29 true

/-- Zeros over a range: whole, or 256 bytes at a time where part of it has been sealed since (R303). -/
def State.brineRange (s : State) (a n : Nat) : State :=
  if (s.blockedBy a n).isNone then { s with mem := s.mem.zero a n, poison := clearPoison (s.region a) a n s.poison }
  else (List.range (n / 256)).foldl (fun s i => (s.memWrite iniEngine (a + 256 * i) (List.replicate 256 0)).2) s

/-- BRINE_REQUEST_DONE: the oldest request's pages are zero, then its counter increments. -/
def State.brineDone (s : State) : State :=
  match s.fab.brine with
  | [] => s
  | q :: rest => (((s.updFab (fun f => { f with brine := rest })).brineRange (q.page * 65536) (q.count * 65536))).counterNow q.cnt (.add 1)

/-! ### The commands -/

/-- VAT_SCRUB (R290). -/
def execVatScrub (c : Fin 4) (fixed : Nat) (s : State) : Host.Outcome State Fault Refusal := live s (fun s => s.vatScrub c.val fixed)

/-- LPX_INIT_DONE (R292, R293, R408). -/
def execLpxInitDone (fail : Word) (cap pprFail : BitVec 8) (s : State) : Host.Outcome State Fault Refusal :=
  live s (fun s => s.lpxInitDone fail.toNat cap.toNat pprFail.toNat)

/-- REFRESH_TICK (R296). -/
def execRefreshTick (ch : Fin 32) (quiet : Bool) (s : State) : Host.Outcome State Fault Refusal := live s (fun s => s.refreshTick ch.val quiet)

/-- MMU_WALK (R297 to R299). -/
def execMmuWalk (w : WalkSrc) (ecc : Ecc) (s : State) : Host.Outcome State Fault Refusal :=
  live s (fun s => match w with | .tile t => s.tileWalk t.val ecc | .codec k => s.codWalk k.val ecc)

/-- MMU_INV_DONE (R300). -/
def execMmuInvDone (s : State) : Host.Outcome State Fault Refusal := live s State.mmuInvDone

/-- SEALED (R302). -/
def execSealed (r : Fin 64) (s : State) : Host.Outcome State Fault Refusal := live s (fun s => s.sealedDone r.val)

/-- UNSEAL_DONE (R305). -/
def execUnsealDone (r : Fin 64) (s : State) : Host.Outcome State Fault Refusal := live s (fun s => s.unsealDone r.val)

/-- BRINE_REQUEST_DONE (R307). -/
def execBrineRequestDone (s : State) : Host.Outcome State Fault Refusal := live s State.brineDone

/-- VAT_REPAIR_DONE (R405). -/
def execVatRepairDone (c : Fin 4) (k : Fin 256) (s : State) : Host.Outcome State Fault Refusal := live s (fun s => s.vatRepairDone c.val k.val)

end Sys2Proof.Machine
end

