-- ==== Sys2Proof/Machine/Crypto.lean ====
section
/-! DEFINITION. The hash, key derivation and signature functions that chapter 18 names by their standards: SHA-256 and SHA-384 (FIPS 180-4),
HMAC-SHA-256, the counter-mode derivation of R367, and ECDSA over P-256 and P-384 (FIPS 186-5). PRESUMED (log 34): their constants come from the standards. -/

namespace Sys2Proof.Machine
open Sys2Proof

/-! ### SHA-2 -/

/-- A member of the SHA-2 family: word width, rotations, round constants, initial value, bytes of its digest. -/
structure Sha where
  w : Nat
  big0 : Nat × Nat × Nat
  big1 : Nat × Nat × Nat
  /-- two rotations and a shift -/
  small0 : Nat × Nat × Nat
  small1 : Nat × Nat × Nat
  k : List Nat
  iv : List Nat
  out : Nat

def sha256K : List Nat :=
  [0x428a2f98, 0x71374491, 0xb5c0fbcf, 0xe9b5dba5, 0x3956c25b, 0x59f111f1, 0x923f82a4, 0xab1c5ed5] ++
  [0xd807aa98, 0x12835b01, 0x243185be, 0x550c7dc3, 0x72be5d74, 0x80deb1fe, 0x9bdc06a7, 0xc19bf174] ++
  [0xe49b69c1, 0xefbe4786, 0x0fc19dc6, 0x240ca1cc, 0x2de92c6f, 0x4a7484aa, 0x5cb0a9dc, 0x76f988da] ++
  [0x983e5152, 0xa831c66d, 0xb00327c8, 0xbf597fc7, 0xc6e00bf3, 0xd5a79147, 0x06ca6351, 0x14292967] ++
  [0x27b70a85, 0x2e1b2138, 0x4d2c6dfc, 0x53380d13, 0x650a7354, 0x766a0abb, 0x81c2c92e, 0x92722c85] ++
  [0xa2bfe8a1, 0xa81a664b, 0xc24b8b70, 0xc76c51a3, 0xd192e819, 0xd6990624, 0xf40e3585, 0x106aa070] ++
  [0x19a4c116, 0x1e376c08, 0x2748774c, 0x34b0bcb5, 0x391c0cb3, 0x4ed8aa4a, 0x5b9cca4f, 0x682e6ff3] ++
  [0x748f82ee, 0x78a5636f, 0x84c87814, 0x8cc70208, 0x90befffa, 0xa4506ceb, 0xbef9a3f7, 0xc67178f2]

def sha384K : List Nat :=
  [0x428a2f98d728ae22, 0x7137449123ef65cd, 0xb5c0fbcfec4d3b2f, 0xe9b5dba58189dbbc] ++
  [0x3956c25bf348b538, 0x59f111f1b605d019, 0x923f82a4af194f9b, 0xab1c5ed5da6d8118] ++
  [0xd807aa98a3030242, 0x12835b0145706fbe, 0x243185be4ee4b28c, 0x550c7dc3d5ffb4e2] ++
  [0x72be5d74f27b896f, 0x80deb1fe3b1696b1, 0x9bdc06a725c71235, 0xc19bf174cf692694] ++
  [0xe49b69c19ef14ad2, 0xefbe4786384f25e3, 0x0fc19dc68b8cd5b5, 0x240ca1cc77ac9c65] ++
  [0x2de92c6f592b0275, 0x4a7484aa6ea6e483, 0x5cb0a9dcbd41fbd4, 0x76f988da831153b5] ++
  [0x983e5152ee66dfab, 0xa831c66d2db43210, 0xb00327c898fb213f, 0xbf597fc7beef0ee4] ++
  [0xc6e00bf33da88fc2, 0xd5a79147930aa725, 0x06ca6351e003826f, 0x142929670a0e6e70] ++
  [0x27b70a8546d22ffc, 0x2e1b21385c26c926, 0x4d2c6dfc5ac42aed, 0x53380d139d95b3df] ++
  [0x650a73548baf63de, 0x766a0abb3c77b2a8, 0x81c2c92e47edaee6, 0x92722c851482353b] ++
  [0xa2bfe8a14cf10364, 0xa81a664bbc423001, 0xc24b8b70d0f89791, 0xc76c51a30654be30] ++
  [0xd192e819d6ef5218, 0xd69906245565a910, 0xf40e35855771202a, 0x106aa07032bbd1b8] ++
  [0x19a4c116b8d2d0c8, 0x1e376c085141ab53, 0x2748774cdf8eeb99, 0x34b0bcb5e19b48a8] ++
  [0x391c0cb3c5c95a63, 0x4ed8aa4ae3418acb, 0x5b9cca4f7763e373, 0x682e6ff3d6b2b8a3] ++
  [0x748f82ee5defb2fc, 0x78a5636f43172f60, 0x84c87814a1f0ab72, 0x8cc702081a6439ec] ++
  [0x90befffa23631e28, 0xa4506cebde82bde9, 0xbef9a3f7b2c67915, 0xc67178f2e372532b] ++
  [0xca273eceea26619c, 0xd186b8c721c0c207, 0xeada7dd6cde0eb1e, 0xf57d4f7fee6ed178] ++
  [0x06f067aa72176fba, 0x0a637dc5a2c898a6, 0x113f9804bef90dae, 0x1b710b35131c471b] ++
  [0x28db77f523047d84, 0x32caab7b40c72493, 0x3c9ebe0a15c9bebc, 0x431d67c49c100d4c] ++
  [0x4cc5d4becb3e42b6, 0x597f299cfc657e2a, 0x5fcb6fab3ad6faec, 0x6c44198c4a475817]

def sha256P : Sha := ⟨32, (2, 13, 22), (6, 11, 25), (7, 18, 3), (17, 19, 10), sha256K,
  [0x6a09e667, 0xbb67ae85, 0x3c6ef372, 0xa54ff53a, 0x510e527f, 0x9b05688c, 0x1f83d9ab, 0x5be0cd19], 32⟩

def sha384P : Sha := ⟨64, (28, 34, 39), (14, 18, 41), (1, 8, 7), (19, 61, 6), sha384K,
  [0xcbbb9d5dc1059ed8, 0x629a292a367cd507, 0x9159015a3070dd17, 0x152fecd8f70e5939] ++
  [0x67332667ffc00b31, 0x8eb44a8768581511, 0xdb0c2e0d64f98fa7, 0x47b5481dbefa4fa4], 48⟩

/-- Rotation to the right of a `w`-bit word. -/
def rotr (w n x : Nat) : Nat := x / 2 ^ n + x % 2 ^ n * 2 ^ (w - n)

def sigmaBig (w : Nat) (r : Nat × Nat × Nat) (x : Nat) : Nat := Nat.xor (rotr w r.1 x) (Nat.xor (rotr w r.2.1 x) (rotr w r.2.2 x))

def sigmaSmall (w : Nat) (r : Nat × Nat × Nat) (x : Nat) : Nat := Nat.xor (rotr w r.1 x) (Nat.xor (rotr w r.2.1 x) (x / 2 ^ r.2.2))

/-- The message schedule, newest word first: `n` words beyond the block's sixteen. -/
def shaSchedule (h : Sha) : Nat → List Nat → List Nat
  | 0, ws => ws
  | n + 1, ws =>
    let x := sigmaSmall h.w h.small1 (ws.getD 1 0) + ws.getD 6 0 + sigmaSmall h.w h.small0 (ws.getD 14 0) + ws.getD 15 0
    shaSchedule h n (x % 2 ^ h.w :: ws)

/-- One round on the working variables a to h. -/
def shaRound (h : Sha) (v : List Nat) (kw : Nat × Nat) : List Nat :=
  let g (i : Nat) : Nat := v.getD i 0
  let e := g 4
  let ch := Nat.xor (Nat.land e (g 5)) (Nat.land (2 ^ h.w - 1 - e) (g 6))
  let t1 := g 7 + sigmaBig h.w h.big1 e + ch + kw.1 + kw.2
  let maj := Nat.xor (Nat.land (g 0) (g 1)) (Nat.xor (Nat.land (g 0) (g 2)) (Nat.land (g 1) (g 2)))
  let t2 := sigmaBig h.w h.big0 (g 0) + maj
  [(t1 + t2) % 2 ^ h.w, g 0, g 1, g 2, (g 3 + t1) % 2 ^ h.w, g 4, g 5, g 6]

/-- One block of sixteen words. -/
def shaBlock (h : Sha) (v ws : List Nat) : List Nat :=
  let sched := (shaSchedule h (h.k.length - 16) ws.reverse).reverse
  let r := (h.k.zip sched).foldl (shaRound h) v
  (v.zip r).map (fun p => (p.1 + p.2) % 2 ^ h.w)

/-- A list in pieces of `n`; the fuel bounds their number. -/
def chunks {α : Type} (n : Nat) : Nat → List α → List (List α)
  | 0, _ => []
  | f + 1, xs => if xs = [] then [] else xs.take n :: chunks n f (xs.drop n)

/-- The padded message (FIPS 180-4, section 5.1). -/
def shaPad (h : Sha) (m : List Byte) : List Byte :=
  let blk := h.w * 2
  let z := (2 * blk - (m.length + 1 + h.w / 4) % blk) % blk
  m ++ [0x80] ++ List.replicate z 0 ++ beBytes (h.w / 4) (m.length * 8)

def sha (h : Sha) (m : List Byte) : List Byte :=
  let p := shaPad h m
  let blocks := chunks (h.w * 2) (p.length / (h.w * 2)) p
  let v := blocks.foldl (fun v b => shaBlock h v ((chunks (h.w / 8) 16 b).map beNat)) h.iv
  (v.flatMap (fun x => beBytes (h.w / 8) x)).take h.out

def sha256 (m : List Byte) : List Byte := sha sha256P m

def sha384 (m : List Byte) : List Byte := sha sha384P m

/-! ### HMAC and the derivation of R367 -/

def hmac256 (key m : List Byte) : List Byte :=
  let k := if 64 < key.length then sha256 key else key
  let k := k ++ List.replicate (64 - k.length) 0
  sha256 (k.map (fun b => b ^^^ 0x5C) ++ sha256 (k.map (fun b => b ^^^ 0x36) ++ m))

/-- kdf(k, label, ctx, l) as a number of `l` bits (R367). -/
def kdf (key label ctx : List Byte) (l : Nat) : Nat :=
  ((List.range ((l + 255) / 256)).map (fun i =>
    beNat (hmac256 key (beBytes 4 (i + 1) ++ label ++ [0] ++ ctx ++ beBytes 4 l)) * 2 ^ (256 * i))).sum % 2 ^ l

/-! ### ECDSA -/

/-- A curve y^2 = x^3 - 3x + b over the field of `p` elements, with base point of order `n`; bytes of a coordinate. -/
structure Curve where
  p : Nat
  b : Nat
  n : Nat
  gx : Nat
  gy : Nat
  len : Nat

def p256 : Curve :=
  ⟨2 ^ 256 - 2 ^ 224 + 2 ^ 192 + 2 ^ 96 - 1,
   0x5ac635d8aa3a93e7b3ebbd55769886bc651d06b0cc53b0f63bce3c3e27d2604b,
   0xffffffff00000000ffffffffffffffffbce6faada7179e84f3b9cac2fc632551,
   0x6b17d1f2e12c4247f8bce6e563a440f277037d812deb33a0f4a13945d898c296,
   0x4fe342e2fe1a7f9b8ee7eb4a7c0f9e162bce33576b315ececbb6406837bf51f5, 32⟩

def p384 : Curve :=
  ⟨2 ^ 384 - 2 ^ 128 - 2 ^ 96 + 2 ^ 32 - 1,
   0xb3312fa7e23ee7e4988e056be3f82d19181d9c6efe8141120314088f5013875ac656398d8a2ed19d2a85c8edd3ec2aef,
   0xffffffffffffffffffffffffffffffffffffffffffffffffc7634d81f4372ddf581a0db248b0a77aecec196accc52973,
   0xaa87ca22be8b05378eb1c71ef320ad746e1d3b628ba79b9859f741e082542a385502f25dbf55296c3a545e3872760ab7,
   0x3617de4a96262c6f5d9e98bf9292dc29f8f41dbd289a147ce9da3113b5f0b8c00a60b1ce1d7e819d7a431d7c90ea0e5f, 48⟩

/-- The extended Euclidean algorithm on `a` and `b` with the factors `s` and `t` of an original `b`, modulo m; the fuel bounds its divisions. -/
def euclid (m : Nat) : Nat → Nat → Nat → Nat → Nat → Nat
  | 0, _, _, s, _ => s
  | f + 1, a, b, s, t => if b = 0 then s else euclid m f b (a % b) t ((s + (m - a / b * t % m)) % m)

/-- The inverse modulo a prime of at most 384 bits; 0 of 0. -/
def invMod (m a : Nat) : Nat := euclid m 600 m (a % m) 0 1

/-- A point of a curve in Jacobian coordinates: x = X / Z^2, y = Y / Z^3; the point at infinity has Z = 0. -/
structure Point where
  x : Nat
  y : Nat
  z : Nat

def Point.infinity : Point := ⟨1, 1, 0⟩

/-- The difference modulo p of two numbers below p. -/
def Curve.sub (c : Curve) (a b : Nat) : Nat := (a + (c.p - b)) % c.p

/-- Twice a point (a = -3). -/
def Curve.double (c : Curve) (q : Point) : Point :=
  let yy := q.y * q.y % c.p
  let s := 4 * q.x * yy % c.p
  let zz := q.z * q.z % c.p
  let m := 3 * (c.sub q.x zz) * (q.x + zz) % c.p
  let x := c.sub (m * m % c.p) (2 * s % c.p)
  ⟨x, c.sub (m * (c.sub s x) % c.p) (8 * yy * yy % c.p), 2 * q.y * q.z % c.p⟩

/-- The sum of two points. -/
def Curve.add (c : Curve) (q r : Point) : Point :=
  if q.z = 0 then r
  else if r.z = 0 then q
  else
    let qz := q.z * q.z % c.p
    let rz := r.z * r.z % c.p
    let u := q.x * rz % c.p
    let v := q.y * rz * r.z % c.p
    let h := c.sub (r.x * qz % c.p) u
    let k := c.sub (r.y * qz * q.z % c.p) v
    if h = 0 then (if k = 0 then c.double q else .infinity)
    else
      let hh := h * h % c.p
      let hhh := h * hh % c.p
      let w := u * hh % c.p
      let x := c.sub (c.sub (k * k % c.p) hhh) (2 * w % c.p)
      ⟨x, c.sub (k * (c.sub w x) % c.p) (v * hhh % c.p), h * q.z * r.z % c.p⟩

/-- `k` times `q` plus `l` times `r`, with `f` bits of `k` and `l`; `qr` is the sum of the points. -/
def Curve.mul2 (c : Curve) (q r qr : Point) : Nat → Nat → Nat → Point
  | 0, _, _ => .infinity
  | f + 1, k, l =>
    c.add (c.double (c.mul2 q r qr f (k / 2) (l / 2))) (if k % 2 = 1 then (if l % 2 = 1 then qr else q) else if l % 2 = 1 then r else .infinity)

/-- The x and y of a point; none at infinity. -/
def Curve.affine (c : Curve) (q : Point) : Option (Nat × Nat) :=
  if q.z = 0 then none
  else
    let i := invMod c.p q.z
    some (q.x * i * i % c.p, q.y * i * i * i % c.p)

/-- The base point, and `k` times it. -/
def Curve.base (c : Curve) : Point := ⟨c.gx, c.gy, 1⟩
def Curve.times (c : Curve) (k : Nat) : Option (Nat × Nat) := c.affine (c.mul2 c.base .infinity c.base 384 k 0)

/-- The leftmost bits of a digest as a number (FIPS 186-5, 6.4). -/
def Curve.digest (c : Curve) (d : List Byte) : Nat := beNat (d.take c.len)

/-- `(r, s)` is a signature of the digest under the public key. -/
def Curve.verify (c : Curve) (x y : Nat) (digest : List Byte) (r s : Nat) : Bool :=
  if x < c.p ∧ y < c.p ∧ y * y % c.p = (x * x * x + (c.p - 3) * x + c.b) % c.p ∧ 1 ≤ r ∧ r < c.n ∧ 1 ≤ s ∧ s < c.n then
    let w := invMod c.n s
    match c.affine (c.mul2 c.base ⟨x, y, 1⟩ (c.add c.base ⟨x, y, 1⟩) 384 (c.digest digest * w % c.n) (r * w % c.n)) with
    | some (v, _) => v % c.n == r
    | none => false
  else false

/-- The signature of a digest with private key `d` and per-message number `k`. -/
def Curve.sign (c : Curve) (d k : Nat) (digest : List Byte) : Nat × Nat :=
  match c.times k with
  | some (x, _) => (x % c.n, invMod c.n k * (c.digest digest + x % c.n * d) % c.n)
  | none => (0, 0)

/-- The public key of private key `d`. -/
def Curve.pub (c : Curve) (d : Nat) : Nat × Nat := (c.times d).getD (0, 0)

end Sys2Proof.Machine
end

