-- ==== Sys2Proof/Machine/Sweep.lean ====
section
/-! DEFINITION. The sweep unit: phase, sources, relock, selection of phase-table entries, deadline checks and misses (R56 to R74, R400). -/

namespace Sys2Proof.Machine
open Sys2Proof

def State.updSwp (s : State) (f : Sweep → Sweep) : State := { s with swp := f s.swp }

/-- SWP_PERIOD.PERIOD_NS within its limits (R57). -/
def clampPeriod (p : Nat) : Nat := max 10000000 (min 1000000000 p)
def State.period (s : State) : Nat := clampPeriod (s.reg .SWP_PERIOD [])

/-- One whole sweep in units of 2^-16 phase units. -/
def sweepLen : Nat := 2 ^ 32

/-- `pos` and its remainder after one sweep cycle at `k / 2` times the rate of one sweep per `rate` ns (R56, R62; log 12). -/
def stepPos (rate k pos rem : Nat) : Nat × Nat := (pos + (2 ^ 33 * k + rem) / rate, (2 ^ 33 * k + rem) % rate)

/-- SWP_CTRL fields. -/
def State.swpEn (s : State) : Bool := s.flag .SWP_CTRL [] 0
def State.swpIdx (s : State) : Bool := s.flag .SWP_CTRL [] 1
def State.swpFree (s : State) : Bool := s.flag .SWP_CTRL [] 2

/-! ### Deadline checks (R68 to R73, R400) -/

/-- Point `a` is at or before point `b`: sweep first, then phase (R68). -/
def pointLe (a b : Nat × Nat) : Bool := decide (a.1 < b.1) || (a.1 == b.1 && decide (a.2 ≤ b.2))

/-- The output set last published as OK or LATE for a tag of a queue (R331). -/
def State.published (s : State) (q tag : Nat) : Option (Nat × Nat) :=
  match s.fw.queues.find q with
  | some fq => (fq.pubs.find? (fun p => p.1 == tag)).map (·.2)
  | none => none

/-- ACTED of a miss: 0 flagged, 1 dropped, 2 substituted, 3 dropped because no earlier output set existed (R72). -/
def State.missAct (s : State) (q tag : Nat) : Nat :=
  match s.fld .SWP_QCFGq [q] 1 0 with
  | 0 => 0
  | 2 => if (s.published q tag).isSome then 2 else 3
  | _ => 1

/-- One miss at a check: the policy is applied and the miss reported (R72, R73). -/
def State.miss (s : State) (e : DlEnt) (sweep phase : Nat) : State :=
  let act := s.missAct e.queue e.tag
  let s := s.satInc .SWP_QCFGq [e.queue] 31 16 1
  let s := s.setFlag .SWP_EVT [] 2 true
  let s := if s.swp.miss.length < 64 then s.updSwp (fun w => { w with miss := w.miss ++ [⟨act, e.queue, phase, e.tag, sweep⟩] })
           else s.setFlag .SWP_EVT [] 3 true
  let s := s.signalU 1 act e.queue 0 e.tag
  if act = 0 then s.updSwp (fun w => { w with store := updFirst (fun d => d.jid == e.jid) (fun d => { d with missed := true }) w.store })
  else
    let s := s.updSwp (fun w => { w with store := w.store.filter (fun d => d.jid ≠ e.jid) })
    let s := { s with fw := { s.fw with jobs := updFirst (fun j => j.jid == e.jid) (fun j => { j with miss := some (act + 1), launch := [] }) s.fw.jobs } }
    s.killRequest e.jid

/-- A check of a queue reaches the deadline monitors that watch it (R400). -/
def State.monitors (s : State) (q : Nat) (missed : Bool) : State :=
  foldState (fun s m =>
    if !s.flag .MGT_DLMONm [m] 31 ∨ s.fld .MGT_DLMONm [m] 7 0 ≠ q then s
    else if missed then
      let s := s.satInc .MGT_DLMONm [m] 15 8 1
      if max 1 (s.fld .MGT_DLMONm [m] 23 16) ≤ s.fld .MGT_DLMONm [m] 15 8 ∧ !s.mgt.dlSignalled.contains m then
        ({ s with mgt := { s.mgt with dlSignalled := m :: s.mgt.dlSignalled } }).signalU 13 0 m
      else s
    else ({ s with mgt := { s.mgt with dlSignalled := s.mgt.dlSignalled.filter (· ≠ m) } }).setFld .MGT_DLMONm [m] 15 8 0) s (upTo 8)

/-- A DEADLINE check of a queue at a point (R69). -/
def State.deadlineCheck (s : State) (q sweep phase : Nat) : State :=
  let es := s.swp.store.filter (fun e => e.queue == q && !e.missed && pointLe (e.sweep, e.phase) (sweep, phase))
  (es.foldl (fun s e => s.miss e sweep phase) s).monitors q (es != [])

/-- The implicit check of every queue at the end of sweep `n`; only a queue with a miss reaches its monitors (R69). -/
def State.wrapCheck (s : State) (n : Nat) : State :=
  let es := s.swp.store.filter (fun e => !e.missed && decide (e.sweep ≤ n))
  let s := es.foldl (fun s e => s.miss e n 65535) s
  ((es.map (·.queue)).eraseDups).foldl (fun s q => s.monitors q true) s

/-! ### The phase table (R64 to R67) -/

/-- PHASE of an entry. -/
def ptPhase (lo : Word) : Nat := bits lo.toNat 15 0
def ptAction (lo : Word) : Nat := bits lo.toNat 19 16
def ptEn (lo : Word) : Bool := bit lo.toNat 20

/-- The enabled entries as (index, LO), in ascending phase, equal phases in ascending index (R65). -/
def State.ptEntries (s : State) : List (Nat × Word) :=
  sortBy (fun (e : Nat × Word) => ptPhase e.2)
    ((s.listed .SWP_PTi_LO).filterMap (fun is => let lo := s.rg (Reg.adr .SWP_PTi_LO is); if ptEn lo then some (nth is 0, lo) else none))

/-- The entry as one that is left to fire in sweep `n`. -/
def State.leftOf (s : State) (n : Nat) (e : Nat × Word) : Left := ⟨e.1, e.2, s.rg (Reg.adr .SWP_PTi_HI [e.1]), n, ptPhase e.2⟩

/-- The entries that have neither fired nor been passed over in the running sweep. -/
def State.openEntries (s : State) : List (Nat × Word) :=
  s.ptEntries.filter (fun e => !s.swp.fired.contains e.1 && !s.swp.late.contains e.1)

/-- Sweep cycles from selection to effect: DEADLINE 1; TRIG, I3C, STATWIN, REFRESH 2; RELEASE, SCAN, OPSET, PSTATE 3 (R67). -/
def effectDelay (act : Nat) : Nat :=
  match act with
  | 9 => 1
  | 1 => 2 | 2 => 2 | 5 => 2 | 7 => 2
  | 3 => 3 | 4 => 3 | 6 => 3 | 8 => 3
  | _ => 0

/-- A selected entry waits for its effect. -/
def State.pushDue (s : State) (l : Left) : State :=
  s.updSwp (fun w => { w with due := w.due ++ [⟨l.idx, l.lo, l.hi, l.sweep, l.phase, w.cycle + effectDelay (ptAction l.lo), false⟩] })

/-- One entry is selected per sweep cycle: one left behind first, else the first whose PHASE the running phase has reached (R65). -/
def State.selectEntry (s : State) : State :=
  match s.swp.left with
  | l :: rest => (s.updSwp (fun w => { w with left := rest })).pushDue l
  | [] =>
    match s.openEntries with
    | e :: _ =>
      if ptPhase e.2 ≤ s.phase then (s.updSwp (fun w => { w with fired := e.1 :: w.fired })).pushDue (s.leftOf s.swp.count e) else s
    | [] => s

/-! ### The wrap (R56, R61, R69) -/

/-- Entries reached and not yet selected stay to be selected; the record of fired entries clears; the count increments; the implicit check runs;
in SYNC_IDX mode LOSS_N wraps without an accepted pulse enter HOLDOVER. -/
def State.wrap (s : State) : State :=
  let n := s.swp.count
  let keep := s.openEntries.map (s.leftOf n)
  let s := s.updSwp (fun w => { w with pos := w.pos - sweepLen, count := (n + 1) % 2 ^ 64, fired := [], late := [], left := w.left ++ keep })
  let s := s.wrapCheck n
  if !s.swpIdx then s
  else
    let w := s.swp
    let wraps := if w.pulseSeen then 0 else w.wraps + 1
    let s := s.updSwp (fun w => { w with wraps := wraps, pulseSeen := false })
    if max 1 (s.fld .SWP_IDX [] 7 4) ≤ wraps ∧ w.st ≠ .holdover then
      ((s.updSwp (fun w => { w with st := .holdover })).setFlag .SWP_EVT [] 1 true).signalU 11 1 0
    else s

/-- PHASE_WRAP: the running phase has passed 65,535. -/
def State.phaseWrap (s : State) : State := if s.swp.running ∧ sweepLen ≤ s.swp.pos then s.wrap else s

/-! ### Following the source (R59, R62, R63) -/

/-- What a relock does with one stepped-over entry: DEADLINE, OPSET, REFRESH, PSTATE, and entries without an effect, are left to fire; the others are skipped (R63). -/
def skippedAtRelock (act : Nat) : Bool := [1, 2, 3, 4, 5].contains act

/-- The entries of `es` between phases `lo` and `hi`, both outside, are stepped over in sweep `n`. -/
def State.stepOver (s : State) (es : List (Nat × Word)) (n : Nat) (inside : Nat → Bool) : State :=
  let mine := es.filter (fun e => inside (ptPhase e.2))
  let skipped := mine.filter (fun e => skippedAtRelock (ptAction e.2))
  let fire := mine.filter (fun e => !skippedAtRelock (ptAction e.2))
  let s := s.satInc .SWP_CNT0 [] 15 0 skipped.length
  s.updSwp (fun w => { w with left := w.left ++ fire.map (s.leftOf n), fired := w.fired ++ mine.map (·.1) })

/-- A relock: the phase steps forward to the target position (R62, R63). -/
def State.relock (s : State) (pos rem sweep : Nat) : State :=
  let run := s.phase
  let tp := pos / 65536
  let s :=
    if run < tp then s.stepOver s.openEntries s.swp.count (fun p => decide (run < p) && decide (p < tp))
    else
      let n := s.swp.count
      let s := s.stepOver s.openEntries n (fun p => decide (run < p))
      let s := s.updSwp (fun w => { w with pos := sweepLen })
      let s := s.wrap
      let s := if s.swpIdx then s else s.updSwp (fun w => { w with count := sweep % 2 ^ 64 })
      s.stepOver s.openEntries s.swp.count (fun p => decide (p < tp))
  let s := s.updSwp (fun w => { w with pos := pos, rem := rem, st := .locked })
  (s.setFlag .SWP_EVT [] 0 true).signalU 11 2 0

/-- One cycle at the nominal rate. -/
def State.nominal (s : State) : State :=
  s.updSwp (fun w => let (p, r) := stepPos w.rate 2 w.pos w.rem; { w with pos := p, rem := r })

/-- One cycle toward a target position of a target sweep (R62). -/
def State.follow (s : State) (pos rem sweep : Nat) : State :=
  let d := (pos / 65536 + 65536 - s.phase % 65536) % 65536
  let j := s.fld .SWP_JUMP [] 11 0
  if d = 0 then (s.updSwp (fun w => { w with st := .locked })).nominal
  else if d ≤ j then s.updSwp (fun w => let (p, r) := stepPos w.rate 4 w.pos w.rem; { w with st := .slew, pos := p, rem := r })
  else if 65536 - j ≤ d then s.updSwp (fun w => let (p, r) := stepPos w.rate 1 w.pos w.rem; { w with st := .slew, pos := p, rem := r })
  else s.relock pos rem sweep

/-- The NET timebase is synchronised. -/
def State.tbSync (s : State) : Bool := s.net.tb == .sync

/-- The timebase is running, with or without synchronisation. -/
def State.tbRuns (s : State) : Bool := s.net.tb != .disabled

/-- The target of vehicle time: position, its remainder, sweep (R59). -/
def State.target (s : State) : Nat × Nat × Nat :=
  let dt := s.net.time - s.reg64 .SWP_ORIGIN_LO .SWP_ORIGIN_HI []
  let per := s.period
  (dt % per * sweepLen / per, dt % per * sweepLen % per, dt / per)

/-- The sweep starts: entries before the starting phase do not fire in the first sweep (R74). -/
def State.startSweep (s : State) (st : SweepSt) (pos rem rate : Nat) : State :=
  s.updSwp (fun w => { w with st := st, running := true, pos := pos, rem := rem, rate := rate, fired := [], left := [],
                              late := (s.ptEntries.filter (fun e => decide (ptPhase e.2 < pos / 65536))).map (·.1) })

/-- One cycle under gPTP (R59, R61, R62, R74). -/
def State.gptpCycle (s : State) : State :=
  let usable := (s.tbSync || (s.swpFree && s.tbRuns)) && decide (s.reg64 .SWP_ORIGIN_LO .SWP_ORIGIN_HI [] ≤ s.net.time)
  let (pos, rem, n) := s.target
  if !s.swp.running then
    if usable then (s.startSweep .locked pos rem s.period).updSwp (fun w => { w with count := n % 2 ^ 64 }) else s
  else if s.swp.st = .holdover then
    if s.tbSync ∧ usable then (s.updSwp (fun w => { w with rate := s.period })).follow pos rem n else s.nominal
  else if usable ∨ s.net.tb = .holdover then (s.updSwp (fun w => { w with rate := s.period })).follow pos rem n
  else s.nominal

/-- One cycle under SYNC_IDX: in ACQUIRE and HOLDOVER the nominal rate, otherwise toward the target of the last accepted pulse (R60, R61, R62). -/
def State.idxCycle (s : State) : State :=
  if !s.swp.running then s
  else
    let s := s.updSwp (fun w => let (p, r) := stepPos w.rate 2 w.tgt w.tgtRem; { w with tgt := p % sweepLen, tgtRem := r })
    if s.swp.st = .acquire ∨ s.swp.st = .holdover then s.nominal
    else s.follow s.swp.tgt s.swp.tgtRem 0

/-- SWEEP_CYCLE: 4 ns of the sweep clock and of the NET timebase. A wrap that PHASE_WRAP has not carried out comes first. -/
def State.sweepCycle (s : State) : State :=
  let s := s.updSwp (fun w => { w with cycle := w.cycle + 1 })
  let s := if s.tbRuns then { s with net := { s.net with time := s.net.time + 4 } } else s
  if !s.swpEn then s
  else
    let s := s.phaseWrap
    let s := if s.swp.running then s.selectEntry else s
    if s.swpIdx then s.idxCycle else s.gptpCycle

/-! ### SYNC_IDX pulses (R60) -/

/-- Two intervals differ by no more than TOL / 65,536 of the second. -/
def agrees (tol i ref : Nat) : Bool := decide ((i - ref + (ref - i)) * 65536 ≤ tol * ref)

/-- A pulse is accepted: target phase 0 at its time stamp, the rate of its interval; the unit leaves ACQUIRE and HOLDOVER. -/
def State.acceptPulse (s : State) (stamp ns : Nat) : State :=
  let rate := clampPeriod ns
  s.updSwp (fun w =>
    let age := (w.cycle - stamp) * 2 ^ 34
    { w with st := if w.st = .acquire ∨ w.st = .holdover then .locked else w.st, rate := rate, tgt := age / rate % sweepLen, tgtRem := age % rate,
             lastAcc := some stamp, lastCand := some stamp, lastI := some rate, rejRun := [], wraps := 0, pulseSeen := true })

/-- A rejected pulse joins the run; the third of three whose intervals agree is accepted and not counted (R60 steps 3 and 4). -/
def State.rejectPulse (s : State) (stamp : Nat) : State :=
  let tol := s.fld .SWP_IDX [] 23 8
  let iv := (stamp - s.swp.lastCand.getD 0) * 4
  let run := s.swp.rejRun ++ [iv]
  match run.reverse with
  | a :: b :: c :: _ =>
    if agrees tol a b && agrees tol b c && agrees tol a c then s.acceptPulse stamp a
    else (s.satInc .SWP_CNT0 [] 31 16 1).updSwp (fun w => { w with lastCand := some stamp, rejRun := run })
  | _ => (s.satInc .SWP_CNT0 [] 31 16 1).updSwp (fun w => { w with lastCand := some stamp, rejRun := run })

/-- SYNC_IDX_PULSE; the time stamp counts sweep cycles. -/
def State.syncPulse (s : State) (stamp width : Nat) (falling : Bool) : State :=
  if !s.swpEn || !s.swpIdx || decide (width < 100) || falling != s.flag .SWP_IDX [] 0 then s
  else
    match s.swp.lastAcc with
    | none =>
      let s := s.startSweep .acquire ((s.swp.cycle - stamp) * 2 ^ 34 / s.period) 0 s.period
      s.updSwp (fun w => { w with tgt := w.pos, tgtRem := 0, lastAcc := some stamp, lastCand := some stamp, pulseSeen := true })
    | some last =>
      let i := (stamp - last) * 4
      let ref := s.swp.lastI.getD s.period
      if 10000000 ≤ i ∧ i ≤ 1000000000 ∧ agrees (s.fld .SWP_IDX [] 23 8) i ref then s.acceptPulse stamp i
      else s.rejectPulse stamp

/-! ### Enable, disable, loss of the timebase -/

/-- EN set: ACQUIRE; in SYNC_IDX mode the sweep count counts wraps from here (R60, R74). -/
def State.sweepStart (s : State) : State :=
  s.updSwp (fun w =>
    { Sweep.zero with st := .acquire, count := if s.swpIdx then 0 else w.count, rate := s.period, cycle := w.cycle, store := w.store, miss := w.miss })

/-- EN cleared: firing stops at once, IDLE, the sweep count stays (R74). -/
def State.sweepStop (s : State) : State :=
  s.updSwp (fun w => { w with st := .idle, running := false, due := [], left := [], fired := [], late := [] })

/-- The timebase loses synchronisation: a running sweep that follows it enters HOLDOVER (R61). -/
def State.sweepLoss (s : State) : State :=
  if s.swpEn ∧ !s.swpIdx ∧ s.swp.running ∧ s.swp.st ≠ .holdover then
    ((s.updSwp (fun w => { w with st := .holdover })).setFlag .SWP_EVT [] 1 true).signalU 11 1 0
  else s

/-- An entry committed with its PHASE at or behind the running phase first fires in the next sweep; one committed ahead of it may fire in this one (R65). -/
def State.ptCommitted (s : State) (i : Nat) : State :=
  let lo := s.rg (Reg.adr .SWP_PTi_LO [i])
  s.updSwp (fun w =>
    let late := w.late.filter (· ≠ i)
    { w with late := if w.running ∧ ptPhase lo ≤ s.phase then i :: late else late })

/-! ### The commands -/

/-- SWEEP_CYCLE (R62). -/
def execSweepCycle (s : State) : Host.Outcome State Fault Refusal := live s State.sweepCycle

/-- PHASE_WRAP (R56). -/
def execPhaseWrap (s : State) : Host.Outcome State Fault Refusal := live s State.phaseWrap

/-- SYNC_IDX_PULSE (R60). -/
def execSyncIdxPulse (stamp widthNs : Nat) (falling : Bool) (s : State) : Host.Outcome State Fault Refusal :=
  live s (fun s => s.syncPulse stamp widthNs falling)

end Sys2Proof.Machine
end

