-- ==== Sys2Proof/Machine/Firmware.lean ====
section
/-! DEFINITION. The scheduling firmware: scans, admission, launch, completion (R120, R318 to R334). -/

namespace Sys2Proof.Machine
open Sys2Proof

/-- A scheduler core as initiator (R365, R397). -/
def iniSch (c : Nat) : Initiator := ⟨.sch, BitVec.ofNat 8 (0x90 + c)⟩

/-! ### Accesses of a scheduler core, as the firewall judges them (R33, R365) -/

/-- A register write of core `c`, done by `f` unless it is DENIED. -/
def State.schWrite (s : State) (c a data : Nat) (f : State → State) : State :=
  if s.fwAllows .sch a 4 true then f s else s.accessError 3 (iniSch c) a data

/-- The value that a memory read of a scheduler core returns: 0 when it is DENIED. -/
def State.schRd (s : State) (a n : Nat) : Nat := if s.fwAllows .sch a n false then s.mem.rdLE a n else 0

/-- The record of a DENIED read of `n` bytes. -/
def State.schSee (s : State) (c a n : Nat) : State := if s.fwAllows .sch a n false then s else s.accessError 3 (iniSch c) a 0

/-- A memory write of core `c`; a closed aperture takes nothing (R169). -/
def State.schPut (s : State) (c a : Nat) (bs : List Byte) : State :=
  if !s.fwAllows .sch a bs.length true then s.accessError 3 (iniSch c) a (leNat (bs.take 4))
  else
    match s.region a with
    | .spad t => if s.apertureOpen t then s.spWr t (a - spadBase t) bs else s
    | _ => (s.memWrite (iniSch c) a bs).2

/-- A write of core `c` through the aperture of a tile (R169). -/
def State.schSpad (s : State) (c t off : Nat) (bs : List Byte) : State :=
  if !s.fwAllows .sch (spadBase t + off) bs.length true then s.accessError 3 (iniSch c) (spadBase t + off) (leNat (bs.take 4))
  else if s.apertureOpen t then s.spWr t off bs
  else s

def State.updFw (s : State) (f : Fw → Fw) : State := { s with fw := f s.fw }

/-! ### Parameter block and log (R318, R333, R334) -/

/-- The parameter block as a core reads it at its start. -/
def State.readParams (s : State) (c : Nat) : FwCore :=
  let b := schBase c + 0x3FF00
  ⟨s.mem.rdLE b 4 == 1, s.mem.rdLE (b + 8) 8, s.mem.rdLE (b + 16) 8, s.mem.rdLE (b + 24) 1, s.mem.rdLE (b + 25) 1, s.mem.rdLE (b + 32) 32, 0⟩

/-- The log ring is usable. -/
def FwCore.logOk (k : FwCore) : Bool := k.log % 32 == 0 && decide (6 ≤ k.llog) && decide (k.llog ≤ 16)

/-- A record goes into the core's log ring if its trace point is enabled and its level reaches LEVEL (R333). -/
def State.fwLog (s : State) (c point level a0 a1 : Nat) : State :=
  match s.fw.cores.find c with
  | none => s
  | some k =>
    if !k.logOk || !bit k.trace point || decide (level < k.level) then s
    else
      let m := k.m + 1
      let bs := leBytes 4 m ++ leBytes 1 point ++ leBytes 1 level ++ leBytes 2 s.phase ++ leBytes 4 s.swp.count ++ leBytes 4 0 ++ leBytes 8 a0 ++ leBytes 8 a1
      let s := s.updFw (fun f => { f with cores := f.cores.put c { k with m := m } })
      s.schPut c (k.log + 32 * ((m - 1) % 2 ^ k.llog)) bs

/-- A core leaves reset and reads its parameter block (R317, R318). -/
def State.fwStart (s : State) (c : Nat) : State :=
  let k := s.readParams c
  let s := s.updFw (fun f => { f with cores := f.cores.put c k })
  if k.valid then s else s.fwLog c 0x0C 3 0xFFFF 0

/-- A core is reset: what its firmware held is gone (R317). -/
def State.fwStop (s : State) (c : Nat) : State :=
  s.updFw (fun f => { f with cores := f.cores.erase c, jobs := f.jobs.filter (fun j => j.core ≠ c) })

/-- The core runs and its parameter block is valid. -/
def State.fwRuns (s : State) (c : Nat) : Bool := match s.fw.cores.find c with | some k => k.valid | none => false

/-! ### Ring table (R321) -/

structure Ring where
  en : Bool
  home : Nat
  mctx : Nat
  pick : Nat
  slog : Nat
  clog : Nat
  cnt : Nat
  sring : Nat
  cring : Nat
  head : Nat
  deriving DecidableEq, Repr

/-- The ring table entry of queue `q` at `rtab`. -/
def State.ring (s : State) (rtab q : Nat) : Ring :=
  let a := rtab + 64 * q
  let r (o n : Nat) : Nat := s.schRd (a + o) n
  ⟨r 0 1 % 2 == 1, r 1 1, r 2 1, max 1 (min 64 (r 3 1)), r 4 1, r 5 1, r 6 2 % 16384, r 8 8, r 16 8, r 24 4⟩

/-- MMU_CTX, SLOG and CLOG are in their ranges; otherwise the entry counts as disabled (R321). -/
def Ring.sound (r : Ring) : Bool :=
  decide (1 ≤ r.mctx) && decide (r.mctx ≤ 63) && decide (3 ≤ r.slog) && decide (r.slog ≤ 12) && decide (3 ≤ r.clog) && decide (r.clog ≤ 12)

def State.fwQueue (s : State) (q : Nat) : FwQueue := s.fw.queues.get ⟨0, []⟩ q
def State.setFwQueue (s : State) (q : Nat) (v : FwQueue) : State := s.updFw (fun f => { f with queues := f.queues.put q v })

/-! ### Completion records (R331, R332) -/

structure Rec where
  q : Nat
  core : Nat
  seq : Nat
  tag : Nat
  status : Nat
  fault : Nat × Nat × Nat
  lateness : Nat
  pub : Nat
  pubSweep : Nat
  deriving DecidableEq, Repr

/-- A completion record is written whole, then the queue's counter counts it. -/
def State.record (s : State) (r : Rec) : State :=
  match s.fw.cores.find r.core with
  | none => s
  | some k =>
    let g := s.ring k.rtab r.q
    let fq := s.fwQueue r.q
    let n := fq.n + 1
    let bs := leBytes 4 n ++ leBytes 4 r.seq ++ leBytes 2 r.tag ++ leBytes 1 r.status ++ leBytes 1 r.fault.1 ++ leBytes 1 r.fault.2.1 ++ leBytes 1 r.fault.2.2
      ++ leBytes 2 (min r.lateness 65535) ++ leBytes 8 r.pub ++ leBytes 4 r.pubSweep ++ leBytes 2 s.phase ++ leBytes 2 0
    let s := s.setFwQueue r.q { fq with n := n }
    let s := s.schPut r.core (g.cring + 32 * ((n - 1) % 2 ^ g.clog)) bs
    (s.schWrite r.core (Reg.adr .RNT_ADDk [g.cnt]) 1 (fun s => s.counterNow g.cnt (.add 1))).fwLog r.core 8 1 r.q r.status

/-- A job's output set becomes the one last published for its tag (R331). -/
def State.publish (s : State) (j : Job) : State :=
  let fq := s.fwQueue j.q
  s.setFwQueue j.q { fq with pubs := (j.tag, j.out, j.rel.1) :: fq.pubs.filter (fun p => p.1 ≠ j.tag) }

/-- A scan for core `c`: at most one waits behind one that is to begin (R326). -/
def State.askScan (s : State) (c cause : Nat) : State :=
  let mine := s.events.filter (fun e => match e with | .scan d _ => d == c | _ => false)
  if 2 ≤ mine.length then s else s.tell (.scan c cause)

/-! ### Scan (R322 to R327) -/

/-- ENTRY records at an address. -/
def State.entryRecords (s : State) : Nat → Nat → List (JobCtx × Bool)
  | 0, _ => []
  | n + 1, a =>
    (⟨s.schRd a 1, s.schRd (a + 1) 1, s.schRd (a + 2) 1, s.schRd (a + 8) 8⟩, s.schRd (a + 4) 4 == 0) :: s.entryRecords n (a + 16)

/-- SCHED header: records, expected arrivals, counter ranges as (first, count), zero fields (R325). -/
structure SchedHdr where
  nrec : Nat
  expect : Nat
  ranges : List (Nat × Nat)
  ok : Bool
  deriving DecidableEq, Repr

def State.schedHdr (s : State) (a : Nat) : SchedHdr :=
  let r (o n : Nat) : Nat := s.schRd (a + o) n
  let lr := (upTo 4).map (fun c => (r (8 + 4 * c) 2, r (10 + 4 * c) 2))
  let g := (r 24 2, r 26 2)
  let lok := (upTo 4).all (fun c => match lr[c]? with
    | some (f, n) => n == 0 || (decide (c * 3584 ≤ f) && decide (f + n ≤ c * 3584 + 3584))
    | none => true)
  let gok := g.2 == 0 || (decide (4 * 3584 ≤ g.1) && decide (g.1 + g.2 ≤ 16384))
  ⟨r 0 4, r 4 2, (lr ++ [g]).filter (fun p => p.2 ≠ 0), decide (r 0 4 ≤ 4096) && r 6 2 == 0 && r 28 4 == 0 && lok && gok⟩

/-- A SCHED record. -/
inductive SchedRec where
  | scale (gtile first count va : Nat) | counter (k v : Nat) | window (w peer : Nat) (rd wr : Bool) (cnt base limit : Nat) | bad
  deriving DecidableEq, Repr

def State.schedRec (s : State) (ranges : List (Nat × Nat)) (a : Nat) : SchedRec :=
  let r (o n : Nat) : Nat := s.schRd (a + o) n
  match r 0 1 with
  | 1 => if r 6 2 == 0 && r 16 16 == 0 && decide (r 1 1 < 128) then .scale (r 1 1) (r 2 2) (r 4 2) (r 8 8) else .bad
  | 2 =>
    if r 1 1 == 0 && r 8 24 == 0 && ranges.any (fun p => decide (p.1 ≤ r 2 2) && decide (r 2 2 < p.1 + p.2)) then .counter (r 2 2) (r 4 4) else .bad
  | 3 => if r 6 2 == 0 && r 24 8 == 0 && decide (r 3 1 < 4) then .window (r 1 1) (r 2 1) (bit (r 3 1) 0) (bit (r 3 1) 1) (r 4 2) (r 8 8) (r 16 8) else .bad
  | _ => .bad

def State.schedRecs (s : State) (a : Nat) (h : SchedHdr) : List SchedRec :=
  (List.range h.nrec).map (fun i => s.schedRec h.ranges (a + 32 + 32 * i))

/-- No two ENTRY records name the same tile and context (R327). -/
def distinctCtx : List JobCtx → Bool
  | [] => true
  | e :: es => !es.any (fun f => f.gtile == e.gtile && f.ctx == e.ctx) && distinctCtx es

/-- The job of a RUN entry at `a`, none where R327 refuses it. -/
def State.runEntry (s : State) (q core seq a : Nat) (g : Ring) : Option Job :=
  let r (o n : Nat) : Nat := s.schRd (a + o) n
  let n := r 10 2
  let ents := s.entryRecords (min n 512) (r 32 8)
  let h := s.schedHdr (r 40 8)
  let ok := decide (r 5 1 ≤ 3) && decide (1 ≤ n) && decide (n ≤ 512) && r 12 4 == 0 && r 48 80 == 0 && r 32 8 % 16 == 0 && r 40 8 % 16 == 0
    && h.ok && (s.schedRecs (r 40 8) h).all (fun x => x != .bad)
    && ents.all (fun e => decide (e.1.gtile < 128) && decide (e.1.ctx < 4) && e.2) && distinctCtx (ents.map (·.1))
  if ok then some ⟨q, core, seq, false, r 6 2, r 5 1, r 8 2, r 16 8, r 24 8, r 40 8, g.mctx, ents.map (·.1), .taken, 0, (0, 0), [], [], false, none, none, false⟩
  else none

/-- A core writes FAB_KILL with a JID. -/
def State.fwKill (s : State) (c jid : Nat) : State := s.schWrite c (Reg.adr .FAB_KILL []) (2 ^ 31 + jid) (fun s => s.killRequest jid)

/-- A KILL entry kills every admitted or running job of its queue with its tag, and its own record reads OK (R324, R330). -/
def State.killEntry (s : State) (q core seq tag : Nat) : State :=
  let hit (j : Job) : Bool := j.q == q && j.tag == tag && j.jid != 0
  let js := s.fw.jobs.filter hit
  let s := s.updFw (fun f => { f with jobs := f.jobs.map (fun j => if hit j then { j with killed := true, launch := [] } else j) })
  let s := js.foldl (fun s j => s.fwKill core j.jid) s
  s.record ⟨q, core, seq, tag, 0, (0, 0, 0), 0, 0, 0⟩

/-- One taken entry (R324, R327). -/
def State.takeEntry (s : State) (q core seq a : Nat) (g : Ring) : State :=
  let s := s.fwLog core 2 0 q seq
  let tag := s.schRd (a + 6) 2
  let refuse : State := (s.record ⟨q, core, seq, tag, 7, (0, 0, 0), 0, 0, 0⟩).fwLog core 0x0B 2 q seq
  match s.schRd (a + 4) 1 with
  | 1 =>
    let n := min (s.schRd (a + 10) 2) 512
    let s := (s.schSee core (s.schRd (a + 32) 8) (16 * n)).schSee core (s.schRd (a + 40) 8) 32
    match s.runEntry q core seq a g with
    | some j => s.updFw (fun f => { f with jobs := f.jobs ++ [j] })
    | none => refuse
  | 2 => s.updFw (fun f => { f with jobs := f.jobs ++
      [⟨q, core, seq, true, tag, 0, 0, 0, 0, 0, g.mctx, [], .taken, 0, (0, 0), [], [], false, none, none, false⟩] })
  | 3 => s.killEntry q core seq tag
  | _ => refuse

/-- Up to `n` posted entries of a queue are taken (R322). -/
def State.takeEntries (s : State) (q core rtab : Nat) : Nat → State
  | 0 => s
  | n + 1 =>
    let g := s.ring rtab q
    let a := g.sring + 128 * (g.head % 2 ^ g.slog)
    let seq := (g.head + 1) % 2 ^ 32
    if s.schRd a 4 ≠ seq then s.schSee core a 128
    else
      let s := s.schPut core (rtab + 64 * q + 24) (leBytes 4 seq)
      (s.takeEntry q core seq a g).takeEntries q core rtab n

/-- One queue of a scan (R321, R322). -/
def State.scanQueue (s : State) (core rtab q : Nat) : State :=
  let g := s.ring rtab q
  if !g.sound then s.fwLog core 0x0C 3 q 0
  else
    let s := if g.head = 0 then s.setFwQueue q ⟨0, []⟩ else s
    s.takeEntries q core rtab g.pick

/-- SCHEDULER_SCAN: the next scan that core `c` has been asked for (R326). -/
def State.schedulerScan (s : State) (c : Nat) : State :=
  match takeFirst (fun (e : SchEv) => match e with | .scan d _ => d == c | _ => false) s.events with
  | some (.scan _ cause, rest) =>
    let s := { s with events := rest }
    match s.fw.cores.find c with
    | none => s
    | some k =>
      if !k.valid then s
      else
        let b := schBase c + 0x3FF00
        let s := s.updFw (fun f => { f with cores := f.cores.put c { k with level := s.mem.rdLE (b + 25) 1, trace := s.mem.rdLE (b + 32) 32 } })
        let s := foldState (fun s q => s.schSee c (k.rtab + 64 * q) 64) s (upTo 256)
        let qs := (upTo 256).filter (fun q => let g := s.ring k.rtab q; g.en && g.home == c)
        let s := s.fwLog c 1 0 cause qs.length
        foldState (fun s q => s.scanQueue c k.rtab q) s qs
  | _ => s

/-! ### Admission (R120, R327) -/

/-- The physical tile of a global tile. -/
def State.physG (s : State) (g : Nat) : Nat := s.physOf (g / 32) (g % 32)

/-- JIDs from 1 to 255 that nothing carries (R184, R327). -/
def State.freeJids (s : State) : List Nat :=
  let inTiles := (s.listed .TILE_JOB).filterMap (fun is => if s.flag .TILE_JOB is 8 then some (s.fld .TILE_JOB is 7 0) else none)
  let inJobs := s.fw.jobs.map (·.jid)
  let inKill := s.fab.killPend ++ (match s.fab.kill with | some r => [r.jid] | none => [])
  ((upTo 256).drop 1).filter (fun j => !inTiles.contains j && !inJobs.contains j && !inKill.contains j)

/-- The counters of a list of ranges. -/
def countersOf (rs : List (Nat × Nat)) : List Nat := (rs.map (fun p => (List.range p.2).map (· + p.1))).flatten

/-- Why a job waits: 1 tile, 2 counter, 3 JID (R327). -/
def State.waitsFor (s : State) (j : Job) : Option Nat :=
  let h := s.schedHdr j.sched
  if j.ents.any (fun e => s.flag .TILE_JOB (tix (s.physG e.gtile)) 8) then some 1
  else if (s.listed .RNT_CFGk).any (fun k => s.flag .RNT_CFGk k 8 && h.ranges.any (fun p => decide (p.1 ≤ nth k 0) && decide (nth k 0 < p.1 + p.2))) then some 2
  else if s.freeJids = [] then some 3
  else none

def State.updTaken (s : State) (q seq : Nat) (f : Job → Job) : State :=
  s.updFw (fun w => { w with jobs := updFirst (fun j => j.q == q && j.seq == seq) f w.jobs })

def State.dropJob (s : State) (j : Job) : State := s.updFw (fun w => { w with jobs := w.jobs.filter (fun i => i.q ≠ j.q ∨ i.seq ≠ j.seq) })

/-- The 32 bindings of a cluster name distinct slots (table of CLU_REMAPl). -/
def State.bindingsDistinct (s : State) (c : Nat) : Bool :=
  (upTo 32).all (fun i => (upTo i).all (fun j => s.fld .CLU_REMAPl [c, i] 5 0 != s.fld .CLU_REMAPl [c, j] 5 0))

/-- The tile is enabled and starts its brine unless it is on already (R94). -/
def State.enableTile (s : State) (t : Nat) : State :=
  if s.flag .TILE_CTRL (tix t) 0 ∨ !s.bindingsDistinct (clusterOf t) then s
  else
    let s := s.setFlag .TILE_CTRL (tix t) 0 true
    s.updTile t (fun x => { x with brining := true, ready := false, everOn := true })

/-- A core writes a register; the fields stand in `v` already masked. -/
def State.fwReg (s : State) (c : Nat) (r : Reg) (is : List Nat) (v : Nat) : State := s.schWrite c (r.adr is) v (fun s => s.setReg r is v)

/-- A core writes both halves of a 64-bit value. -/
def State.fwReg64 (s : State) (c : Nat) (lo hi : Reg) (is : List Nat) (v : Nat) : State :=
  s.schWrite c (hi.adr is) (v / 2 ^ 32 % 2 ^ 32) (fun s => s.setReg64 lo hi is v)

/-- A core sets a counter. -/
def State.fwSetCtr (s : State) (c k v : Nat) : State := s.schWrite c (Reg.adr .RNT_VALk [k]) v (fun s => s.counterNow k (.set v))

/-- COUNTER and WINDOW records of an admission (R327 steps 3 and 5). -/
def State.applyRec (s : State) (c jid : Nat) : SchedRec → State
  | .counter k v => if 16383 < k then s.accessError 2 (iniSch c) (Reg.adr .RNT_VALk [k]) v else s.fwSetCtr c k v
  | .window w peer rd wr cnt base limit =>
    let s := s.fwReg64 c .FAB_WINw_BASE_LO .FAB_WINw_BASE_HI [w] (base % 2 ^ 44)
    let s := s.fwReg64 c .FAB_WINw_LIMIT_LO .FAB_WINw_LIMIT_HI [w] (limit % 2 ^ 44)
    let s := s.fwReg c .FAB_WINw_CFG [w] (jid * 2 ^ 24 + peer * 2 ^ 16 + b2n rd * 2 ^ 15 + b2n wr * 2 ^ 14 + cnt % 2 ^ 14)
    s.schWrite c (Reg.adr .FAB_WINw_CTRL [w]) 1 (fun s => s.setFlag .FAB_WINw_CTRL [w] 0 true)
  | _ => s

/-- The launch block of a context (R120). -/
def launchBlock (j : Job) (relPhase relSweep : Nat) : List Byte :=
  leBytes 8 j.arg ++ leBytes 2 j.tag ++ leBytes 1 j.q ++ leBytes 1 j.dlSweeps ++ leBytes 2 j.dlPhase ++ leBytes 2 relPhase ++ leBytes 8 relSweep ++ leBytes 40 0

/-- Steps 1 to 5 of an admission with a JID. -/
def State.admitJob (s : State) (j : Job) (jid : Nat) : State :=
  let h := s.schedHdr j.sched
  let recs := s.schedRecs j.sched h
  let s := j.ents.foldl (fun s e =>
    let t := s.physG e.gtile
    let s := s.fwReg j.core .TILE_JOB (tix t) (256 + jid)
    s.fwReg j.core .TILE_CTXk_CFG (tix t ++ [e.ctx]) (j.mctx % 64 * 256 + e.prio % 4)) s
  let s := (countersOf h.ranges).foldl (fun s k =>
    if 16383 < k then s.accessError 2 (iniSch j.core) (Reg.adr .RNT_VALk [k]) 0 else (s.fwSetCtr j.core k 0).fwReg j.core .RNT_CFGk [k] (256 + jid)) s
  let s := recs.foldl (fun s r => match r with | .counter .. => s.applyRec j.core jid r | _ => s) s
  let s := s.schWrite j.core (Reg.adr .FAB_BARj [jid]) h.expect (fun s => s.barWrite jid h.expect)
  let s := recs.foldl (fun s r => match r with | .window .. => s.applyRec j.core jid r | _ => s) s
  let loads := recs.filterMap (fun r => match r with | .scale g f c va => some (g, f, c, va) | _ => none)
  s.updTaken j.q j.seq (fun j => { j with jid := jid, loads := loads, st := .loading })

/-- Step 6: scale loads start on tiles whose loader is idle; step 7 and the pick-up follow the last. -/
def State.admitLoads (s : State) (j : Job) : State :=
  let go := j.loads.foldl (fun (p : State × List (Nat × Nat × Nat × Nat)) l =>
    let t := p.1.physG l.1
    if p.1.flag .TILE_SFLD_CTL (tix t) 30 then (p.1, p.2 ++ [l])
    else
      let v := j.mctx % 64 * 2 ^ 21 + l.2.2.1 % 2048 * 1024 + l.2.1 % 1024
      let s := p.1.fwReg64 j.core .TILE_SFLD_LO .TILE_SFLD_HI (tix t) (l.2.2.2 % 2 ^ 48)
      (s.schWrite j.core (Reg.adr .TILE_SFLD_CTL (tix t)) (2 ^ 31 + v) (fun s => (s.setReg .TILE_SFLD_CTL (tix t) v).startScaleLoad t), p.2)) (s, [])
  let s := go.1.updTaken j.q j.seq (fun j => { j with loads := go.2 })
  let busy := j.ents.any (fun e => s.flag .TILE_SFLD_CTL (tix (s.physG e.gtile)) 30)
  if go.2 ≠ [] ∨ busy then s
  else
    let s := j.ents.foldl (fun s e => s.schSpad j.core (s.physG e.gtile) (0xFFF00 + 64 * e.ctx) (launchBlock j 0 0)) s
    (s.updTaken j.q j.seq (fun j => { j with st := .admitted })).fwLog j.core 3 1 j.q j.jid

/-- JOB_ADMIT: the first entry of the queue that is not admitted (R324, R327). A named tile that is off is enabled first, and its admission waits for READY.
The core's register writes wait for clusters that are not in RUN, and wake them (R391). A job that waits writes trace point 0x04 once, with the first cause. -/
def State.jobAdmit (s : State) (q : Nat) : State :=
  match s.fw.jobs.find? (fun j => j.q == q && (j.st == .taken || j.st == .loading)) with
  | none => s
  | some j =>
    if !s.fwRuns j.core then s
    else if j.ents.any (fun e => !s.clusterRuns (e.gtile / 32)) then j.ents.foldl (fun s e => s.wakeFor (e.gtile / 32)) s
    else if j.st = .loading then s.admitLoads j
    else if j.fence then
      if (s.fw.jobs.find? (fun i => i.q == q)).map (·.seq) = some j.seq then (s.record ⟨q, j.core, j.seq, j.tag, 0, (0, 0, 0), 0, 0, 0⟩).dropJob j else s
    else if s.fw.jobs.any (fun i => i.q == q && i.fence && decide (i.seq < j.seq)) then s
    else
      match s.waitsFor j with
      | some why => if j.traced then s else (s.updTaken j.q j.seq (fun j => { j with traced := true })).fwLog j.core 4 1 q why
      | none =>
        let ts := j.ents.map (fun e => s.physG e.gtile)
        if ts.any (fun t => !(s.tile t).ready) then
          ts.foldl (fun s t => s.schWrite j.core (Reg.adr .TILE_CTRL (tix t)) 1 (fun s => s.enableTile t)) s
        else
          let (v, s) := s.free 64
          let js := s.freeJids
          let jid := js.getD (v % js.length) 1
          let s := s.admitJob j jid
          match s.fw.jobs.find? (fun i => i.q == q && i.seq == j.seq) with
          | some j => s.admitLoads j
          | none => s

/-! ### Release and launch (R68, R70, R71, R328) -/

/-- The clusters of a job's contexts. -/
def Job.clusters (j : Job) : List Nat := ((j.ents.map (fun e => e.gtile / 32)).eraseDups)

/-- One picked-up job is released at a point, if the deadline store has room (R68, R70, R71). -/
def State.releaseJob (s : State) (j : Job) (sweep phase : Nat) : State :=
  if 4096 ≤ s.swp.store.length then s.satInc .SWP_CNT1 [] 31 16 1
  else
    let e : DlEnt := ⟨j.jid, j.q, j.tag, sweep + j.dlSweeps, j.dlPhase, false⟩
    let s := s.updSwp (fun w => { w with store := w.store ++ [e] })
    let s := s.updTaken j.q j.seq (fun j => { j with st := .released, rel := (sweep, phase), launch := j.clusters })
    if pointLe (e.sweep, e.phase) (sweep, phase) then s.miss e sweep phase else s

/-- RELEASE: every job of the queue that is picked up and not released (R66, R68). -/
def State.releaseQueue (s : State) (q sweep phase : Nat) : State :=
  (s.fw.jobs.filter (fun j => j.q == q && j.st == .admitted && !j.killed)).foldl (fun s j => s.releaseJob j sweep phase) s

/-- The contexts of a released job in cluster `c` get their release point, ENTRY and START (R328). -/
def State.launchJob (s : State) (c : Nat) (j : Job) : State :=
  let es := j.ents.filter (fun e => e.gtile / 32 == c)
  let s := es.foldl (fun s e =>
    let t := s.physG e.gtile
    let s := s.schSpad c t (0xFFF00 + 64 * e.ctx + 0x0E) (leBytes 2 j.rel.2 ++ leBytes 8 j.rel.1)
    let s := s.fwReg64 c .TILE_CTXk_ENTRY_LO .TILE_CTXk_ENTRY_HI (tix t ++ [e.ctx]) (e.va % 2 ^ 48 / 8 * 8)
    s.schWrite c (Reg.adr .TILE_CTXk_CMD (tix t ++ [e.ctx])) 1 (fun s => if (s.tile t).ready ∧ !(s.tile t).killed then s.startCtx t e.ctx else s)) s
  (s.updTaken j.q j.seq (fun j => { j with launch := j.launch.filter (· ≠ c) })).fwLog c 6 0 j.jid es.length

/-- JOB_LAUNCH: core `c` acts on the release of queue `q`. -/
def State.jobLaunch (s : State) (c q : Nat) : State :=
  if !s.fwRuns c then s
  else if !s.clusterRuns c then (if s.fw.jobs.any (fun j => j.q == q && j.st == .released && j.launch.contains c) then s.wakeFor c else s)
  else
    let js := s.fw.jobs.filter (fun j => j.q == q && j.st == .released && j.launch.contains c)
    if js = [] then s else js.foldl (fun s j => s.launchJob c j) (s.fwLog c 5 1 q js.length)

/-! ### Completion (R69, R329 to R332) -/

/-- Every context that the job's ENTRY records name is HALTED. -/
def State.allHalted (s : State) (j : Job) : Bool := j.ents.all (fun e => (s.ctxOf (s.physG e.gtile) e.ctx).st == .halted)

def State.jobOfJid (s : State) (jid : Nat) : Option Job := s.fw.jobs.find? (fun j => j.jid == jid && jid != 0)

/-- Phase units from a deadline point to now. -/
def State.lateBy (s : State) (e : DlEnt) : Nat := s.swp.count * 65536 + s.phase - (e.sweep * 65536 + e.phase)

/-- JOB_COMPLETION_REPORT: the completion of a job reaches the sweep unit (R69). -/
def State.completionReport (s : State) (jid : Nat) : State :=
  match s.jobOfJid jid with
  | none => s
  | some j =>
    if j.st ≠ .released ∨ j.launch ≠ [] ∨ j.done.isSome ∨ j.miss.isSome ∨ j.killed ∨ !s.allHalted j then s
    else
      let e := s.swp.store.find? (fun d => d.jid == jid)
      let l := match e with | some d => if d.missed then s.lateBy d + 1 else 0 | none => 0
      let s := s.updSwp (fun w => { w with store := w.store.filter (fun d => d.jid ≠ jid) })
      s.updTaken j.q j.seq (fun j => { j with done := some l })

/-- The events of a job's tiles are spent. -/
def State.spendEvents (s : State) (j : Job) : State :=
  let ts := j.ents.map (fun e => s.physG e.gtile)
  { s with events := s.events.filter (fun e => match e with | .halted t _ => !ts.contains t | .fault t _ => !ts.contains t | _ => true) }

/-- The tile clock of the last halt that was signalled. -/
def State.lastHalt (s : State) (j : Job) : Nat :=
  match (s.events.filterMap (fun e => match e with | .halted t _ => if j.ents.any (fun x => s.physG x.gtile == t) then some t else none | _ => none)).getLast? with
  | some t => (s.tile t).clk
  | none => 0

/-- JOB_COMPLETE: the report, the record, the publication, the kill of the JID, and a scan (R326, R329, R331). -/
def State.jobComplete (s : State) (jid : Nat) : State :=
  let s := s.completionReport jid
  match s.jobOfJid jid with
  | none => s
  | some j =>
    match j.done with
    | none => s
    | some l =>
      if !s.fwRuns j.core ∨ j.miss.isSome ∨ j.killed then s
      else
        let s := s.fwLog j.core 7 0 jid (s.lastHalt j)
        let s := s.record ⟨j.q, j.core, j.seq, j.tag, if l = 0 then 0 else 1, (0, 0, 0), l - 1, j.out, j.rel.1⟩
        let s := s.publish j
        let s := (s.fwKill j.core jid).fwLog j.core 0xA 2 jid 0
        ((s.spendEvents j).dropJob j).askScan j.core 1

/-- The first fault that the home core learns of: code, global tile, context (R330). -/
def State.firstFault (s : State) (j : Job) : Option (Nat × Nat × Nat) :=
  s.events.findSome? (fun e => match e with
    | .fault t k => (j.ents.find? (fun x => s.physG x.gtile == t)).map (fun x => (s.fld .TILE_CTXk_FAULT (tix t ++ [k]) 23 16, x.gtile, k))
    | _ => none)

/-- The end of a job by a cause that holds: its record, its kill, a scan (R330). -/
def State.endJob (s : State) (j : Job) (status cause : Nat) (f : Nat × Nat × Nat) : State :=
  let pub := if status = 3 then (s.published j.q j.tag).getD (0, 0) else (0, 0)
  let s := s.updSwp (fun w => { w with store := w.store.filter (fun d => d.jid ≠ j.jid) })
  let s := if f.1 = 0 then s else s.fwLog j.core 9 3 j.jid (f.1 * 65536 + f.2.1 * 256 + f.2.2)
  let s := s.record ⟨j.q, j.core, j.seq, j.tag, status, f, 0, pub.1, pub.2⟩
  let s := (s.fwKill j.core j.jid).fwLog j.core 0xA 2 j.jid cause
  ((s.spendEvents j).dropJob j).askScan j.core 1

/-- JOB_END: a miss decides the status before a fault does, and the fault code is still recorded (R330). -/
def State.jobEnd (s : State) (jid : Nat) (cause : EndCause) : State :=
  match s.jobOfJid jid with
  | none => s
  | some j =>
    let f := s.firstFault j
    if !s.fwRuns j.core then s
    else
      match cause with
      | .fault => match f with
        | some v => s.endJob j (j.miss.getD 5) 1 v
        | none => s
      | .killEntry => if j.killed then s.endJob j (j.miss.getD 6) 2 (f.getD (0, 0, 0)) else s
      | .miss => match j.miss with
        | some st => s.endJob j st 3 (f.getD (0, 0, 0))
        | none => s

/-! ### The commands -/

/-- SCHEDULER_SCAN (R326). -/
def execSchedulerScan (c : Fin 4) (s : State) : Host.Outcome State Fault Refusal := live s (fun s => s.schedulerScan c.val)

/-- JOB_ADMIT (R327). -/
def execJobAdmit (q : Fin 256) (s : State) : Host.Outcome State Fault Refusal := live s (fun s => s.jobAdmit q.val)

/-- JOB_LAUNCH (R328). -/
def execJobLaunch (c : Fin 4) (q : Fin 256) (s : State) : Host.Outcome State Fault Refusal := live s (fun s => s.jobLaunch c.val q.val)

/-- JOB_COMPLETION_REPORT (R69). -/
def execJobCompletionReport (jid : BitVec 8) (s : State) : Host.Outcome State Fault Refusal := live s (fun s => s.completionReport jid.toNat)

/-- JOB_COMPLETE (R329). -/
def execJobComplete (jid : BitVec 8) (s : State) : Host.Outcome State Fault Refusal := live s (fun s => s.jobComplete jid.toNat)

/-- JOB_END (R330). -/
def execJobEnd (jid : BitVec 8) (cause : EndCause) (s : State) : Host.Outcome State Fault Refusal := live s (fun s => s.jobEnd jid.toNat cause)

end Sys2Proof.Machine
end

