-- ==== Sys2Proof/Machine/Network.lean ====
section
/-! DEFINITION. The NET and PCI blocks: ports, timebase, gates, redundancy, peers, VWP, transmit rings, PCIe (R335 to R349, R410, R439). -/

namespace Sys2Proof.Machine
open Sys2Proof

def State.updNet (s : State) (f : Net → Net) : State := { s with net := f s.net }

/-- SEC_GATE.OPEN (R355). -/
def State.gateOpen (s : State) : Bool := s.flag .SEC_GATE [] 0

def State.ethLink (s : State) (p : Nat) : Bool := s.flag .NET_PORTp_STAT [p] 0

def State.pcieLink (s : State) : Bool := s.flag .PCI_STAT [] 0

/-! ### Links (R335, R410) -/

/-- LINK of an Ethernet port goes to 0: a loss signals LINK code 1 (R410). -/
def State.ethDown (s : State) (p : Nat) : State :=
  if s.ethLink p then (s.setFlag .NET_PORTp_STAT [p] 0 false).signal 8 1 0xC8 p else s

def State.ethLinkChange (s : State) (p : Nat) (up : Bool) : State :=
  if up then (if s.flag .NET_PORTp_CFG [p] 0 then s.setFlag .NET_PORTp_STAT [p] 0 true else s) else s.ethDown p

/-- A write of NET_PORTp_CFG has replaced `old`: a port that is disabled, or whose SPEED or MS changes, loses its link. -/
def State.portCfgWritten (s : State) (p old : Nat) : State :=
  let new := s.reg .NET_PORTp_CFG [p]
  if !bit new 0 ∨ bits old 4 2 ≠ bits new 4 2 then s.ethDown p else s

/-! ### Vehicle time (R336) -/

/-- NET_TCFG.EN has changed: ACQUIRE, or DISABLED, which is a loss of synchronisation for the sweep unit. -/
def State.tbEnable (s : State) (on : Bool) : State :=
  if on then s.updNet (fun n => { n with tb := .acquire, goods := 0, first := false })
  else
    let s := if s.net.tb = .sync then s.sweepLoss else s
    s.updNet (fun n => { n with tb := .disabled, goods := 0 })

/-- SYNC to HOLDOVER. -/
def State.tbLoss (s : State) : State :=
  if s.net.tb = .sync then (s.updNet (fun n => { n with tb := .holdover, goods := 0, first := true })).sweepLoss else s

/-- The timebase moves toward gPTP time by a part of the measured offset that R336 does not state (log 30). -/
def State.tbServo (s : State) (off : Int) : State :=
  let (v, s) := s.free 64
  let d : Int := (v % (off.natAbs + 1) : Nat)
  s.updNet (fun n => { n with time := ((n.time : Int) + (if off < 0 then -d else d)).toNat })

/-- OFFSET as NET_TSTAT shows it: signed, clamped to 32,767 either way. -/
def clampOffset (off : Int) : Nat := (max (-32767) (min 32767 off) % 65536).toNat

/-- A valid Sync message with its measured offset. -/
def State.gptpSync (s : State) (off : Int) : State :=
  if s.net.tb = .disabled then s
  else
    let s := s.setFld .NET_TSTAT [] 31 16 (clampOffset off)
    let small := decide (off.natAbs ≤ 100)
    match s.net.tb with
    | .disabled => s
    | .sync =>
      if 1000 < off.natAbs then s.tbLoss else s.tbServo off
    | .acquire =>
      let s := s.tbServo off
      let g := if small then s.net.goods + 1 else 0
      s.updNet (fun n => if 16 ≤ g then { n with tb := .sync, goods := 0 } else { n with goods := g })
    | .holdover =>
      if s.net.first ∧ 1000 < off.natAbs then
        s.updNet (fun n => { n with time := ((n.time : Int) + off).toNat, first := false, goods := 0 })
      else
        let s := s.tbServo off
        let g := if small then s.net.goods + 1 else 0
        s.updNet (fun n => if 16 ≤ g then { n with tb := .sync, goods := 0, first := false } else { n with goods := g, first := false })

/-! ### Gates (R337, R338) -/

def State.qbv (s : State) (p : Nat) : Qbv := s.net.qbv.get .zero p

def State.updQbv (s : State) (p : Nat) (f : Qbv → Qbv) : State := s.updNet (fun n => { n with qbv := n.qbv.put p (f (s.qbv p)) })

/-- The administrative list and cycle as the registers give them. -/
def State.admList (s : State) (p : Nat) : GateList :=
  let n := max 1 (min 64 (s.fld .NET_QBVp_CTRL [p] 15 8))
  ⟨(upTo n).map (fun k => (s.fld .NET_QBVp_GCLk [p, k] 31 24, s.fld .NET_QBVp_GCLk [p, k] 23 0)), max 1000 (min 1000000000 (s.reg .NET_QBVp_CYCLE [p]))⟩

/-- The first of `t`, `t + cycle`, … that is not before `now`. -/
def firstCycle (t cycle now : Nat) : Nat := if now ≤ t then t else t + (now - t + cycle - 1) / cycle * cycle

/-- A write of NET_QBVp_CHG_HI hands over the administrative list (R338). -/
def State.gateHandOver (s : State) (p : Nat) : State :=
  let g := s.admList p
  s.updQbv p (fun q => { q with adm := some (g, firstCycle (s.reg64 .NET_QBVp_CHG_LO .NET_QBVp_CHG_HI [p]) g.cycle s.net.time) })

/-- GATE_LIST_CHANGE: once the time has come, the administrative list is operational and its first entry in force. -/
def State.gateListChange (s : State) (p : Nat) : State :=
  match (s.qbv p).adm with
  | some (g, t) => if t ≤ s.net.time then s.updQbv p (fun _ => ⟨g, 0, none⟩) else s
  | none => s

/-- GATE_INTERVAL: the next entry, or the first where the list or the cycle ends (R55, R337). -/
def State.gateInterval (s : State) (p : Nat) : State :=
  if !s.flag .NET_QBVp_CTRL [p] 0 then s
  else
    let q := s.qbv p
    let spent := ((q.oper.ents.take (q.idx + 1)).map (·.2)).sum
    s.updQbv p (fun q => { q with idx := if q.idx + 1 < q.oper.ents.length ∧ spent < q.oper.cycle then q.idx + 1 else 0 })

/-- The gate of a class of a port is open (R337, R338). -/
def State.classOpen (s : State) (p c : Nat) : Bool :=
  !s.flag .NET_QBVp_CTRL [p] 0 || bit ((s.qbv p).oper.ents.getD (s.qbv p).idx (0xFF, 0)).1 c

/-! ### Peers (R342) -/

/-- The entry is in use and of kind `k`. -/
def State.peerKind (s : State) (i k : Nat) : Bool :=
  s.flag .NET_PEERi_CFG [i] 7 && s.fld .NET_PEERi_CFG [i] 1 0 == k && k != 3

def State.peerValid (s : State) (i : Nat) : Bool := s.flag .NET_PEERi_CFG [i] 7 && s.fld .NET_PEERi_CFG [i] 1 0 != 3

/-- An Ethernet datagram belongs to peer `i`. -/
def State.datagramOf (s : State) (src : NetSrc) (secure : Bool) (i : Nat) : Bool :=
  s.peerKind i src.kind.toNat && decide (src.kind.toNat < 2) &&
  (upTo 4).all (fun j => s.reg .NET_PEERi_ADDRj [i, j] == (src.addr.getD j 0).toNat) &&
  s.fld .NET_PEERi_CFG [i] 31 16 == src.port.toNat && (secure || !s.flag .NET_PEERi_CFG [i] 4)

/-- The peer of a datagram: the lowest matching entry. -/
def State.peerOf (s : State) (src : NetSrc) (secure : Bool) : Option Nat := (upTo 256).find? (s.datagramOf src secure)

/-- The peer of a PCIe request. -/
def State.pciePeer (s : State) (rid : Nat) : Option (Fin 256) :=
  (List.finRange 256).find? (fun i => s.peerKind i.val 2 && s.fld .NET_PEERi_ADDRj [i.val, 0] 15 0 == rid)

/-! ### Frame redundancy (R341) -/

def State.recovOf (s : State) (i : Nat) : Recov := s.net.recov.get .zero i

def State.setRecov (s : State) (i : Nat) (r : Recov) : State := s.updNet (fun n => { n with recov := n.recov.put i r })

/-- Vector recovery with a history of 32: whether the frame is accepted. A frame without an R-TAG is discarded (log 31). -/
def State.recover (s : State) (i : Nat) (tag : Option (BitVec 16)) : Bool × State :=
  let r := s.recovOf i
  match tag with
  | none => (false, s)
  | some t =>
    let n := t.toNat
    if r.any then (true, s.setRecov i ⟨n, [n], false⟩)
    else
      let ahead := (n + 65536 - r.seq) % 65536
      let behind := (r.seq + 65536 - n) % 65536
      if ahead ≠ 0 ∧ ahead < 32 then (true, s.setRecov i ⟨n, n :: r.hist.filter (fun m => decide ((n + 65536 - m) % 65536 < 32)), false⟩)
      else if behind < 32 then
        if r.hist.contains n then (false, s.satInc .NET_CB_STAT [] 31 16 1)
        else (true, s.setRecov i { r with hist := n :: r.hist })
      else (false, s.satInc .NET_CB_STAT [] 15 0 1)

/-- CB_RECOVERY_RESET. -/
def State.recoveryReset (s : State) (i : Nat) : State :=
  if s.flag .NET_PEERi_CFG [i] 5 then s.setRecov i .zero else s

/-! ### VWP (R343, R344) -/

/-- A field of a VWP header, big-endian. -/
def vwpField (p : List Byte) (off n : Nat) : Nat := beNat ((p.drop off).take n)

def vwpOp (p : List Byte) : Nat := vwpField p 1 1
def vwpWin (p : List Byte) : Nat := vwpField p 2 1
def vwpOffset (p : List Byte) : Nat := vwpField p 8 8
def vwpLen (p : List Byte) : Nat := vwpField p 16 4
def vwpData (p : List Byte) : List Byte := p.drop 32

/-- The payload meets R343. -/
def vwpSound (p : List Byte) : Bool :=
  let op := vwpOp p
  let reason := vwpField p 20 4
  decide (32 ≤ p.length) && vwpField p 0 1 == 1 && decide (1 ≤ op) && decide (op ≤ 4) && vwpField p 3 1 == 0 &&
  decide (vwpOffset p < 2 ^ 32) && decide (1 ≤ vwpLen p) && decide (vwpLen p ≤ 8192) &&
  (vwpData p).length == (if op = 1 ∨ op = 3 then vwpLen p else 0) &&
  (if op = 4 then reason == 1 || reason == 2 else reason == 0) && vwpField p 24 8 == 0

/-- A reply: header of the READ with another OP, LEN and REASON, and data. -/
def vwpReply (req : List Byte) (op reason : Nat) (data : List Byte) : List Byte :=
  [1, BitVec.ofNat 8 op, BitVec.ofNat 8 (vwpWin req), 0] ++ (req.drop 4).take 16 ++ beBytes 4 reason ++ List.replicate 8 0 ++ data

def State.badDatagram (s : State) : State := s.satInc .NET_VWP_STAT [] 31 16 1

/-- The receive buffer of a port: 256 KiB (R335). -/
def State.rxBytes (s : State) (p : Nat) : Nat := ((s.net.rx.filter (fun m => m.port == p)).map (fun m => m.len)).sum

/-- An unfragmented datagram with a good checksum for the VWP port. -/
def State.vwpDatagram (s : State) (p len : Nat) (src : NetSrc) (secure : Bool) (tag : Option (BitVec 16)) (payload : List Byte) : State :=
  if !vwpSound payload then s.badDatagram
  else
    let peer := s.peerOf src secure
    let (ok, s) := match peer with
      | some i => if s.flag .NET_PEERi_CFG [i] 5 then s.recover i tag else (true, s)
      | none => (true, s)
    if ok ∧ vwpOp payload ≠ 4 then s.updNet (fun n => { n with rx := n.rx ++ [⟨p, len, peer, payload⟩] }) else s

/-- ETH_FRAME_RX (R335, R340 to R344). A frame that is no VWP datagram passes to software or to the timebase and leaves nothing behind. -/
def State.ethFrame (s : State) (p : Nat) (f : EthFrame) : State :=
  if !s.ethLink p ∨ 9018 < f.len then s
  else if 262144 < s.rxBytes p + f.len then s.satInc .NET_PORTp_STAT [p] 31 16 1
  else
    let sec := s.flag .NET_PORTp_CFG [p] 5
    if sec ∧ f.macsec = .failed then s.satInc .NET_PORTp_STAT [p] 15 8 1
    else if sec ∧ f.macsec = .unprotected then s
    else if !sec ∧ f.macsec ≠ .unprotected then s
    else
      match f.body with
      | .udp src dport fragment checksumOk payload =>
        if fragment ∨ !checksumOk then s.badDatagram
        else if s.flag .NET_VWP_CFG [] 0 ∧ dport.toNat = s.fld .NET_VWP_CFG [] 31 16 then s.vwpDatagram p f.len src sec f.rtag payload
        else s
      | .gptp => s
      | .other => s

/-- The oldest message that has not been applied: a WRITE or a READ, in the order of acceptance (R344). -/
def State.takeMsg (s : State) (op : Nat) (peer : Option Nat) (payload : List Byte) : Option State :=
  match takeFirst (fun (m : RxMsg) => vwpOp m.payload == 1 || vwpOp m.payload == 2) s.net.rx with
  | some (m, rest) =>
    if vwpOp payload = op ∧ m.peer = peer ∧ m.payload = payload then some (s.updNet (fun n => { n with rx := rest })) else none
  | none => none

/-- VWP_WRITE. -/
def State.vwpWrite (s : State) (peer : Option (Fin 256)) (payload : List Byte) : State :=
  match s.takeMsg 1 (peer.map (·.val)) payload with
  | some s => s.windowMessage (vwpWin payload) peer (vwpOffset payload) (vwpData payload)
  | none => s

/-- A reply goes out, or waits in its queue while the outputs are gated (R355). -/
def State.sendReply (s : State) (r : List Byte) : State :=
  s.updNet (fun n => if s.gateOpen then { n with lastReply := r } else { n with replies := n.replies ++ [r] })

/-- The output gate has opened: held replies leave in order. -/
def State.flushReplies (s : State) : State :=
  s.updNet (fun n => { n with replies := [], lastReply := n.replies.getLast?.getD n.lastReply })

/-- VWP_READ. -/
def State.vwpRead (s : State) (peer : Option (Fin 256)) (payload : List Byte) : State :=
  match s.takeMsg 2 (peer.map (·.val)) payload with
  | none => s
  | some s' =>
    match s.readWaits (vwpWin payload) peer (vwpOffset payload) (vwpLen payload) with
    | some d => s.wakeFor d
    | none =>
    let s := s'
    let r := match s.windowReadValue (vwpWin payload) peer (vwpOffset payload) (vwpLen payload) with
      | .dropped => vwpReply payload 4 1 []
      | .refused => vwpReply payload 4 2 []
      | .data bs => vwpReply payload 3 0 bs
    (s.windowRead (vwpWin payload) peer (vwpOffset payload) (vwpLen payload)).sendReply r

/-! ### Sending (R345, R346) -/

def iniNet : Initiator := ⟨.app, 0xC8⟩

/-- A write by the transmit engine: to vat, LPDDR5X or an SRAM under R303, to a scratchpad through its aperture (R169); the register space takes only words (R32, R33). -/
def State.dmaWrite (s : State) (ini : Initiator) (a : Nat) (bs : List Byte) (poison : Bool) : State :=
  match s.region a with
  | .spad t =>
    if s.apertureOpen t then
      let b := a - spadBase t
      let s := s.spWrRows t b bs
      if poison then s.updTile t (fun x => (rowsOf b bs.length).foldl Tile.markPoison x) else s
    else s
  | _ => (s.memWrite ini a bs poison).2

def State.txRing (s : State) (q : Nat) : TxRing := s.net.rings.get .zero q

def State.setRing (s : State) (q : Nat) (r : TxRing) : State := s.updNet (fun n => { n with rings := n.rings.put q r })

/-- NET_TXq_CFG.EN set: SEQ counts from 1 again and HEAD is 0. -/
def State.ringEnable (s : State) (q : Nat) : State :=
  (s.setFld .NET_TXq_HEAD [q] 15 0 0).setRing q { s.txRing q with seq := 0 }

/-- The entry of a ring slot: SEQ, then the entry (table of R345), and whether its fields listed as 0 are 0. -/
def txEntry (b : List Byte) : Nat × TxEnt × Bool :=
  let g (off n : Nat) : Nat := leNat ((b.drop off).take n)
  (g 0 4, ⟨g 4 1, g 5 1, g 6 1, g 12 4, g 16 8, g 24 8, []⟩, g 7 5 == 0)

/-- The fields of an entry are within the table of R345, and its peer fits its OP. -/
def State.txSound (s : State) (e : TxEnt) : Bool :=
  decide (1 ≤ e.op) && decide (e.op ≤ 6) && decide (1 ≤ e.len) && decide (e.len ≤ (if 5 ≤ e.op then 4 else 1048576)) &&
  decide (e.loc + e.len ≤ 2 ^ 44) && s.peerValid e.peer &&
  (if e.op ≤ 2 then decide (s.fld .NET_PEERi_CFG [e.peer] 1 0 < 2) && decide (e.remote + e.len ≤ 2 ^ 32) else true)

/-- The ports that carry a peer's datagrams: 0 and 1 under CB (R341). -/
def State.peerPorts (s : State) (i : Nat) : List Nat := if s.flag .NET_PEERi_CFG [i] 5 then [0, 1] else [Config.peerPort i % 3]

/-- A link for the entry is up. -/
def State.txLink (s : State) (e : TxEnt) : Bool := if e.op ≤ 2 then (s.peerPorts e.peer).any s.ethLink else s.pcieLink

/-- The entry in progress ends: the ring's counter is incremented. -/
def State.txDone (s : State) (q : Nat) : State :=
  (s.setRing q { s.txRing q with ent := none }).counterNow (s.fld .NET_TXq_CFG [q] 13 0) (.add 1)

/-- An entry is discarded: TXDROP, and the counter all the same. -/
def State.txDrop (s : State) (q : Nat) : State := (s.satInc .NET_TXq_HEAD [q] 31 16 1).txDone q

/-- TX_RING_POLL (R345, R322). -/
def State.txPoll (s : State) (q : Nat) : State :=
  let r := s.txRing q
  if !s.flag .NET_TXq_CFG [q] 31 ∨ !s.gateOpen ∨ r.ent.isSome then s
  else
    let log := max 3 (min 12 (s.fld .NET_TXq_CFG [q] 19 16))
    let (m, s) := s.memRead (s.reg .NET_TXq_BASE [q] * 4096 + r.seq % 2 ^ log * 32) 32 0xC8 .clean
    let (n, e, zeros) := txEntry m.bytes
    if m.poison ∨ n ≠ (r.seq + 1) % 2 ^ 32 then s
    else
      let s := (s.setFld .NET_TXq_HEAD [q] 15 0 n).setRing q ⟨r.seq + 1, some e⟩
      if zeros ∧ s.txSound e ∧ s.txLink e then s else s.txDrop q

/-- The offsets below `n` that no piece covers, as runs of (offset, length). -/
def missingRuns (n : Nat) (got : List (Nat × Nat)) : List (Nat × Nat) :=
  let sorted := sortBy (fun (p : Nat × Nat) => p.1) got
  let (at_, runs) := sorted.foldl (fun (acc : Nat × List (Nat × Nat)) p =>
    (max acc.1 (p.1 + p.2), if acc.1 < p.1 then acc.2 ++ [(acc.1, p.1 - acc.1)] else acc.2)) (0, [])
  if at_ < n then runs ++ [(at_, n - at_)] else runs

/-- VWP_RDATA: the bytes go to LOCAL of the READ in progress on the ring. -/
def State.vwpRdata (s : State) (q : Nat) (payload : List Byte) : State :=
  match (s.txRing q).ent with
  | none => s
  | some e =>
    match takeFirst (fun (m : RxMsg) => m.peer == some e.peer && m.payload == payload) s.net.rx with
    | none => s
    | some (_, rest) =>
      let off := vwpOffset payload
      let data := vwpData payload
      if vwpOp payload = 3 ∧ e.op = 2 ∧ vwpWin payload = e.win ∧ e.remote ≤ off ∧ off + data.length ≤ e.remote + e.len then
        let s := s.updNet (fun n => { n with rx := rest })
        let s := s.setRing q { s.txRing q with ent := some { e with got := e.got ++ [(off - e.remote, data.length)] } }
        s.dmaWrite iniNet (e.loc + (off - e.remote)) data false
      else s

/-- `n` bytes that come back from a PCIe partner. -/
def State.freeBytes (s : State) (n : Nat) : List Byte × State :=
  (upTo n).foldl (fun (acc : List Byte × State) _ =>
    let (v, s) := acc.2.free 8
    (acc.1 ++ [BitVec.ofNat 8 v], s)) ([], s)

/-- The last datagram of the entry may leave: its class is open on every port that carries it and has a link (R337). -/
def State.txMayLeave (s : State) (q : Nat) (e : TxEnt) : Bool :=
  decide (2 < e.op) || ((s.peerPorts e.peer).filter s.ethLink).all (fun p => s.classOpen p (s.fld .NET_TXq_CFG [q] 26 24))

/-- TX_ENTRY_COMPLETE. The bytes of a PCIe or configuration read are what the partner returns: free values (log 32). -/
def State.txComplete (s : State) (q : Nat) : State :=
  match (s.txRing q).ent with
  | none => s
  | some e =>
    if e.op = 2 then (if missingRuns e.len e.got = [] then s.txDone q else s)
    else if !s.txLink e then s.txDrop q
    else if !s.gateOpen ∨ !s.txMayLeave q e then s
    else if e.op = 4 ∨ e.op = 6 then
      let (bs, s) := s.freeBytes e.len
      (s.dmaWrite iniNet e.loc bs false).txDone q
    else s.txDone q

/-- TX_READ_TIMEOUT: missing bytes become poisoned zeros (R346). -/
def State.txTimeout (s : State) (q : Nat) : State :=
  match (s.txRing q).ent with
  | none => s
  | some e =>
    if e.op % 2 = 1 then s
    else
      let runs := missingRuns e.len e.got
      if runs = [] then s
      else
        let s := runs.foldl (fun s r => s.dmaWrite iniNet (e.loc + r.1) (List.replicate r.2 0) true) s
        (s.satInc .PCI_STAT [] 31 16 1).txDone q

/-! ### PCIe (R347, R348, R439) -/

/-- A TLP passes link IDE; one that fails makes the stream insecure (R348). -/
def State.ideCheck (s : State) (ideOk : Bool) : Bool × State :=
  if !s.flag .PCI_CTRL [] 2 then (true, s)
  else if s.net.insecure then (false, s)
  else if ideOk then (true, s)
  else (false, ((s.setFlag .PCI_STAT [] 8 true).updNet (fun n => { n with insecure := true })).signal 8 3 0xD0 0)

/-- The link is up and inbound window accesses are accepted; the address names one of 256 windows (R347). -/
def State.pcieTakes (s : State) (addr : Nat) : Bool := s.pcieLink && s.flag .NET_VWP_CFG [] 1 && decide (addr < 2 ^ 40)

/-- PCIE_WRITE. -/
def State.pcieWrite (s : State) (rid addr : Nat) (ideOk : Bool) (data : List Byte) : State :=
  if !s.pcieLink then s
  else
    let (ok, s) := s.ideCheck ideOk
    if ok ∧ s.pcieTakes addr then s.windowMessage (addr / 2 ^ 32) (s.pciePeer rid) (addr % 2 ^ 32) data else s

/-- PCIE_READ. -/
def State.pcieRead (s : State) (rid addr : Nat) (ideOk : Bool) (len : Nat) : State :=
  if !s.pcieLink then s
  else
    let (ok, s) := s.ideCheck ideOk
    if !ok then s
    else if !s.pcieTakes addr then s.updNet (fun n => { n with cpl := none })
    else
      let w := addr / 2 ^ 32
      let peer := s.pciePeer rid
      match s.readWaits w peer (addr % 2 ^ 32) len with
      | some d => s.wakeFor d
      | none =>
      let r := match s.windowReadValue w peer (addr % 2 ^ 32) len with
        | .data bs => some bs
        | _ => none
      (s.windowRead w peer (addr % 2 ^ 32) len).updNet (fun n => { n with cpl := r })

/-- LINK, RATE and WIDTH. -/
def State.setPcie (s : State) (link : Bool) (rate width : Nat) : State :=
  ((s.setFlag .PCI_STAT [] 0 link).setFld .PCI_STAT [] 6 4 rate).setFld .PCI_STAT [] 3 1 width

/-- A change of PCI_CTRL.EN: MODE is read when it is set; clearing it takes the link down. -/
def State.pcieEnabled (s : State) (on : Bool) : State :=
  if on then s.updNet (fun n => { n with root := s.flag .PCI_CTRL [] 1, dead := false })
  else (s.setPcie false 0 0).updNet (fun n => { n with dead := false })

/-- PCIE_LINK_CHANGE: training ends, or the partner is lost. The link leaves Detect only with EN = 1 and the outputs not gated (R355). -/
def State.pcieLinkChange (s : State) (up : Bool) (rate width : Nat) : State :=
  if up then
    if s.flag .PCI_CTRL [] 0 ∧ s.gateOpen ∧ !s.net.dead ∧ 1 ≤ rate ∧ rate ≤ 5 ∧ 1 ≤ width ∧ width ≤ 4 then s.setPcie true rate width else s
  else s.setPcie false 0 0

/-- PCIE_LANE_LOSS: from x8 the link retrains at the lower width; below x8 it stays down (R347, R410, R439). -/
def State.pcieLaneLoss (s : State) (width : Nat) : State :=
  let now := s.fld .PCI_STAT [] 3 1
  if !s.pcieLink ∨ now ≤ width then s
  else if now = 4 ∧ 1 ≤ width then ((s.setFld .PCI_STAT [] 3 1 width).setFlag .PCI_STAT [] 7 true).signal 8 2 0xD0 0
  else (s.setPcie false 0 0).updNet (fun n => { n with dead := true })

/-! ### The commands -/

/-- ETH_FRAME_RX (R335). -/
def execEthFrameRx (p : Fin 3) (f : EthFrame) (s : State) : Host.Outcome State Fault Refusal := live s (fun s => s.ethFrame p.val f)

/-- ETH_LINK_CHANGE (R410). -/
def execEthLinkChange (p : Fin 3) (up : Bool) (s : State) : Host.Outcome State Fault Refusal := live s (fun s => s.ethLinkChange p.val up)

/-- GPTP_SYNC (R336). -/
def execGptpSync (offsetNs : Int) (s : State) : Host.Outcome State Fault Refusal := live s (fun s => s.gptpSync offsetNs)

/-- GPTP_SYNC_LOSS (R336, R61). -/
def execGptpSyncLoss (s : State) : Host.Outcome State Fault Refusal := live s State.tbLoss

/-- GATE_INTERVAL (R337). -/
def execGateInterval (p : Fin 3) (s : State) : Host.Outcome State Fault Refusal := live s (fun s => s.gateInterval p.val)

/-- GATE_LIST_CHANGE (R338). -/
def execGateListChange (p : Fin 3) (s : State) : Host.Outcome State Fault Refusal := live s (fun s => s.gateListChange p.val)

/-- CB_RECOVERY_RESET (R341). -/
def execCbRecoveryReset (peer : Fin 256) (s : State) : Host.Outcome State Fault Refusal := live s (fun s => s.recoveryReset peer.val)

/-- VWP_WRITE (R344). -/
def execVwpWrite (peer : Option (Fin 256)) (payload : List Byte) (s : State) : Host.Outcome State Fault Refusal := live s (fun s => s.vwpWrite peer payload)

/-- VWP_READ (R344). -/
def execVwpRead (peer : Option (Fin 256)) (payload : List Byte) (s : State) : Host.Outcome State Fault Refusal := live s (fun s => s.vwpRead peer payload)

/-- VWP_RDATA (R346). -/
def execVwpRdata (q : Fin 4) (payload : List Byte) (s : State) : Host.Outcome State Fault Refusal := live s (fun s => s.vwpRdata q.val payload)

/-- TX_RING_POLL (R345). -/
def execTxRingPoll (q : Fin 4) (s : State) : Host.Outcome State Fault Refusal := live s (fun s => s.txPoll q.val)

/-- TX_ENTRY_COMPLETE (R346). -/
def execTxEntryComplete (q : Fin 4) (s : State) : Host.Outcome State Fault Refusal := live s (fun s => s.txComplete q.val)

/-- TX_READ_TIMEOUT (R346). -/
def execTxReadTimeout (q : Fin 4) (s : State) : Host.Outcome State Fault Refusal := live s (fun s => s.txTimeout q.val)

/-- PCIE_WRITE (R347). -/
def execPcieWrite (rid : BitVec 16) (addr : DWord) (ideOk : Bool) (data : List Byte) (s : State) : Host.Outcome State Fault Refusal :=
  live s (fun s => s.pcieWrite rid.toNat addr.toNat ideOk data)

/-- PCIE_READ (R347). -/
def execPcieRead (rid : BitVec 16) (addr : DWord) (ideOk : Bool) (len : Nat) (s : State) : Host.Outcome State Fault Refusal :=
  live s (fun s => s.pcieRead rid.toNat addr.toNat ideOk len)

/-- PCIE_LANE_LOSS (R347, R439). -/
def execPcieLaneLoss (width : BitVec 3) (s : State) : Host.Outcome State Fault Refusal := live s (fun s => s.pcieLaneLoss width.toNat)

/-- PCIE_LINK_CHANGE (R347). -/
def execPcieLinkChange (up : Bool) (rate width : BitVec 3) (s : State) : Host.Outcome State Fault Refusal :=
  live s (fun s => s.pcieLinkChange up rate.toNat width.toNat)

end Sys2Proof.Machine
end

