-- ==== Sys2Proof/Machine/Security.lean ====
section
/-! DEFINITION. Boot, boot resets, image checks, keys, fuses, debug unlock, and the locked cores (R317, R350 to R373, R423 to R425). -/

namespace Sys2Proof.Machine
open Sys2Proof

def State.updSec (s : State) (f : Sec → Sec) : State := { s with sec := f s.sec }

def islandBase : Nat := 0x40000000

/-- A little-endian field of a byte list. -/
def fieldAt (b : List Byte) (off n : Nat) : Nat := leNat ((b.drop off).take n)

def allZero (b : List Byte) : Bool := b.all (· == 0)

/-- Programmed bits among the first `n`. -/
def ones (v n : Nat) : Nat := ((List.range n).filter (fun i => bit v i)).length

def State.minver (s : State) : Nat := s.reg .SEC_MINVER_LO [] + 2 ^ 32 * s.reg .SEC_MINVER_HI []

def State.lcState (s : State) : Nat := s.fld .SEC_LC [] 2 0

/-! ### Image checks (R351, R352) -/

def imgLen (h : List Byte) : Nat := fieldAt h 0xC 4
def imgSvn (h : List Byte) : Nat := fieldAt h 8 1
def imgEntry (h : List Byte) : Nat := fieldAt h 0x10 4
def imgKeyIdx (h : List Byte) : Nat := fieldAt h 9 1

/-- The header meets R351 and has the expected kind. -/
def headerSound (kind : Nat) (h : List Byte) : Bool :=
  let alg := fieldAt h 7 1
  let kb := if alg = 0 then 64 else 96
  let len := imgLen h
  let entry := imgEntry h
  decide (512 ≤ h.length) && fieldAt h 0 4 == 0x4D595349 && fieldAt h 4 2 == 1 && fieldAt h 6 1 == kind && decide (1 ≤ kind) && decide (kind ≤ 5) &&
  decide (alg ≤ 1) && decide (imgSvn h ≤ 64) && decide (imgKeyIdx h ≤ 3) && fieldAt h 0xA 2 == 0 &&
  decide (0x200 ≤ entry) && decide (entry < 0x200 + len) && entry % 4 == 0 &&
  (kind != 1 || (decide (len ≤ 261632) && decide (entry < 0x4000))) &&
  allZero ((h.drop 0x14).take 12) && (alg != 0 || allZero ((h.drop 0x40).take 16)) &&
  allZero ((h.drop (0x50 + kb)).take (96 - kb)) && allZero ((h.drop 0xB0).take 208) &&
  allZero ((h.drop (0x180 + kb)).take (96 - kb)) && allZero ((h.drop 0x1E0).take 32)

/-- The curve of an ALG, and its hash. -/
def curveOf (alg : Nat) : Curve := if alg = 0 then p256 else p384
def hashOf (alg : Nat) (m : List Byte) : List Byte := if alg = 0 then sha256 m else sha384 m

/-- The check of R352: 0 for a pass, else the first step that fails. -/
def State.imageCheck (s : State) (kind : Nat) (img : List Byte) : Nat :=
  let h := img.take 512
  let alg := fieldAt h 7 1
  let c := curveOf alg
  let key := (h.drop 0x50).take (2 * c.len)
  let sig := h.drop 0x180
  if !headerSound kind h then 1
  else if alg ≠ s.sec.algsel then 2
  else if sha256 key ≠ s.sec.rootHash.get (List.replicate 32 0) (imgKeyIdx h) ∨ bit s.sec.revoke (imgKeyIdx h) then 3
  else if imgSvn h < ones s.minver 64 then 4
  else if !c.verify (beNat (key.take c.len)) (beNat (key.drop c.len)) (hashOf alg (h.take 0x180)) (beNat (sig.take c.len)) (beNat ((sig.drop c.len).take c.len)) then 5
  else
    let body := (img.drop 512).take (imgLen h)
    if body.length = imgLen h ∧ hashOf alg body = (h.drop 0x20).take c.len then 0 else 6

/-- The measurement of an image: SHA-384 of header and body. -/
def measure (img : List Byte) : List Byte := sha384 (img.take (512 + imgLen img))

/-! ### Keys (R367 to R370) -/

def ascii (t : String) : List Byte := t.toList.map (fun c => BitVec.ofNat 8 c.toNat)

/-- UDS as a derivation sees it: read as zero in RETURN (R371). -/
def State.udsKey (s : State) : List Byte := if s.lcState = 3 then List.replicate 32 0 else s.sec.uds

/-- A derivation whose key is UDS: LC, DBG and ALGSEL follow the context (R367). -/
def State.kdfUds (s : State) (label : String) (ctx : List Byte) : List Byte :=
  beBytes 32 (kdf s.udsKey (ascii label) (ctx ++ [BitVec.ofNat 8 s.lcState, BitVec.ofNat 8 (b2n (s.flag .SEC_LC [] 7)), BitVec.ofNat 8 s.sec.algsel]) 256)

def State.slot (s : State) (i : Nat) : Option KeySlot := s.sec.slots.find i

def State.setSlot (s : State) (i : Nat) (k : KeySlot) : State := s.updSec (fun c => { c with slots := c.slots.put i k })

/-- The keys of the Starter's pass (R368). -/
def State.starterKeys (s : State) (img : List Byte) : State :=
  let root := s.sec.rootHash.get (List.replicate 32 0) (imgKeyIdx img)
  let s := s.setSlot 0 ⟨0, s.kdfUds "CDI" (measure img)⟩
  let s := s.setSlot 1 ⟨0, s.kdfUds "SEAL" (beBytes 4 (imgSvn img) ++ root)⟩
  s.setSlot 2 ⟨0, s.kdfUds "IDSEED" []⟩

/-- A CHECK with ADV = 1 that passes: slots 0 and 1 advance, every other slot is erased (R368; every slot from 3 derives from slots 0 to 2). -/
def State.advanceKeys (s : State) (img : List Byte) : State :=
  let key (i : Nat) : List Byte := match s.slot i with | some k => k.key | none => []
  s.updSec (fun c => { c with slots := ⟨[
    (0, ⟨0, beBytes 32 (kdf (key 0) (ascii "CDI") (measure img) 256)⟩),
    (1, ⟨0, beBytes 32 (kdf (key 1) (ascii "SEAL") (beBytes 4 (imgSvn img)) 256)⟩)]⟩ })

def State.logMeasure (s : State) (e : LogEnt) : State := s.updSec (fun c => { c with log := if c.log.length < 32 then c.log ++ [e] else c.log })

/-- A CHECK that finds the log full runs no check: none. Otherwise the outcome, with its entry in the measurement log (R370). -/
def State.runCheck (s : State) (kind a b : Nat) (locked : Bool) : Option (Bool × List Byte) × State :=
  if 32 ≤ s.sec.log.length then (none, s)
  else
    let img := s.mem.rdBytes a b
    let pass := locked && decide (512 + imgLen img ≤ b) && s.imageCheck kind img == 0
    (some (pass, img), s.logMeasure (.image kind (imgSvn img) pass (measure img)))

/-! ### Locked ranges -/

/-- First byte and length of an island MPU region; 0 while it is disabled (R364). -/
def State.mpuRange (s : State) (r : Nat) : Nat × Nat :=
  (s.fld .SEC_MPUr_RANGE [r] 7 0 * 4096, min 256 (s.fld .SEC_MPUr_RANGE [r] 24 16) * 4096)

/-- `a .. a + n - 1` lies in a locked island MPU region or in a locked scheduler or application range (R370). -/
def State.lockedRange (s : State) (a n : Nat) : Bool :=
  match s.region a with
  | .island => (upTo 8).any (fun r =>
      let (b, len) := s.mpuRange r
      s.flag .SEC_MPUr_CFG [r] 31 && decide (islandBase + b ≤ a) && decide (a + n ≤ islandBase + b + len))
  | .sched c => decide (a + n ≤ schBase c + s.schLocked c)
  | .app g => decide (a + n ≤ appBase g + s.appLocked g)
  | _ => false

/-! ### Boot resets (R356, R423 to R425) -/

/-- What a boot reset keeps of the register store: fuses and debug state, MGT_EOUT, watchdog 0, CLOSE, the vat repairs that are done (R356; log 37). -/
def State.keptRegs (s : State) : Tab Word :=
  let keep (r : Reg) (is : List Nat) (mask : Word) (t : Tab Word) : Tab Word :=
    let v := s.rg (r.adr is)
    t.set (regReset (r.adr is)) (r.adr is) ((v &&& mask) ||| (regReset (r.adr is) &&& ~~~mask))
  let t := keep .SEC_GATE [] 2 (keep .SEC_LC [] 0x387 (keep .SEC_MINVER_LO [] 0xFFFFFFFF (keep .SEC_MINVER_HI [] 0xFFFFFFFF
    (keep .MGT_EOUT [] 0xFFFFFFFF (keep .MGT_WDGw [0] 0x100FFFFF .empty)))))
  s.regs.entries.foldl (fun t e => match regAt e.1 with
    | some (.VAT_RPRc_k, _) => if bit e.2.toNat 30 then t.put e.1 e.2 else t
    | _ => t) t

/-- The GLB_RSTCAUSE bit of a boot reset's cause. -/
def causeBit : BootCause → Nat
  | .check => 3
  | .wdog0 => 4
  | .swreq => 5

/-- A fuse bit in programming when a reset strikes reads afterwards as either value (R424). -/
def State.fuseStruck (s : State) : State :=
  match s.sec.fuse with
  | none => s
  | some j =>
    let (v, s) := s.free 1
    if v = 0 then s
    else match j with
      | .minver _ =>
        match (upTo 64).find? (fun i => !bit s.minver i) with
        | some i => if i < 32 then s.setFlag .SEC_MINVER_LO [] i true else s.setFlag .SEC_MINVER_HI [] (i - 32) true
        | none => s
      | .lc _ => s.setFld .SEC_LC [] 2 0 (min 4 (s.lcState + 1))

/-- Every block as after PORST_N but for what R356 keeps. -/
def State.bootClear (s : State) (c : BootCause) : State :=
  let s := s.fuseStruck
  { State.reset with
    pending := s.pending, fresh := s.fresh, regs := s.keptRegs.set 0 0x300 (BitVec.ofNat 32 (2 ^ causeBit c)),
    swp := { Sweep.zero with cycle := s.swp.cycle },
    mgt := { Mgt.zero with errLow := s.mgt.errLow, fellAt := s.mgt.fellAt, wdg := Tab.empty.put 0 s.pressNow, alerted := s.mgt.alerted },
    sec := { Sec.zero with
      flash := s.sec.flash, uds := s.sec.uds, algsel := s.sec.algsel, rootHash := s.sec.rootHash, revoke := s.sec.revoke, dbgHash := s.sec.dbgHash,
      rejected := s.sec.rejected } }

/-! ### The loader (R353, R357, R358) -/

/-- The bytes of a slot record copy. -/
def State.slotRecord (s : State) (k : Nat) : List Byte := s.sec.flash.rdBytes (k * 0x1000) 0x41

/-- A copy is valid (R357). -/
def recValid (b : List Byte) : Bool :=
  fieldAt b 0 4 == 0x4D595352 && (fieldAt b 9 1 == 1 || fieldAt b 9 1 == 2) && decide (fieldAt b 8 1 ≤ 1) && decide (fieldAt b 10 1 ≤ 1) &&
  sha256 (b.take 0x20) == (b.drop 0x20).take 0x20

/-- Bits of TRIES that read 0. -/
def triesUsed (b : List Byte) : Nat := 8 - ones (fieldAt b 0x40 1) 8

/-- What the loader has chosen: the slot, the slot it falls back to, and SEC_BOOT without STATE (R358). -/
structure Choice where
  slot : Nat
  fallback : Option Nat
  boot : Nat
  /-- the copy whose next TRIES bit is programmed -/
  tries : Option Nat

/-- R358. -/
def State.choose (s : State) : Choice :=
  let c0 := s.slotRecord 0
  let c1 := s.slotRecord 1
  let go (k : Nat) (r : List Byte) : Choice :=
    let trial := fieldAt r 9 1 == 1
    let z := triesUsed r
    let com := k * 2 ^ 13 + b2n trial * 2 ^ 15
    let active := fieldAt r 8 1
    let prev := fieldAt r 10 1
    if trial ∧ 3 ≤ z then ⟨prev, none, com + 2 ^ 17 + 3 * 2 ^ 18, none⟩
    else if trial then ⟨active, some prev, com + (z + 1) * 2 ^ 18, some k⟩
    else ⟨active, some (1 - active), com + min 3 z * 2 ^ 18, none⟩
  if recValid c0 ∧ recValid c1 then (if fieldAt c0 4 4 < fieldAt c1 4 4 then go 1 c1 else go 0 c0)
  else if recValid c0 then go 0 c0
  else if recValid c1 then go 1 c1
  else ⟨0, some 1, 2 ^ 14, none⟩

/-- One more bit of a copy's TRIES, counted from bit 0, is programmed to 0. -/
def State.programTries (s : State) (k : Nat) : State :=
  let a := k * 0x1000 + 0x40
  let v := (s.sec.flash.rd a).toNat
  match (upTo 8).find? (fun i => bit v i) with
  | some i => s.updSec (fun c => { c with flash := c.flash.wr a (BitVec.ofNat 8 (v - 2 ^ i)) })
  | none => s

/-- The Starter's bytes in a slot, header and body. -/
def State.starterImage (s : State) (slot : Nat) : List Byte :=
  let b := 0x800000 + slot * 0x800000
  let h := s.sec.flash.rdBytes b 512
  if imgLen h ≤ 261632 then s.sec.flash.rdBytes b (512 + imgLen h) else h

/-- The copy of a slot begins: the Starter range is locked under island MPU region 0 (R353). -/
def State.beginCopy (s : State) (slot : Nat) (fallback : Option Nat) : State :=
  let img := s.starterImage slot
  let s := s.setReg .SEC_MPUr_RANGE [0] ((img.length + 4095) / 4096 * 65536)
  let s := s.setReg .SEC_MPUr_CFG [0] (2 ^ 31 + 5)
  (s.setFld .SEC_BOOT [] 12 12 slot).updSec (fun c => { c with boot := some ⟨img, slot, fallback⟩, booted := true })

/-- The loader: fuses sensed, records read, a slot chosen, its copy begun. SCRAPPED does not boot (R353, R358, R371). -/
def State.loader (s : State) : State :=
  if s.lcState = 4 then (s.setFld .SEC_BOOT [] 1 0 3).updSec (fun c => { c with booted := true })
  else
    let c := s.choose
    let s := match c.tries with | some k => s.programTries k | none => s
    (s.setReg .SEC_BOOT [] c.boot).beginCopy c.slot c.fallback


/-- The failure of a Starter's check at step `step`: a boot reset, then the fallback once, else FAILED (R356). -/
def State.starterFailed (s : State) (b : BootRun) (step : Nat) : State :=
  let old := s.reg .SEC_BOOT []
  let old := if bits old 31 24 = 0 then putBits old 31 24 step else old
  let s := (s.bootClear .check).setReg .SEC_BOOT [] (putBits old 1 0 0)
  match b.fallback with
  | some f =>
    if f = b.slot then (s.setFld .SEC_BOOT [] 1 0 3).updSec (fun c => { c with booted := true })
    else (s.setFlag .SEC_BOOT [] 16 true).beginCopy f none
  | none => (s.setFld .SEC_BOOT [] 1 0 3).updSec (fun c => { c with booted := true })

/-- The first `n` bytes of the Starter are in island SRAM. -/
def State.landed (s : State) (img : List Byte) (n : Nat) : State := { s with mem := s.mem.wrBytes islandBase (img.take n) }

/-- ISLAND_START: byte 0x3FFF, or the image's last byte, has landed (R354). -/
def State.islandStart (s : State) : State :=
  match s.sec.boot with
  | none => s
  | some b =>
    if s.sec.island.isSome then s
    else
      let s := (s.landed b.img 0x4000).setFld .SEC_BOOT [] 1 0 1
      let s := s.updSec (fun c => { c with island := some (imgEntry b.img) })
      { s with mgt := { s.mgt with wdg := s.mgt.wdg.put 0 s.pressNow } }

/-- The gate opens, unless CLOSE has been written: held replies leave (R355). -/
def State.openGate (s : State) : State := if s.flag .SEC_GATE [] 1 then s else (s.setFlag .SEC_GATE [] 0 true).flushReplies

/-- STARTER_CHECK: the whole image has landed and been hashed, or a step before has failed (R354, R355, R356, R368). -/
def State.starterCheck (s : State) : State :=
  match s.sec.boot with
  | none => s
  | some b =>
    let step := s.imageCheck 1 b.img
    if step ≠ 0 then s.starterFailed b step
    else
      let s := s.islandStart
      let s := (s.landed b.img b.img.length).setFld .SEC_BOOT [] 1 0 2
      ((s.updSec (fun c => { c with boot := none })).starterKeys b.img).openGate

/-- A boot reset: after a check failure the fallback, after any other cause the loader from its start (R356). -/
def State.bootReset (s : State) (c : BootCause) : State :=
  match c, s.sec.boot with
  | .check, some b => if s.imageCheck 1 b.img = 0 then s else s.starterFailed b (s.imageCheck 1 b.img)
  | .check, none => s
  | _, _ => (s.bootClear c).loader

/-- POR_RELEASE: PORST_N is deasserted and, unless another source holds the device, the loader runs (R353, R424). -/
def State.porRelease (s : State) : State :=
  if s.rst.porst then
    let s := { s with rst := { s.rst with porst := false } }
    if s.up then s.loader else s
  else if s.up ∧ !s.sec.booted then s.loader
  else s

/-! ### Key commands (R370) -/

/-- SEC_KCMD is written: BUSY, and the descriptor is read. -/
def State.keyCommand (s : State) (desc : Nat) : State :=
  if s.flag .SEC_KCMD [] 31 then s
  else (s.setReg .SEC_KCMD [] (2 ^ 31)).updSec (fun c => { c with kcmd := some (s.mem.rdBytes (islandBase + desc % 2 ^ 14 * 64) 64) })

def stOK : Nat := 0
def stFAIL : Nat := 1
def stGATED : Nat := 2
def stBADCMD : Nat := 3
def stLOGFULL : Nat := 4

/-- A range of island SRAM given by offset. -/
def inIsland (off n : Nat) : Bool := decide (off + n ≤ 0x100000)

/-- CHECK: KIND, A, B, ADV. -/
def State.cmdCheck (s : State) (d : List Byte) : Nat × State :=
  let kind := fieldAt d 1 1
  let a := fieldAt d 8 8
  let b := fieldAt d 16 4
  let mem := match s.region a with | .island => true | .sched _ => true | .app _ => true | _ => false
  if kind = 0 ∨ 5 < kind ∨ 1 < fieldAt d 2 1 ∨ !mem then (stBADCMD, s)
  else
    match s.runCheck kind a b (s.lockedRange a b) with
    | (none, s) => (stLOGFULL, s)
    | (some (false, _), s) => (stFAIL, s)
    | (some (true, img), s) => (stOK, if fieldAt d 2 1 = 1 then s.advanceKeys img else s)

/-- A label in island SRAM: 16 bytes of ASCII, ended by zeros. -/
def labelOf (b : List Byte) : List Byte := b.takeWhile (· != 0)

/-- DERIVE. An empty source slot has no key: BADCMD. -/
def State.cmdDerive (s : State) (d : List Byte) : Nat × State :=
  let fl := fieldAt d 2 1
  let usage := fl / 2
  let dst := fieldAt d 4 1
  let a := fieldAt d 8 8
  let n := fieldAt d 16 4
  let c := fieldAt d 20 4
  match s.slot (fieldAt d 3 1) with
  | none => (stBADCMD, s)
  | some k =>
    if fl % 2 = 1 ∨ 3 < usage ∨ dst < 3 ∨ 15 < dst ∨ 256 < n ∨ !inIsland a 16 ∨ !inIsland c n then (stBADCMD, s)
    else
      let label := labelOf (s.mem.rdBytes (islandBase + a) 16)
      let ctx := s.mem.rdBytes (islandBase + c) n
      let cv := curveOf s.sec.algsel
      let key := if usage = 3 then beBytes cv.len (kdf k.key label ctx (if s.sec.algsel = 0 then 512 else 576) % (cv.n - 1) + 1)
                 else beBytes 32 (kdf k.key label ctx 256)
      (stOK, s.setSlot dst ⟨usage, key⟩)

/-- The private key of a slot with ECDSA usage. -/
def State.ecdsaKey (s : State) (i : Nat) : Option Nat := (s.slot i).bind (fun k => if k.usage = 3 then some (beNat k.key) else none)

/-- SIGN: r and s of the digest at A, to B. The per-message number is a free value within the standard's range. -/
def State.cmdSign (s : State) (d : List Byte) : Nat × State :=
  let a := fieldAt d 8 8
  let b := fieldAt d 16 4
  let cv := curveOf s.sec.algsel
  match s.ecdsaKey (fieldAt d 3 1) with
  | none => (stBADCMD, s)
  | some key =>
    if fieldAt d 2 1 ≠ 0 ∨ !inIsland a 48 ∨ !inIsland b (2 * cv.len) then (stBADCMD, s)
    else
      let (bs, s) := s.freeBytes 48
      let (r, v) := cv.sign key (beNat bs % (cv.n - 1) + 1) (s.mem.rdBytes (islandBase + a) 48)
      (stOK, s.wrMem (islandBase + b) (beBytes cv.len r ++ beBytes cv.len v))

/-- PUBKEY: X and Y of a slot's public key, to B. -/
def State.cmdPubkey (s : State) (d : List Byte) : Nat × State :=
  let b := fieldAt d 16 4
  let cv := curveOf s.sec.algsel
  match s.ecdsaKey (fieldAt d 3 1) with
  | none => (stBADCMD, s)
  | some key =>
    if fieldAt d 2 1 ≠ 0 ∨ !inIsland b (2 * cv.len) then (stBADCMD, s)
    else
      let (x, y) := cv.pub key
      (stOK, s.wrMem (islandBase + b) (beBytes cv.len x ++ beBytes cv.len y))

/-- ERASE of the slot that DST names. -/
def State.cmdErase (s : State) (d : List Byte) : Nat × State :=
  let dst := fieldAt d 4 1
  if fieldAt d 2 1 ≠ 0 ∨ dst < 3 ∨ 15 < dst then (stBADCMD, s) else (stOK, s.updSec (fun c => { c with slots := c.slots.erase dst }))

/-- KEY_COMMAND_DONE: the command's effect, STATUS, BUSY clear. -/
def State.keyDone (s : State) : State :=
  match s.sec.kcmd with
  | none => s
  | some d =>
    let op := fieldAt d 0 1
    let (st, s) :=
      if op ≠ 1 ∧ !s.gateOpen then (stGATED, s)
      else if !allZero ((d.drop 5).take 3) ∨ !allZero (d.drop 24) ∨ 15 < fieldAt d 3 1 then (stBADCMD, s)
      else match op with
        | 1 => s.cmdCheck d
        | 2 => s.cmdDerive d
        | 3 => s.cmdSign d
        | 4 => s.cmdPubkey d
        | 5 => s.cmdErase d
        | _ => (stBADCMD, s)
    (s.setReg .SEC_KCMD [] (st * 2 ^ 28)).updSec (fun c => { c with kcmd := none })

/-! ### Fuses (R366, R371) -/

def State.fuseErr (s : State) : State := s.setFlag .SEC_LC [] 31 true

/-- SEC_FUSEADV.TO is written. -/
def State.minverAdvance (s : State) (isl : Bool) (goal : Nat) : State :=
  if s.flag .SEC_FUSEADV [] 31 then s
  else if !isl ∨ !s.gateOpen then s.fuseErr
  else if goal ≤ ones s.minver 64 ∨ 64 < goal then s
  else (s.setFlag .SEC_FUSEADV [] 31 true).updSec (fun c => { c with fuse := some (.minver goal) })

/-- The moves of R371. -/
def State.lcAllowed (s : State) (goal : Nat) : Bool :=
  match s.lcState, goal with
  | 0, 1 => true
  | 1, 2 => true
  | 2, 3 => s.flag .SEC_LC [] 7 && s.flag .SEC_LC [] 9
  | 2, 4 => true
  | 3, 4 => true
  | _, _ => false

/-- SEC_LC.ADV is written; 0 asks for nothing. -/
def State.lcAdvance (s : State) (isl : Bool) (goal : Nat) : State :=
  if goal = 0 ∨ s.flag .SEC_FUSEADV [] 31 then s
  else if !isl ∨ !s.gateOpen ∨ !s.lcAllowed goal then s.fuseErr
  else (s.setFlag .SEC_FUSEADV [] 31 true).updSec (fun c => { c with fuse := some (.lc goal) })

/-- MINVER with its lowest clear bits programmed until `to` are. -/
def fillOnes (v goal : Nat) : Nat := (upTo 64).foldl (fun v i => if ones v 64 < goal ∧ !bit v i then v + 2 ^ i else v) v

/-- FUSE_PROGRAM_DONE. Where the read-back fails, which bits took is a free value, with at least one that did not. -/
def State.fuseDone (s : State) (verified : Bool) : State :=
  match s.sec.fuse with
  | none => s
  | some j =>
    let (v, s) := if verified then (0, s) else s.free 64
    let s := (s.setFlag .SEC_FUSEADV [] 31 false).updSec (fun c => { c with fuse := none })
    let s := if verified then s else s.fuseErr
    match j with
    | .minver goal =>
      let old := s.minver
      let full := fillOnes old goal
      let new := if verified then full else
        let part := Nat.lor old (Nat.land full v)
        if part = full then (match (upTo 64).find? (fun i => bit full i && !bit old i) with | some i => full - 2 ^ i | none => old) else part
      (s.setReg .SEC_MINVER_LO [] (new % 2 ^ 32)).setReg .SEC_MINVER_HI [] (new / 2 ^ 32 % 2 ^ 32)
    | .lc goal =>
      let old := s.lcState
      s.setFld .SEC_LC [] 2 0 (if verified then goal else old + v % (goal - old))

/-! ### Debug (R372, R373) -/

/-- DBG_CHAL: a fresh nonce and the serial bytes. -/
def State.debugChallenge (s : State) : State :=
  let (nonce, s) := s.freeBytes 32
  s.updSec (fun c => { c with chal := some (nonce ++ (Config.serial c.uds).take 32) })

/-- The response verifies against the most recent challenge. -/
def State.responseGood (s : State) (scope : Nat) (pub sig : List Byte) : Bool :=
  let cv := curveOf s.sec.algsel
  match s.sec.chal with
  | none => false
  | some ch =>
    pub.length == 2 * cv.len && sig.length == 2 * cv.len && sha256 pub == s.sec.dbgHash &&
    cv.verify (beNat (pub.take cv.len)) (beNat (pub.drop cv.len)) (hashOf s.sec.algsel (ch ++ leBytes 4 scope))
      (beNat (sig.take cv.len)) (beNat (sig.drop cv.len))

/-- DBG_RESP. -/
def State.debugResponse (s : State) (scope : Nat) (pub sig : List Byte) : State :=
  if 3 ≤ s.sec.rejected then s
  else if s.responseGood scope pub sig then
    let s := s.updSec (fun c => { c with slots := .empty, chal := none })
    ((s.setFlag .SEC_LC [] 7 true).setFld .SEC_LC [] 9 8 (bits scope 1 0)).logMeasure (.unlock scope)
  else s.updSec (fun c => { c with rejected := c.rejected + 1 })

/-- DEBUG_INSTRUCTION: it is selected only while debug is unlocked; IDCODE always is (R372). -/
def State.debugInstruction (s : State) (code : Nat) : State :=
  s.updSec (fun c => { c with ir := if code = Config.idcode ∨ s.debugUnlocked then code else 0xFF })

/-! ### Scheduler cores and application-core groups (R317, R362) -/

/-- The count of a watchdog begins (R399). -/
def State.wdgBegin (s : State) (w : Nat) : State := { s with mgt := { s.mgt with wdg := s.mgt.wdg.put w s.pressNow } }

/-- SCH_CTRL.RST: the core stops, LOCK clears, the brine begins. -/
def State.schRst (s : State) (c : Nat) : State :=
  let s := (s.fwStop c).setFlag .SCH_CTRL [c] 2 false
  (s.setFld .SCH_STATUS [c] 1 0 0).setFlag .SCH_STATUS [c] 3 true

/-- SCH_BRINE_DONE. -/
def State.schBrineDone (s : State) (c : Nat) : State :=
  if s.flag .SCH_STATUS [c] 3 then
    ({ s with mem := s.mem.zero (schBase c) 0x40000 }).setFlag .SCH_STATUS [c] 3 false
  else s

/-- SCH_CTRL.START. -/
def State.schStart (s : State) (c : Nat) : State :=
  if s.flag .SCH_CTRL [c] 2 ∧ s.fld .SCH_STATUS [c] 1 0 = 0 ∧ !s.flag .SCH_STATUS [c] 3 then s.setFlag .SCH_STATUS [c] 1 true else s

/-- SCH_CHECK_DONE: KIND SCHED over the locked range. -/
def State.schCheckDone (s : State) (c : Nat) : State :=
  if !s.flag .SCH_STATUS [c] 1 then s
  else
    let (r, s) := s.runCheck 4 (schBase c) (s.schLocked c) true
    let s := s.setFlag .SCH_STATUS [c] 1 false
    match r with
    | some (true, _) => ((s.setFlag .SCH_STATUS [c] 0 true).wdgBegin (1 + c)).fwStart c
    | _ => s.setFlag .SCH_STATUS [c] 2 true

/-- SEC_APPg.RST: the group is held in reset, LOCK clears, the boot SRAM is brined. -/
def State.appRst (s : State) (g : Nat) : State :=
  let s := ((s.setFlag .SEC_APPg [g] 15 false).setFlag .SEC_APPg [g] 17 false).setFlag .SEC_APPg [g] 19 false
  ({ s with mem := s.mem.zero (appBase g) 0x80000 }).updSec (fun c => { c with apps := c.apps.erase g })

/-- SEC_APPg.START. -/
def State.appStart (s : State) (g : Nat) : State :=
  if s.flag .SEC_APPg [g] 15 ∧ !s.flag .SEC_APPg [g] 19 ∧ !s.flag .SEC_APPg [g] 17 then s.setFlag .SEC_APPg [g] 17 true else s

/-- APP_CHECK_DONE: KIND APPBOOT over the locked range. -/
def State.appCheckDone (s : State) (g : Nat) : State :=
  if !s.flag .SEC_APPg [g] 17 then s
  else
    let (r, s) := s.runCheck 3 (appBase g) (s.appLocked g) true
    let s := s.setFlag .SEC_APPg [g] 17 false
    match r with
    | some (true, img) => ((s.setFlag .SEC_APPg [g] 19 true).updSec (fun c => { c with apps := c.apps.put g (imgEntry img) })).wdgBegin (5 + g)
    | _ => s.setFlag .SEC_APPg [g] 18 true

/-! ### The commands -/

/-- POR_RELEASE (R353). -/
def execPorRelease (s : State) : Host.Outcome State Fault Refusal := .next s.porRelease

/-- ISLAND_START (R354). -/
def execIslandStart (s : State) : Host.Outcome State Fault Refusal := live s State.islandStart

/-- STARTER_CHECK (R354). -/
def execStarterCheck (s : State) : Host.Outcome State Fault Refusal := live s State.starterCheck

/-- BOOT_RESET (R356, R423). -/
def execBootReset (cause : BootCause) (s : State) : Host.Outcome State Fault Refusal := live s (fun s => s.bootReset cause)

/-- KEY_COMMAND_DONE (R370). -/
def execKeyCommandDone (s : State) : Host.Outcome State Fault Refusal := live s State.keyDone

/-- FUSE_PROGRAM_DONE (R366). -/
def execFuseProgramDone (verified : Bool) (s : State) : Host.Outcome State Fault Refusal := live s (fun s => s.fuseDone verified)

/-- DBG_CHAL (R373). -/
def execDbgChal (s : State) : Host.Outcome State Fault Refusal := live s State.debugChallenge

/-- DBG_RESP (R373). -/
def execDbgResp (scope : Word) (pub sig : List Byte) (s : State) : Host.Outcome State Fault Refusal :=
  live s (fun s => s.debugResponse scope.toNat pub sig)

/-- DEBUG_INSTRUCTION (R372). -/
def execDebugInstruction (code : BitVec 8) (_data : Word) (s : State) : Host.Outcome State Fault Refusal := live s (fun s => s.debugInstruction code.toNat)

/-- SCH_BRINE_DONE (R317). -/
def execSchBrineDone (c : Fin 4) (s : State) : Host.Outcome State Fault Refusal := live s (fun s => s.schBrineDone c.val)

/-- SCH_CHECK_DONE (R317). -/
def execSchCheckDone (c : Fin 4) (s : State) : Host.Outcome State Fault Refusal := live s (fun s => s.schCheckDone c.val)

/-- APP_CHECK_DONE (R362). -/
def execAppCheckDone (g : Fin 2) (s : State) : Host.Outcome State Fault Refusal := live s (fun s => s.appCheckDone g.val)

end Sys2Proof.Machine
end

