-- ==== Sys2Proof/Machine/Press.lean ====
section
/-! DEFINITION. Press: operating points, the cap, thermal control, throttles, power states and wake (R374 to R394, R430). -/

namespace Sys2Proof.Machine
open Sys2Proof

/-! ### Effective points (R375 to R378) -/

/-- Budget class of a domain: 0 compute, 1 memory, 2 links; none for the I/O die cores (R374). -/
def classOf (d : Nat) : Option Nat := if d < 4 then some 0 else if d = 4 then some 1 else if d = 6 then some 2 else none

/-- Domains of a class. -/
def domainsOf (c : Nat) : List Nat := match c with | 0 => [0, 1, 2, 3] | 1 => [4] | _ => [6]

/-- Die of a domain: 0 CD0, 1 CD1, 2 IOD. -/
def dieOf (d : Nat) : Nat := if d < 2 then 0 else if d < 4 then 1 else 2

def domainsOn (die : Nat) : List Nat := (upTo 7).filter (fun d => dieOf d == die)

/-- PREF, or BOOST under BREQ (R377, R378). -/
def State.request (s : State) (d : Nat) : Nat := if s.flag .PRS_DOMd [d] 8 then s.fld .PRS_DOMd [d] 7 4 else s.fld .PRS_DOMd [d] 3 0

def State.eff (s : State) (d : Nat) : Nat := s.fld .PRS_DOMd [d] 19 16
def State.capb (s : State) (d : Nat) : Nat := s.fld .PRS_DOMd [d] 23 20
def State.thmb (s : State) (d : Nat) : Nat := s.fld .PRS_DOMd [d] 27 24

/-- VSEL and FSEL of PRS_OPk, FSEL within its limits. -/
def State.opPoint (s : State) (k : Nat) : Nat × Nat := (s.fld .PRS_OPk [k] 15 8, max 14 (min 64 (s.fld .PRS_OPk [k] 7 0)))

/-- The largest FSEL allowed at a VSEL (R375). -/
def State.fmax (s : State) (v : Nat) : Nat :=
  match ((upTo 8).filter (fun i => decide (s.fld .PRS_VFi [i] 15 8 ≤ v))).getLast? with
  | some i => s.fld .PRS_VFi [i] 7 0
  | none => 0

def State.clOp (s : State) (c : Nat) : ClOp := s.prs.cl.get .reset c

def State.setClOp (s : State) (c : Nat) (o : ClOp) : State :=
  (s.updPrs (fun p => { p with cl := p.cl.put c o })).setFlag .PRS_DOMd [c] 28 (o.v != o.tv || o.f != o.tf || o.sw != 0)

/-- An effective point takes the place of another; the highest of the interval is kept for R381. -/
def State.setEff (s : State) (d k : Nat) : State :=
  let s := match classOf d with
    | some c => s.updPrs (fun p => { p with top := p.top.put c (max (p.top.get 0 c) (max (s.eff d) k)) })
    | none => s
  s.setFld .PRS_DOMd [d] 19 16 k

/-- EFF is the lowest of request, CAPB and THMB. A cluster's point that the fused curve refuses is counted and not taken (R375, R377). -/
def State.recompute (s : State) (d : Nat) : State :=
  let k := min (s.request d) (min (s.capb d) (s.thmb d))
  if k = s.eff d then s
  else if d < 4 then
    let (v, f) := s.opPoint k
    if s.fmax v < f then s.satInc .PRS_CNT0 [] 15 0 1
    else (s.setEff d k).setClOp d { s.clOp d with tv := v, tf := f }
  else s.setEff d k

/-- OP_TRANSITION_STEP: one Press cycle of a transition. The voltage rises before the clock switches and falls after it (R376). -/
def State.opStep (s : State) (c : Nat) : State :=
  let o := s.clOp c
  if o.sw ≠ 0 then s.setClOp c (if o.sw = 1 then { o with sw := 0, f := o.tf } else { o with sw := o.sw - 1 })
  else if o.v < o.tv then s.setClOp c { o with v := o.v + 1 }
  else if o.f ≠ o.tf then s.setClOp c { o with sw := 3 }
  else if o.tv < o.v then s.setClOp c { o with v := o.v - 1 }
  else s

/-- PRS_DOMd has been written over `old`: domain 6 takes no request; the point is recomputed (R377). -/
def State.domWritten (s : State) (d old : Nat) : State :=
  if d = 6 then s.setFld .PRS_DOMd [d] 8 0 (bits old 8 0) else s.recompute d

/-- OPSET: PREF of the masked domains, BREQ cleared (R66, R374, R378). -/
def State.opset (s : State) (param : Nat) : State :=
  foldState (fun s d =>
    if bit param (4 + d) then ((s.setFld .PRS_DOMd [d] 3 0 (bits param 3 0)).setFlag .PRS_DOMd [d] 8 false).recompute d else s) s (upTo 6)

/-- PSTATE: PERM of the masked clusters; 3 needs all four (R66). -/
def State.pstate (s : State) (param : Nat) : State :=
  let st := if bits param 1 0 = 3 ∧ bits param 7 4 ≠ 15 then 2 else bits param 1 0
  foldState (fun s c => if bit param (4 + c) then s.setFld .PRS_PERM [] (2 * c + 1) (2 * c) st else s) s (upTo 4)

/-! ### The cap (R379 to R381) -/

/-- The classes in the order of ORDER. -/
def State.capOrder (s : State) : List Nat :=
  match s.fld .PRS_FLOOR1 [] 18 16 with
  | 1 => [2, 0, 1]
  | 2 => [1, 2, 0]
  | 3 => [1, 0, 2]
  | 4 => [0, 2, 1]
  | 5 => [0, 1, 2]
  | _ => [2, 1, 0]

def State.floorOf (s : State) (c : Nat) : Nat :=
  match c with | 0 => s.fld .PRS_FLOOR0 [] 11 0 | 1 => s.fld .PRS_FLOOR0 [] 27 16 | _ => s.fld .PRS_FLOOR1 [] 11 0

/-- The allowances of an interval and the floors cut (R380). -/
def State.share (s : State) (uncap : Nat) (pwr : List Nat) : List Nat × Nat :=
  let order := s.capOrder
  let put (a : List Nat) (c v : Nat) : List Nat := a.set c v
  let (a, budget, cuts) := order.foldl (fun (acc : List Nat × Nat × Nat) c =>
    let g := min (s.floorOf c) acc.2.1
    (put acc.1 c g, acc.2.1 - g, acc.2.2 + b2n (decide (g < s.floorOf c)))) ([0, 0, 0], max 480 (min 2400 (s.fld .PRS_CAP [] 11 0)) - uncap, 0)
  let (a, _) := order.foldl (fun (acc : List Nat × Nat) c =>
    let p := pwr.getD c 0
    let reqMax := ((domainsOf c).map s.request).foldl max 0
    let want := if s.capb ((domainsOf c).headD 0) < reqMax then p * 5 / 4 else p
    let extra := min acc.2 (want - acc.1.getD c 0)
    (put acc.1 c (acc.1.getD c 0 + extra), acc.2 - extra)) (a, budget)
  (a, cuts)

def State.setCapb (s : State) (c v : Nat) : State := foldState (fun s d => s.setFld .PRS_DOMd [d] 23 20 v) s (domainsOf c)

/-- CAPB of a class at an interval boundary; the compute class at 0 and still over is throttled (R381). -/
def State.capStep (s : State) (c p : Nat) : State :=
  let a := s.prs.allow.getD c 0
  let d := (domainsOf c).headD 0
  let b := s.capb d
  let e := max (s.prs.top.get 0 c) (((domainsOf c).map s.eff).foldl max 0)
  let s := if c = 0 then s.updPrs (fun q => { q with thrPower := decide (a < p) && (decide (b = 0) || q.thrPower) }) else s
  if a < p then s.setCapb c (min b e - 1)
  else if 8 * p ≤ 7 * a then s.setCapb c (min 15 (b + 1))
  else s

/-! ### Thermal control (R382, R383) -/

/-- THR and HYST within their limits. -/
def State.thr (s : State) : Int := max 85 (min 115 (s.fld .PRS_THERM [] 7 0))
def State.hyst (s : State) : Int := max 1 (s.fld .PRS_THERM [] 11 8)

/-- THMB of a die at an interval boundary. -/
def State.thermStep (s : State) (die : Nat) (t : Int) : State :=
  foldState (fun s d =>
    let b := s.thmb d
    if s.thr ≤ t then s.setFld .PRS_DOMd [d] 27 24 (b - 1)
    else if t ≤ s.thr - s.hyst then s.setFld .PRS_DOMd [d] 27 24 (min 15 (b + 1))
    else s) s (domainsOn die)

def dieNum : Die → Nat
  | .cd0 => 0
  | .cd1 => 1
  | .iod => 2

/-- THERMAL_LIMIT: a sensor reaches 125 degrees. -/
def State.thermalLimit (s : State) (d : Nat) : State :=
  if s.prs.thrDie.contains d then s
  else
    let s := foldState (fun s i => s.setFld .PRS_DOMd [i] 27 24 0) s (domainsOn d)
    (s.updPrs (fun p => { p with thrDie := d :: p.thrDie, thrSeen := p.thrSeen || decide (d < 2) })).signal 6 d 0xF0 0

/-- A temperature as PRS_TEMP shows it: signed, eight bits. -/
def tempByte (t : Int) : Nat := (max (-128) (min 127 t) % 256).toNat

/-! ### Power states (R386 to R388) -/

/-- The tiles of a cluster that State lists. -/
def State.clusterTiles (s : State) (c : Nat) : List (Nat × Tile) := s.tiles.entries.filter (fun e => clusterOf e.1 == c)

/-- Idle for TRIM (R387). -/
def State.idleTrim (s : State) (c : Nat) : Bool :=
  (s.clusterTiles c).all (fun e =>
    e.2.ctx.entries.all (fun p => p.2.st != .ready && p.2.st != .run && p.2.st != .wait) &&
    e.2.mq.isEmpty && e.2.reqs.isEmpty && e.2.fetches.isEmpty && e.2.sends.isEmpty && e.2.load.isNone) &&
  !bit (s.attStatus c) 0

/-- Idle for REST (R387). -/
def State.idleRest (s : State) (c : Nat) : Bool :=
  s.idleTrim c && (s.attn c).queue.isEmpty &&
  (s.clusterTiles c).all (fun e => e.2.ctx.entries.all (fun p => p.2.st == .idle || p.2.st == .halted || p.2.st == .fault)) &&
  (upTo 34).all (fun k => !s.flag .TILE_JOB [c, k] 8)

/-- Idle for CAVE (R387). -/
def State.idleCave (s : State) : Bool :=
  (upTo 4).all s.idleRest && s.flag .PRS_CTRL [] 0 &&
  (upTo 2).all (fun g => !s.flag .SEC_APPg [g] 19 && !s.flag .SEC_APPg [g] 17) &&
  (upTo 32).all (fun n => !s.flag .ING_CTXn_SRC [n] 0) &&
  !s.flag .NET_PORTp_CFG [0] 0 && !s.flag .NET_PORTp_CFG [1] 0 && !s.flag .PCI_CTRL [] 0 &&
  (upTo 3).all (fun k => !bit (s.codStatus k) 0)

/-- Idle for a state of a domain. -/
def State.idleFor (s : State) (d target : Nat) : Bool :=
  if d = 4 then s.idleCave else if target = stTRIM then s.idleTrim d else s.idleRest d

/-- Exit latencies in ns (R386). -/
def exitNs (st : Nat) : Nat := if st = stTRIM then 2000 else if st = stREST then 180000 else 45000000

/-- Time in ns to the PHASE of the next enabled entry, if the sweep runs and there is one (R388). -/
def State.nextEntryNs (s : State) : Option Nat :=
  if s.swp.st = .idle ∨ s.swp.st = .acquire then none
  else
    let ds := s.ptEntries.map (fun e =>
      let d := (ptPhase e.2 * 65536 + sweepLen - s.swp.pos % sweepLen) % sweepLen
      (if d = 0 then sweepLen else d) * s.swp.rate / sweepLen)
    match ds with
    | [] => none
    | d :: rest => some (rest.foldl min d)

/-- WLAT and the phase table allow a state. -/
def State.latencyOk (s : State) (st : Nat) : Bool :=
  decide (exitNs st ≤ s.fld .PRS_WLAT [] 23 0 * 1000) && (match s.nextEntryNs with | some t => decide (exitNs st ≤ t) | none => true)

/-- PERMc; 3 counts as REST unless all four are 3. -/
def State.perm (s : State) (c : Nat) : Nat :=
  let p := s.fld .PRS_PERM [] (2 * c + 1) (2 * c)
  if p = 3 ∧ s.fld .PRS_PERM [] 7 0 ≠ 255 then 2 else p

/-- The deepest cluster state that R388 admits; 0 is RUN. -/
def State.choice (s : State) (c : Nat) : Nat :=
  if 2 ≤ s.perm c ∧ s.idleRest c ∧ s.latencyOk stREST then stREST
  else if 1 ≤ s.perm c ∧ s.idleTrim c ∧ s.latencyOk stTRIM then stTRIM
  else stRUN

/-- The choice at a control interval: entry handshakes begin (R388, R389). -/
def State.chooseStates (s : State) : State :=
  if s.prs.cave ∨ (s.prs.entry.find 4).isSome then s
  else if s.fld .PRS_PERM [] 7 0 = 255 ∧ s.latencyOk stCAVE ∧ s.idleCave ∧ s.prs.entry.entries = [] ∧ (upTo 4).all (fun c => s.pst c != stEXIT) then
    s.setEntry 4 ⟨stCAVE, 0, false, false⟩
  else
    foldState (fun s c =>
      if s.pst c = stRUN ∧ (s.prs.entry.find c).isNone ∧ s.choice c ≠ stRUN then s.setEntry c ⟨s.choice c, 0, false, false⟩ else s) s (upTo 4)

/-- CONTROL_INTERVAL (R379 to R382, R385, R388). -/
def State.controlInterval (s : State) (m : PressSample) : State :=
  let q (v : Nat) : Nat := min v 4095
  let s := s.setReg .PRS_PWR0 [] (q m.comp + q m.mem * 2 ^ 16)
  let s := s.setReg .PRS_PWR1 [] (q m.lnk + q m.uncap * 2 ^ 16)
  let s := s.setReg .PRS_TEMP [] (tempByte m.cd0 + tempByte m.cd1 * 2 ^ 8 + tempByte m.iod * 2 ^ 16)
  let s := s.satInc .PRS_CNT0 [] 31 16 (((upTo 7).filter (fun d => s.flag .PRS_DOMd [d] 8 && decide (s.eff d < s.fld .PRS_DOMd [d] 7 4))).length)
  let thr (s : State) : Bool := (upTo 4).any (fun c => decide (0 < s.throttle c))
  let s := if s.prs.thrSeen ∨ thr s then s.satInc .PRS_CNT3 [] 15 0 1 else s
  let s := if s.flag .PRS_CTRL [] 1 then s.setFlag .PRS_CTRL [] 2 true else s
  let pwr := [m.comp, m.mem, m.lnk]
  let s := if s.flag .PRS_CTRL [] 2 then s
    else
      let (a, cuts) := s.share m.uncap pwr
      (s.satInc .PRS_CNT1 [] 31 16 cuts).updPrs (fun p => { p with allow := a })
  let s := ((s.capStep 0 m.comp).capStep 1 m.mem).capStep 2 m.lnk
  let s := ((s.thermStep 0 m.cd0).thermStep 1 m.cd1).thermStep 2 m.iod
  let s := s.updPrs (fun p => { p with top := .empty })
  let s := foldState State.recompute s (upTo 7)
  let s := s.updPrs (fun p => { p with
    thrSeen := thr s, top := ⟨(upTo 3).map (fun c => (c, ((domainsOf c).map s.eff).foldl max 0))⟩ })
  s.chooseStates

/-! ### Droop and over-current (R384, R385) -/

/-- DROOP: a low sample begins a stretch, sixteen good ones end it. -/
def State.droop (s : State) (c : Nat) (low : Bool) : State :=
  if low then
    if s.prs.stretch.contains c then s else (s.satInc .PRS_CNT3 [] 31 16 1).updPrs (fun p => { p with stretch := c :: p.stretch })
  else s.updPrs (fun p => { p with stretch := p.stretch.filter (· ≠ c) })

/-- OVERCURRENT: the throttle begins or ends. -/
def State.overcurrent (s : State) (c : Nat) (beyond : Bool) : State :=
  if beyond then s.updPrs (fun p => { p with thrAmp := if p.thrAmp.contains c then p.thrAmp else c :: p.thrAmp, thrSeen := true })
  else s.updPrs (fun p => { p with thrAmp := p.thrAmp.filter (· ≠ c) })

/-! ### Entry and wake (R389 to R392, R430) -/

def domainNum : PDomain → Nat
  | .cluster c => c.val
  | .device => 4

/-- ENTRY_HANDSHAKE_ANSWER: the answer that decides: the last ACK, a DELAY, a REFUSE. -/
def State.handshake (s : State) (d : Nat) (a : Answer) : State :=
  match s.prs.entry.find d with
  | none => s
  | some e =>
    if e.committed then s
    else match a with
      | .ack => if s.idleFor d e.target then s.setEntry d { e with committed := true } else s.abandon d true
      | .delay => if 15 ≤ e.delays then s.abandon d true else s.setEntry d { e with delays := e.delays + 1 }
      | .refuse => s.abandon d true

/-- What CAVE switches off is at its reset value and brined when the device is back in RUN (R386, R392). -/
def State.caveClear (s : State) : State :=
  { State.reset with
    pending := s.pending, fresh := s.fresh, held := s.held, swp := s.swp, prs := s.prs, sec := { s.sec with apps := .empty }, rst := s.rst,
    regs := ⟨s.regs.entries.filter (fun e => keptInCave e.1 && (match regAt e.1 with | some (.VAT_RPRc_k, _) => bit e.2.toNat 30 | _ => true))⟩,
    stage := ⟨s.stage.entries.filter (fun e => keptInCave e.1)⟩,
    mem := ⟨s.mem.cells.filter (fun c => (decide (islandBase ≤ c.1) && decide (c.1 < islandBase + 0x100000)) || decide (lpxBase ≤ c.1))⟩,
    poison := s.poison.filter (fun g => decide (lpxBase ≤ 16 * g)),
    fab := { Fab.zero with lpxEn := s.fab.lpxEn, lpxFast := s.fab.lpxFast },
    mgt := { Mgt.zero with errLow := s.mgt.errLow, fellAt := s.mgt.fellAt, alerted := s.mgt.alerted },
    net := { Net.zero with tb := s.net.tb, time := s.net.time, goods := s.net.goods, first := s.net.first, qbv := Tab.empty.put 2 (s.qbv 2) } }

/-- REST: instruction caches are invalidated (R386). -/
def State.restClear (s : State) (c : Nat) : State :=
  { s with tiles := ⟨s.tiles.entries.map (fun e => if clusterOf e.1 = c then (e.1, { e.2 with icache := [] }) else e)⟩ }

/-- ENTRY_COMPLETE: the sixth cycle after the commit; a latched wake starts the exit. In CAVE each cluster's STATE reads as REST (log 39). -/
def State.entryComplete (s : State) (d : Nat) : State :=
  match s.prs.entry.find d with
  | none => s
  | some e =>
    if !e.committed then s
    else
      let s := s.clearEntry d
      let s := if d = 4 then (foldState (fun s c => s.setPst c stREST) s (upTo 4)).updPrs (fun p => { p with cave := true })
               else (if e.target = stREST then s.restClear d else s).setPst d e.target
      if e.latched then s.startExit d else s

/-- WAKE_EVENT (R390, R391). -/
def State.wakeEvent (s : State) (e : WakeEv) : State :=
  match e with
  | .phase d => s.wakeDomain (domainNum d) false
  | .access c => s.wakeDomain c.val false
  | .frame => s.wakeDomain 4 true
  | .pin i high =>
    let was := bit s.prs.pins i.val
    let s := s.updPrs (fun p => { p with pins := putBits p.pins i.val i.val (b2n high) })
    let b := 4 * i.val
    let active := high != s.flag .PRS_WAKECFG [] (b + 2)
    let level := s.flag .PRS_WAKECFG [] (b + 1)
    if !s.flag .PRS_WAKECFG [] b ∨ !active ∨ (!level && was == high) then s
    else foldState (fun s d => s.wakeDomain d (!level)) s [0, 1, 2, 3, 4]

/-- PRS_WAKE: the masked clusters, and the device from CAVE (R391). -/
def State.prsWake (s : State) (data : Nat) : State :=
  foldState (fun s d => if bit data d then s.wakeDomain d true else s) s [0, 1, 2, 3, 4]

/-- EXIT_COMPLETE: RUN (R392). -/
def State.exitComplete (s : State) (d : Nat) : State :=
  if d = 4 then
    if s.prs.cave ∧ s.prs.caveExit then
      let s := s.caveClear.updPrs (fun p => { p with cave := false, caveExit := false })
      foldState (fun s c => s.setPst c stRUN) s (upTo 4)
    else s
  else if s.pst d = stEXIT then s.setPst d stRUN else s

/-! ### The commands -/

/-- CONTROL_INTERVAL (R380). -/
def execControlInterval (m : PressSample) (s : State) : Host.Outcome State Fault Refusal := live s (fun s => s.controlInterval m)

/-- OP_TRANSITION_STEP (R376). -/
def execOpTransitionStep (c : Fin 4) (s : State) : Host.Outcome State Fault Refusal := live s (fun s => s.opStep c.val)

/-- THERMAL_LIMIT (R383). -/
def execThermalLimit (d : Die) (s : State) : Host.Outcome State Fault Refusal := live s (fun s => s.thermalLimit (dieNum d))

/-- THERMAL_LIMIT_END (R383). -/
def execThermalLimitEnd (d : Die) (s : State) : Host.Outcome State Fault Refusal :=
  live s (fun s => s.updPrs (fun p => { p with thrDie := p.thrDie.filter (· ≠ dieNum d) }))

/-- DROOP (R384). -/
def execDroop (c : Fin 4) (low : Bool) (s : State) : Host.Outcome State Fault Refusal := live s (fun s => s.droop c.val low)

/-- OVERCURRENT (R385). -/
def execOvercurrent (c : Fin 4) (beyond : Bool) (s : State) : Host.Outcome State Fault Refusal := live s (fun s => s.overcurrent c.val beyond)

/-- ENTRY_HANDSHAKE_ANSWER (R389). -/
def execEntryHandshakeAnswer (d : PDomain) (a : Answer) (s : State) : Host.Outcome State Fault Refusal := live s (fun s => s.handshake (domainNum d) a)

/-- ENTRY_COMPLETE (R389). -/
def execEntryComplete (d : PDomain) (s : State) : Host.Outcome State Fault Refusal := live s (fun s => s.entryComplete (domainNum d))

/-- WAKE_EVENT (R390). -/
def execWakeEvent (e : WakeEv) (s : State) : Host.Outcome State Fault Refusal := live s (fun s => s.wakeEvent e)

end Sys2Proof.Machine
end

