-- ==== Sys2Proof/Machine/Avail.lean ====
section
/-! DEFINITION. The management block, watchdogs, dual-run comparison and live tile sparing (R395 to R404). -/

namespace Sys2Proof.Machine
open Sys2Proof

def State.updMgt (s : State) (f : Mgt → Mgt) : State := { s with mgt := f s.mgt }

/-! ### ERR_OUT_N (R398) -/

/-- ERR_OUT_N falls, unless it is low already. -/
def State.errFall (s : State) : State :=
  if s.mgt.errLow then s else s.updMgt (fun m => { m with errLow := true, fellAt := some s.pressNow })

/-- Something holds ERR_OUT_N low: RUN not written, a PEND bit, FORCE. -/
def State.errHeld (s : State) : Bool := !s.flag .MGT_EOUT [] 31 || s.fld .MGT_EOUT [] 15 0 != 0 || s.flag .MGT_EOUT [] 30

/-- ERR_OUT_RISE: nothing holds it, and at least 10 us have passed since it fell. -/
def State.errRise (s : State) : State :=
  if s.mgt.errLow && !s.errHeld && decide (s.mgt.fellAt.getD 0 + (if s.mgt.fellAt.isSome then 1000 else 0) ≤ s.pressNow) then
    s.updMgt (fun m => { m with errLow := false })
  else s

/-! ### Signals and the log (R396, R397) -/

/-- ACT of a class; 3 for WDOG and LOCKSTEP. -/
def State.actOf (s : State) (c : Nat) : Nat := if c = 7 ∨ c = 10 then 3 else s.fld .MGT_CLSc [c] 1 0

/-- A record enters the log, or is counted in OVF. -/
def State.logErr (s : State) (r : ErrRec) : State :=
  if s.mgt.log.length < 256 then s.updMgt (fun m => { m with log := m.log ++ [r] }) else s.satInc .MGT_ELOG_CTL [] 15 0 1

/-- A signal reaches MGT: counted; logged; the island interrupted; PEND set, by ACT. A MEM_CE signal within 1 ms of the last one logged is counted only (R396). -/
def State.errSignal (s : State) (r : ErrRec) : State :=
  let s := s.satInc .MGT_CLSc [r.cls] 31 16 1
  let recent : Bool := match s.mgt.ceLogged with | some t => decide (s.pressNow < t + 100000) | none => false
  if r.cls = 3 ∧ recent = true then s
  else
    let act := s.actOf r.cls
    let s := if r.cls = 3 ∧ 1 ≤ act then s.updMgt (fun m => { m with ceLogged := some s.pressNow }) else s
    let s := if 1 ≤ act then s.logErr r else s
    let s := if 2 ≤ act then s.updMgt (fun m => { m with irqs := m.irqs + 1 }) else s
    if act = 3 then (s.setFlag .MGT_EOUT [] r.cls true).errFall else s

/-- ERROR_SIGNAL: the oldest signal on its way, or one of a unit whose errors arise outside the commands. -/
def State.errorSignal (s : State) (g : SigSrc) : State :=
  match g with
  | .oldest =>
    match s.mgt.inflight with
    | [] => s
    | r :: rest => (s.updMgt (fun m => { m with inflight := rest })).errSignal r
  | .unit e => s.errSignal ⟨e.cls.val, e.code.toNat, e.src.toNat, e.inst.toNat, e.addr.toNat, s.phase, e.data.toNat⟩

/-- MGT_ELOG_CTL.POP: the head record leaves, OVF clears (R397). -/
def State.elogPop (s : State) : State := (s.updMgt (fun m => { m with log := m.log.drop 1 })).setFld .MGT_ELOG_CTL [] 15 0 0

/-- Word `k` of the head record (R397). -/
def State.elogWord (s : State) (k : Nat) : Nat :=
  match s.mgt.log with
  | [] => 0
  | r :: _ =>
    match k with
    | 0 => 2 ^ 31 + r.cls % 16 * 2 ^ 24 + r.code % 256 * 2 ^ 16 + r.src % 256 * 2 ^ 8 + r.inst % 256
    | 1 => r.addr % 2 ^ 32
    | 2 => r.phase % 2 ^ 16 * 2 ^ 16 + bits r.addr 43 32
    | _ => r.data % 2 ^ 32

/-! ### Watchdogs (R399) -/

/-- The watched processor is out of reset. -/
def State.processorRuns (s : State) (w : Nat) : Bool :=
  if w = 0 then s.sec.island.isSome else if w < 5 then s.flag .SCH_STATUS [w - 1] 0 else s.flag .SEC_APPg [w - 5] 19

/-- The watchdog's time has passed since its count began. -/
def State.wdgDue (s : State) (w : Nat) : Bool :=
  s.flag .MGT_WDGw [w] 28 && s.processorRuns w && decide (s.mgt.wdg.get 0 w + max 1 (s.fld .MGT_WDGw [w] 19 0) * 1000 ≤ s.pressNow)

/-- WATCHDOG_EXPIRY. The signal of watchdog 0 acts before the boot reset that it causes (log 40). -/
def State.wdgExpiry (s : State) (w : Nat) : State :=
  if !s.wdgDue w then s
  else
    let s := (s.setFlag .MGT_WDGw [w] 30 true).wdgBegin w
    if w = 0 then
      let (v, s) := s.free 8
      (s.errSignal ⟨7, 0, v, 0, 0, s.phase, 0⟩).bootReset .wdog0
    else
      let s := s.signalU 7 0 w
      if !s.flag .MGT_WDGw [w] 29 then s else if w < 5 then s.schRst (w - 1) else s.appRst (w - 5)

/-- MGT_WDGw has been written over `old`: EN of watchdog 0 stays, its ACTION reads 1, a count begins with EN and with KICK. -/
def State.wdgWritten (s : State) (w old data : Nat) : State :=
  let s := if w = 0 then (s.setFlag .MGT_WDGw [0] 29 true).setFlag .MGT_WDGw [0] 28 (bit old 28 || bit data 28) else s
  if bit data 31 ∨ (!bit old 28 ∧ s.flag .MGT_WDGw [w] 28) then s.wdgBegin w else s

/-! ### Dual-run (R401) -/

/-- MGT_CMP_CTL.GO, with the fields of the same write. -/
def State.cmpGo (s : State) : State :=
  if s.mgt.cmp.isSome then s
  else s.updMgt (fun m => { m with
    cmp := some ⟨s.reg .MGT_CMP_A [] * 4096, s.reg .MGT_CMP_B [] * 4096, max 1 (s.fld .MGT_CMP_LEN [] 20 0) * 256,
                 s.fld .MGT_CMP_CTL [] 27 26, s.fld .MGT_CMP_CTL [] 25 16, s.fld .MGT_CMP_CTL [] 13 0⟩ })

/-- Exponent and fraction bits of a comparison format: FP16, BF16, FP32. -/
def cmpShape (fmt : Nat) : Nat × Nat := match fmt with | 1 => (5, 10) | 2 => (8, 7) | _ => (8, 23)

/-- The ordinal of a finite value: its magnitude bits under its sign. -/
def ordinal (e m v : Nat) : Int := let mag : Int := (v % 2 ^ (e + m) : Nat); if bit v (e + m) then -mag else mag

/-- Two elements are equal in a format (R401). -/
def cmpEqual (fmt tol a b : Nat) : Bool :=
  a == b ||
  (fmt != 0 &&
    (let (e, m) := cmpShape fmt
     let exp (v : Nat) : Nat := v / 2 ^ m % 2 ^ e
     let top := 2 ^ e - 1
     let nan (v : Nat) : Bool := exp v == top && v % 2 ^ m != 0
     (nan a && nan b) || (exp a != top && exp b != top && decide ((ordinal e m a - ordinal e m b).natAbs ≤ tol))))

/-- A read of the comparison fails or returns poison. -/
def State.cmpBad (s : State) (a n : Nat) : Bool :=
  (match s.region a with
   | .none => true | .control => true | .island => true
   | .spad t => !s.apertureOpen t || (rowsOf (a - spadBase t) n).any (fun r => (s.tile t).poison.contains r)
   | _ => false) || s.poisoned a n || s.badLines a n != []

/-- CMP_DONE: ERR, the first unequal element, MGT_CMP_RES, the counter. -/
def State.cmpDone (s : State) : State :=
  match s.mgt.cmp with
  | none => s
  | some c =>
    let w := match c.fmt with | 0 => 1 | 3 => 4 | _ => 2
    let bad (i : Nat) : Bool := s.cmpBad (c.a + i * w) w || s.cmpBad (c.b + i * w) w
    let is := List.range (c.len / w)
    let err := is.any bad
    let first := is.find? (fun i => bad i || !cmpEqual c.fmt c.tol (s.mem.rdLE (c.a + i * w) w) (s.mem.rdLE (c.b + i * w) w))
    let s := s.updMgt (fun m => { m with cmp := none })
    let s := if err then s.setFlag .MGT_CMP_CTL [] 29 true else s
    let s := match first with
      | some i => (s.setReg .MGT_CMP_RES [] (2 ^ 31 + i * w % 2 ^ 29)).signalU 9 0 0 0 (i * w)
      | none => s.setReg .MGT_CMP_RES [] 0
    s.counterNow c.cnt (.add 1)

/-! ### Live tile sparing (R402 to R404) -/

/-- A refused request: ERR, ARM clear, REPAIR code 5. -/
def State.spareRefuse (s : State) (c : Nat) : State :=
  ((s.setFlag .CLU_SPARE [c] 29 true).setFlag .CLU_SPARE [c] 31 (s.spares.find c).isSome).signalU 12 5 c

/-- ARM has been written (R402). -/
def State.spareRequest (s : State) (c : Nat) : State :=
  let slot := s.fld .CLU_SPARE [c] 21 16
  let l := s.fld .CLU_SPARE [c] 4 0
  let t := 34 * c + slot
  if (s.spares.find c).isSome ∨ 33 < slot ∨ (s.logicalOf t).isSome ∨ !(s.tile t).ready ∨ (s.jobOf t).isSome then s.spareRefuse c
  else
    let old := s.physOf c l
    let job := s.jobOf old
    let s := (s.setFlag .CLU_SPARE [c] 31 true).setFlag .CLU_SPARE [c] 30 true
    { s with spares := s.spares.put c ⟨l, old - 34 * c, slot, job, if job.isSome then .waiting else .holding⟩ }

/-- SPARE_COPY_START: the tile's request queues are empty and INFLIGHT is 0 (R403). -/
def State.spareCopyStart (s : State) (c : Nat) : State :=
  match s.spares.find c with
  | none => s
  | some sp =>
    let x := s.tile (34 * c + sp.old)
    if sp.st = .holding ∧ x.reqs = [] ∧ x.fetches = [] then { s with spares := s.spares.put c { sp with st := .copying } } else s

/-- Registers that belong to the slot and do not move: EN, TILE_CYCLES, the stall counters, the scratchpad repairs. -/
def staysWithSlot : Reg → Bool
  | .TILE_CTRL | .TILE_STATUS | .TILE_CYCLES_LO | .TILE_CYCLES_HI | .TILE_STALLc_LO | .TILE_STALLc_HI | .TILE_STALLCLR | .TILE_RPRk => true
  | _ => false

/-- The tile register at an address, if it moves with the tile. -/
def movedReg (a : Nat) : Option (Reg × List Nat) :=
  match regAt a with
  | some (r, is) => if (regsNear 0x2100000).contains r && !staysWithSlot r then some (r, is) else none
  | none => none

/-- The state that a sparing moves from slot `a` to slot `b` of a cluster (table of R403). -/
def State.moveTile (s : State) (c a b : Nat) : State :=
  let ta := 34 * c + a
  let tb := 34 * c + b
  let es := s.regs.entries.filter (fun e => match movedReg e.1 with | some (_, is) => !(nth is 0 == c && nth is 1 == b) | none => true)
  let regs := s.regs.entries.foldl (fun (t : Tab Word) e =>
    match movedReg e.1 with
    | some (r, is) => if nth is 0 = c ∧ nth is 1 = a then t.put (r.adr (c :: b :: is.drop 2)) e.2 else t
    | none => t) ⟨es⟩
  let mem := (s.mem.cells.filter (fun p => decide (spadBase ta ≤ p.1) && decide (p.1 < spadBase ta + 0x100000))).foldl
    (fun (m : Mem) p => m.wr (p.1 - spadBase ta + spadBase tb) p.2) (s.mem.zero (spadBase tb) 0x100000)
  let x := s.tile ta
  let y := s.tile tb
  let s := { s with regs := regs, mem := mem }
  let s := s.setTile tb { x with clk := y.clk, icache := [], tlb := y.tlb, ready := y.ready, brining := y.brining, everOn := y.everOn }
  let goal (t : Nat) : Nat := if t = ta then tb else t
  { s with fab := { s.fab with
      ops := s.fab.ops.map (fun m => { m with from_ := m.from_.map (fun p => (goal p.1, p.2)), back := m.back.map (fun p => (goal p.1, p.2)) })
      olds := s.fab.olds.map (fun o => { o with tile := goal o.tile }) } }

/-- SPARE_COPY_END: the state moves, the binding changes, the parked members of the completed barrier wake, the old slot is brined and disabled (R403). -/
def State.spareCopyEnd (s : State) (c : Nat) : State :=
  match s.spares.find c with
  | none => s
  | some sp =>
    if sp.st ≠ .copying then s
    else
      let s := (s.moveTile c sp.old sp.slot).bindSpare c sp
      let old := 34 * c + sp.old
      let mine := s.held.filter (fun h => heldFor old s h)
      let s := { s with held := s.held.filter (fun h => !heldFor old s h) }
      let s := mine.foldl (fun s h => match h with
        | .win w a bs => s.winWrite w (a - spadBase old + spadBase (34 * c + sp.slot)) bs
        | _ => s) s
      let s := s.updTile (34 * c + sp.slot) (fun x =>
        { x with ctx := ⟨x.ctx.entries.map (fun p => (p.1, if p.2.bar = .sent then { p.2 with bar := .woken } else p.2))⟩ })
      (s.setFlag .TILE_JOB [c, sp.old] 8 false).endSpare c sp

/-! ### The commands -/

/-- ERROR_SIGNAL (R396). -/
def execErrorSignal (g : SigSrc) (s : State) : Host.Outcome State Fault Refusal := live s (fun s => s.errorSignal g)

/-- ERR_OUT_RISE (R398). -/
def execErrOutRise (s : State) : Host.Outcome State Fault Refusal := live s State.errRise

/-- WATCHDOG_EXPIRY (R399). -/
def execWatchdogExpiry (w : Fin 7) (s : State) : Host.Outcome State Fault Refusal := live s (fun s => s.wdgExpiry w.val)

/-- CMP_DONE (R401). -/
def execCmpDone (s : State) : Host.Outcome State Fault Refusal := live s State.cmpDone

/-- SPARE_COPY_START (R403). -/
def execSpareCopyStart (c : Fin 4) (s : State) : Host.Outcome State Fault Refusal := live s (fun s => s.spareCopyStart c.val)

/-- SPARE_COPY_END (R403). -/
def execSpareCopyEnd (c : Fin 4) (s : State) : Host.Outcome State Fault Refusal := live s (fun s => s.spareCopyEnd c.val)

end Sys2Proof.Machine
end

