-- ==== Sys2Proof/Machine/Ingest.lean ====
section
/-! DEFINITION. Camera ingest: ports, packets, frames, phase windows, rings, frame records, FSYNC and I3C (R242 to R259), with stages 1 to 3 of the image pipeline (R261, R262). -/

namespace Sys2Proof.Machine
open Sys2Proof

def State.cam (s : State) (n : Nat) : CamCtx := s.vis.ctxs.get CamCtx.zero n
def State.setCam (s : State) (n : Nat) (c : CamCtx) : State := { s with vis := { s.vis with ctxs := s.vis.ctxs.put n c } }
def State.updCam (s : State) (n : Nat) (f : CamCtx → CamCtx) : State := s.setCam n (f (s.cam n))
def State.port (s : State) (p : Nat) : CsiPort := s.vis.ports.get CsiPort.zero p
def State.updPort (s : State) (p : Nat) (f : CsiPort → CsiPort) : State :=
  { s with vis := { s.vis with ports := s.vis.ports.put p (f (s.port p)) } }

/-- The frame whose packets are arriving. -/
def CamCtx.openFrame (c : CamCtx) : Option CamFrame := c.frames.find? (fun f => !f.ended)

def CamCtx.updFrame (c : CamCtx) (uid : Nat) (f : CamFrame → CamFrame) : CamCtx :=
  { c with frames := updFirst (fun x => x.uid == uid) f c.frames }

def State.updFrame (s : State) (n uid : Nat) (f : CamFrame → CamFrame) : State := s.updCam n (fun c => c.updFrame uid f)

/-- Bits of the frame status word (R251). -/
def fsVALID : Nat := 1
def fsSHORT_LINE : Nat := 2
def fsLONG_LINE : Nat := 4
def fsSHORT_FRAME : Nat := 8
def fsLONG_FRAME : Nat := 16
def fsNO_FS : Nat := 32
def fsNO_FE : Nat := 64
def fsCRC : Nat := 128
def fsHDR : Nat := 256
def fsOUTWIN : Nat := 512
def fsMISSING : Nat := 1024
def fsOVERRUN : Nat := 2048
def fsEMB_MISS : Nat := 4096
def fsPORTDROP : Nat := 8192
def fsSTAGGER : Nat := 16384
def fsTNR_OFF : Nat := 2 ^ 19
def fsFLICKER : Nat := 2 ^ 20
def fsWRERR : Nat := 2 ^ 21
def fsNOSTAT : Nat := 2 ^ 22
def fsEPOVF : Nat := 2 ^ 23

def CamFrame.mark (f : CamFrame) (b : Nat) : CamFrame := { f with status := Nat.lor f.status b }

/-! ### Registers of a context -/

def State.ingEn (s : State) (n : Nat) : Bool := s.flag .ING_CTXn_SRC [n] 0
def State.ingDepth (s : State) (n : Nat) : Nat := [8, 10, 12, 14, 16, 20, 24].getD (s.fld .ING_CTXn_SRC [n] 15 12) 8
def State.ingExps (s : State) (n : Nat) : Nat := s.fld .ING_CTXn_SRC [n] 9 8 + 1
/-- Bytes and bits of a ring pixel (R252; chapter 13). -/
def State.ringBytes (s : State) (n : Nat) : Nat := if s.flag .ING_CTXn_SRC [n] 10 then 4 else 2
def State.ringBits (s : State) (n : Nat) : Nat := if s.flag .ING_CTXn_SRC [n] 10 then 24 else 16
def State.ringPitch (s : State) (n : Nat) : Nat := max 1 (s.fld .ING_CTXn_RING [n] 7 0) * 256
def State.ringSlots (s : State) (n : Nat) : Nat := max 1 (s.fld .ING_CTXn_RING [n] 13 8) * 64
def State.camWidth (s : State) (n : Nat) : Nat := max 1 (min 8192 (s.fld .ING_CTXn_GEOM [n] 15 0))
def State.camHeight (s : State) (n : Nat) : Nat := max 1 (min 8192 (s.fld .ING_CTXn_GEOM [n] 31 16))

/-- The vision block as an initiator (R397). -/
def iniVision : Initiator := ⟨.isl, 0xC0⟩

/-- A write of the vision block: refused outside any memory and inside a write-blocked region (R33, R303). -/
def State.visWrite (s : State) (a : Nat) (bs : List Byte) : Bool × State :=
  match s.region a with
  | .spad t => if s.apertureOpen t then (true, s.spWr t (a - spadBase t) bs) else (true, s)
  | _ => s.memWrite iniVision a bs

/-! ### Packets (R242 to R246) -/

/-- The raw data types of CSI-2 and the user-defined ones (R242). -/
def rawType (dt : Nat) : Bool := dt == 0x27 || (decide (0x2A ≤ dt) && decide (dt ≤ 0x37))

/-- The contexts a port serves: the 4 lowest-numbered enabled ones that name it (R244). -/
def State.served (s : State) (p : Nat) : List Nat := ((upTo 32).filter (fun n => s.ingEn n && s.fld .ING_CTXn_SRC [n] 3 1 == p)).take 4

/-- The context that takes a virtual channel of a port: the lowest-numbered (R55, R244). -/
def State.routed (s : State) (p vc : Nat) : Option Nat := (s.served p).find? (fun n => s.fld .ING_CTXn_SRC [n] 7 4 == vc)

/-- The exposure a data type belongs to (R245). -/
def State.exposureOf (s : State) (n dt : Nat) : Option Nat :=
  if rawType dt then (List.range (s.ingExps n)).find? (fun e => s.fld .ING_CTXn_DT [n] (8 * e + 5) (8 * e) == dt) else none

def State.unmatched (s : State) (p : Nat) : State := s.satInc .ING_PORTp_STAT [p] 31 16 1

/-- A status bit for the frame that a packet of context `n` belongs to: one whose start waits in the port's buffer, else the open one. -/
def State.markFrame (s : State) (p n b : Nat) : State :=
  let buf := (s.port p).buf
  if buf.any (fun k => k.ctx == n && k.kind == .frameStart) then
    s.updPort p (fun q => { q with buf := (updFirst (fun k => k.ctx == n && k.kind == .frameStart) (fun k => { k with fl := Nat.lor k.fl b }) q.buf.reverse).reverse })
  else
    match (s.cam n).openFrame with
    | some f => s.updFrame n f.uid (fun f => f.mark b)
    | none => s

/-- Payload bytes of a packet as the buffer holds it. -/
def State.pktBytes (s : State) (n : Nat) (isEmb : Bool) (len : Nat) : Nat := if isEmb then len else (len * s.ingDepth n + 7) / 8

/-- A packet with a sound header (R242 to R246). -/
def State.csiRoute (s : State) (p : Nat) (k : CsiPkt) : State :=
  let vc := k.vc.toNat
  let isLong := match k.kind with | .long _ => true | _ => false
  let s := if isLong && !k.crcOk then s.satInc .ING_PORTp_ERR [p] 31 16 1 else s
  if 15 < vc ∨ (3 < vc ∧ !s.flag .ING_PORTp_CFG [p] 16) then s.unmatched p
  else
    match s.routed p vc, k.kind with
    | none, _ => s.unmatched p
    | _, .other => s.unmatched p
    | _, .lineStart => s
    | _, .lineEnd => s
    | some n, kind =>
      let emb := kind == .long 0x12
      let matched := match kind with | .long dt => emb || (s.exposureOf n dt.toNat).isSome | _ => true
      if !matched then s.unmatched p
      else
        let bytes := if isLong then s.pktBytes n emb k.data.length else 0
        if 131072 < ((s.port p).buf.map (·.bytes)).sum + bytes then (s.satInc .ING_PORTp_STAT [p] 15 8 1).markFrame p n fsPORTDROP
        else
          s.updPort p (fun q => { q with buf := q.buf ++ [⟨n, kind, k.data, bytes, isLong && !k.crcOk, s.swp.count, s.phase, s.swp.cycle, 0⟩] })

/-- CSI_PACKET: the header check, then the routing (R246). -/
def State.csiPacket (s : State) (p : Nat) (k : CsiPkt) : State :=
  if !s.flag .ING_PORTp_CFG [p] 0 ∨ (s.port p).lost then s
  else
    let s := s.updPort p (fun q => { q with stop := false })
    match k.hdr with
    | .bad =>
      (s.served p).foldl (fun s n =>
        match (s.cam n).openFrame with
        | some f => s.updFrame n f.uid (fun f => f.mark fsHDR)
        | none => s) (s.satInc .ING_PORTp_ERR [p] 15 8 1)
    | h =>
      let s := s.updPort p (fun q => { q with sync := true })
      let s := if h = .fixed ∧ !s.flag .ING_PORTp_CFG [p] 1 then s.satInc .ING_PORTp_ERR [p] 7 0 1 else s
      s.csiRoute p k

/-- The front end takes the oldest packet of a port, if it is of the kind. -/
def State.takePkt (s : State) (p : Nat) (want : IngPkt → Bool) : Option (IngPkt × State) :=
  match (s.port p).buf with
  | k :: rest => if want k then some (k, s.updPort p (fun q => { q with buf := rest })) else none
  | [] => none

/-! ### Epochs (R274, R275) -/

/-- An epoch opens for context `n` with the first data bytes `d0` of its write (R258, R274, R275). -/
def State.openEpoch (s : State) (n d0 : Nat) : State :=
  let j := s.fld .ISP_CTXn_CTRL [n] 16 13
  let x := if s.flag .ING_CTXn_EMBj [n, j] 3 then bits d0 7 0 * 256 + bits d0 15 8 else bits d0 7 0
  let lat := max 1 (s.fld .ISP_CTXn_CTRL [n] 11 10)
  s.updCam n (fun c =>
    let num := (c.epoch + 1) % 65536
    let ord := (c.waits.map (·.tag.ord)).foldl max c.tag.ord + 1
    let full := decide (4 ≤ c.waits.length)
    { c with epoch := num, epovf := c.epovf || full, waits := (if full then c.waits.drop 1 else c.waits) ++ [⟨⟨num, ord, x⟩, lat, s.swp.cycle⟩] })

/-- A frame start decoded in `cycle` counts toward the targets; epochs that reach theirs tag from this frame on. -/
def CamCtx.countStart (c : CamCtx) (cycle : Nat) : CamCtx :=
  let ws := c.waits.map (fun w => if w.cycle < cycle then { w with left := w.left - 1 } else w)
  let tag := (ws.filter (fun w => w.left == 0)).foldl (fun (t : EpochTag) w => if t.ord < w.tag.ord then w.tag else t) c.tag
  { c with waits := ws.filter (fun w => w.left != 0), tag := tag }

/-- The EPOCH field of a record (R275). -/
def State.epochField (s : State) (n : Nat) (tag : EpochTag) (emb : Nat → Option Nat) : Nat :=
  match s.flag .ISP_CTXn_CTRL [n] 12, emb (s.fld .ISP_CTXn_CTRL [n] 16 13) with
  | true, some v => if tag.ord = 0 then tag.num else tag.num + (if v = tag.x then 1 else 2) * 65536
  | _, _ => tag.num

/-! ### Frame records (R251) -/

/-- A record of context `n` is written and ING_CTXn_FRAME shows its number. -/
def State.writeRecord (s : State) (n status fsSweep fsPhase fePhase lines win crc fill epoch : Nat) (emb : Nat → Option Nat) : State :=
  let f := (s.cam n).recs
  let status := Nat.lor (Nat.lor status fsVALID) (if (s.cam n).epovf then fsEPOVF else 0)
  let recN := let v := s.fld .ING_CTXn_RECN [n] 7 0; if v = 0 then 256 else v
  let bs := leBytes 4 status ++ leBytes 4 f ++ leBytes 4 fsSweep ++ leBytes 2 fsPhase ++ leBytes 2 fePhase ++ leBytes 2 (min lines 65535) ++
    leBytes 1 win ++ leBytes 1 0 ++ leBytes 2 (min crc 65535) ++ leBytes 2 fill ++ leBytes 4 epoch ++ leBytes 4 0 ++
    (List.range 16).flatMap (fun j => match emb j with | some v => leBytes 4 (65536 + v % 65536) | none => leBytes 4 0) ++ List.replicate 32 0
  let (_, s) := s.visWrite (s.reg64 .ING_CTXn_REC_LO .ING_CTXn_REC_HI [n] + f % recN * 128) bs
  (s.updCam n (fun c => { c with recs := (c.recs + 1) % 2 ^ 32, epovf := false })).setReg .ING_CTXn_FRAME [n] f

/-! ### Frames (R248, R249) -/

/-- A phase lies in window `k` of context `n`; equal limits disable it (R249). -/
def State.inWindow (s : State) (n k phase : Nat) : Bool :=
  let o := s.fld .ING_CTXn_WINk [n, k] 15 0
  let c := s.fld .ING_CTXn_WINk [n, k] 31 16
  if o = c then false else if o < c then decide (o ≤ phase) && decide (phase < c) else decide (o ≤ phase) || decide (phase < c)

/-- The open frame ends: it is padded to HEIGHT, and a hold takes effect (R248, R253, R255). -/
def State.endFrame (s : State) (n fl phase : Nat) : State :=
  match (s.cam n).openFrame with
  | none => s.updCam n (fun c => { c with dropping := false })
  | some f =>
    let s := s.updFrame n f.uid (fun f =>
      let short := decide (f.row < f.height)
      { f.mark (Nat.lor fl (if short then fsSHORT_FRAME else 0)) with
        fePhase := phase, fillRows := f.fillRows + (f.height - f.row), part := .empty, ended := true })
    let s := s.updCam n (fun c => { c with nextSlot := (f.s0 + f.stored + 63) / 64 * 64 % s.ringSlots n })
    if s.flag .ING_CTXn_CTRL [n] 0 ∧ !s.vis.ingHeld.contains n then { s with vis := { s.vis with ingHeld := n :: s.vis.ingHeld } } else s

/-- A frame opens at a packet decoded at the given point: it counts toward epoch targets and claims a window; while HELD is 1 it is dropped whole (R249, R255, R274). -/
def State.beginFrame (s : State) (n sweep phase cycle fl : Nat) : State :=
  let win := (upTo 4).find? (fun k => s.inWindow n k phase && !(s.cam n).claimed.contains k)
  let s := s.updCam n (fun c => (match win with | some k => { c with claimed := k :: c.claimed } | none => c).countStart cycle)
  if s.vis.ingHeld.contains n then
    (s.satInc .ING_CTXn_CNT [n] 31 16 1).updCam n (fun c => { c with dropping := true, refok := false })
  else
    let w := s.camWidth n
    let h := s.camHeight n
    s.updCam n (fun c =>
      { c with
        dropping := false, nextUid := c.nextUid + 1,
        frames := c.frames ++ [⟨c.nextUid, Nat.lor fl (if win.isNone then fsOUTWIN else 0), sweep % 2 ^ 32, phase, 0, win.getD 255, 0, 0, w, h, c.tag,
          [], .empty, 0, 0, 0, .empty, c.nextSlot, 0, false, false, none, 0, 0, [], .empty, .empty⟩] })

/-- FRAME_START (R248): an open frame ends first, with NO_FE. -/
def State.frameStart (s : State) (p : Nat) : State :=
  match s.takePkt p (fun k => k.kind == .frameStart) with
  | none => s
  | some (k, s) =>
    if !s.ingEn k.ctx then s else
    let s := if (s.cam k.ctx).openFrame.isSome then s.endFrame k.ctx fsNO_FE k.phase else s
    s.beginFrame k.ctx k.sweep k.phase k.cycle k.fl

/-- FRAME_END (R248). -/
def State.frameEnd (s : State) (p : Nat) : State :=
  match s.takePkt p (fun k => k.kind == .frameEnd) with
  | none => s
  | some (k, s) => s.endFrame k.ctx 0 k.phase

/-- FRAME_TIMEOUT (R248). -/
def State.frameTimeout (s : State) (n : Nat) : State := if s.fld .ING_CTXn_CTRL [n] 15 4 = 0 then s else s.endFrame n fsNO_FE s.phase

/-- PHASE_WINDOW_CLOSE (R249, R275): an unclaimed window writes a MISSING record. Where R251 gives a field of it no value, the value is free. -/
def State.windowClose (s : State) (n k : Nat) : State :=
  let c := s.fld .ING_CTXn_WINk [n, k] 31 16
  if !s.ingEn n ∨ s.fld .ING_CTXn_WINk [n, k] 15 0 = c then s
  else if (s.cam n).claimed.contains k then s.updCam n (fun x => { x with claimed := x.claimed.filter (· ≠ k) })
  else
    let (fe, s) := s.free 16
    s.writeRecord n fsMISSING (s.swp.count % 2 ^ 32) c fe 0 k 0 0 (s.cam n).tag.num (fun _ => none)

/-! ### Stages 2 and 3 (R261, R262) -/

def State.lbits (s : State) (n : Nat) : Nat := max 12 (min 24 (s.fld .ISP_CTXn_LIN [n] 12 8))

/-- Decompanding of a code (R261). -/
def State.decompand (s : State) (n c : Nat) : Nat :=
  let kn := min 32 (s.fld .ISP_CTXn_LIN [n] 5 0)
  let x (k : Nat) : Nat := s.reg .ISP_CTXn_KNEEk_X [n, k]
  let y (k : Nat) : Nat := s.reg .ISP_CTXn_KNEEk_Y [n, k]
  let v :=
    if kn = 0 then c
    else
      match (List.range kn).reverse.find? (fun k => decide (x k ≤ c)) with
      | none => y 0
      | some k =>
        if k + 1 = kn ∨ x (k + 1) ≤ x k then y k
        else divRna (y k * (x (k + 1) - c) + y (k + 1) * (c - x k)) (x (k + 1) - x k)
  min v (2 ^ s.lbits n - 1)

/-- GAIN of an exposure; a NaN or negative one is read as 0 (R262). -/
def State.expGain (s : State) (n e : Nat) : FV :=
  let g := ofFP32 (s.reg .ISP_CTXn_EXPe_GAIN [n, e])
  if g.isNan || g.isNeg then .fin false 0 0 else g

/-- The linear value of exposure `e` (R262). -/
def State.linOf (s : State) (n e y : Nat) : FV := (FV.ofInt ((y - s.fld .ISP_CTXn_EXPe_LVL [n, e] 15 0 : Nat) : Int)).mul (s.expGain n e)

/-- The saturation threshold t of exposure `e`. -/
def State.thrOf (s : State) (n e : Nat) : FV := .fin false (s.fld .ISP_CTXn_EXPe_LVL [n, e] 31 16) ((s.lbits n : Int) - 16)

def fvOne : FV := .fin false 1 0

/-- A value clamped to 0 to 1. -/
def FV.unit (v : FV) : FV := if v.isNan then v else if v.isNeg then .fin false 0 0 else if fvOne.lt v then fvOne else v

/-- The exposure merge of one pixel from its y values, exposure 0 first (R262). -/
def State.mergePixel (s : State) (n : Nat) (ys : List Nat) : Nat :=
  let N := ys.length
  let lin (e : Nat) : FV := s.linOf n e (ys.getD e 0)
  let blog : Int := s.fld .ISP_CTXn_LIN [n] 19 16
  let m := (List.range (N - 1)).reverse.foldl (fun m e =>
    let w := (((s.thrOf n e).add (FV.ofInt (ys.getD e 0 : Nat)).neg).scale (-blog)).unit
    (w.mul (lin e)).add ((fvOne.add w.neg).mul m)) (lin (N - 1))
  (roundInt false (s.ringBits n) 0 m).code

/-- A ring row from the lines of every exposure. -/
def State.mergeRow (s : State) (n : Nat) (ys : List (List Nat)) (width : Nat) : List Nat :=
  (List.range width).map (fun i => s.mergePixel n (ys.map (fun l => l.getD i 0)))

/-- A fill code of a context (R247). -/
def State.fillCode (s : State) (n : Nat) : Nat := s.reg .ING_CTXn_FILL [n] % 2 ^ s.ingDepth n

/-- The ring value of every pixel of a fill row (R262). -/
def State.fillValue (s : State) (n : Nat) : Nat := s.mergePixel n (List.replicate (s.ingExps n) (s.decompand n (s.fillCode n)))

/-! ### Front-end statistics (R271, R272) -/

def State.statSet (s : State) (n j : Nat) : StatRec := (s.cam n).sets.get StatRec.zero j
def State.updStat (s : State) (n j : Nat) (f : StatRec → StatRec) : State := s.updCam n (fun c => { c with sets := c.sets.put j (f (c.sets.get StatRec.zero j)) })

/-- A 32-bit count that saturates. -/
def bump (t : Tab Nat) (k v : Nat) : Tab Nat := if v = 0 then t else t.put k (min (t.get 0 k + v) (2 ^ 32 - 1))

/-- A statistics set is free (R272). -/
def CamCtx.setFree (c : CamCtx) (j : Nat) : Bool :=
  !(c.sets.get StatRec.zero j).busy && c.lastDone != some j && (c.pub.bind (·.set)) != some j

/-- The frame takes a free set at its first row, or gathers none (R272). -/
def State.takeSet (s : State) (n : Nat) (f : CamFrame) : State :=
  match [0, 1].find? (fun j => (s.cam n).setFree j) with
  | some j => (s.updStat n j (fun _ => { StatRec.zero with busy := true })).updFrame n f.uid (fun f => { f with set := some j })
  | none => s.updFrame n f.uid (fun f => f.mark fsNOSTAT)

/-- Histograms and flicker counts of a received row (R271). -/
def State.rowStats (s : State) (n j r : Nat) (ys : List (List Nat)) (width : Nat) : State :=
  let N := ys.length
  let lb := s.lbits n
  let thr := s.fld .ISP_CTXn_LIN [n] 27 20
  let flk := if N < 2 then 0 else ((List.range width).filter (fun i =>
    let a := (ys.getD 0 []).getD i 0
    let b := (ys.getD (N - 1) []).getD i 0
    let la := s.linOf n 0 a
    let d := la.add (s.linOf n (N - 1) b).neg
    let mag := if d.isNeg then d.neg else d
    (FV.ofInt (a : Nat)).lt (s.thrOf n 0) && (FV.ofInt (b : Nat)).lt (s.thrOf n (N - 1)) && ((FV.ofInt (thr : Nat)).mul la).lt (mag.scale 8))).length
  s.updStat n j (fun t => { t with
    hist := ys.zipIdx.foldl (fun h (p : List Nat × Nat) => p.1.foldl (fun h y => bump h (256 * p.2 + y / 2 ^ (lb - 8)) 1) h) t.hist,
    flk := bump t.flk (r / 64) flk })

/-! ### Rows and the ring (R245, R247, R252, R254) -/

/-- Bytes of ring pixels. -/
def pixelBytes (w : Nat) (px : List Nat) : List Byte := px.flatMap (fun v => leBytes w v)

/-- Some strip that has not left its pipe holds the ring slot. -/
def CamCtx.slotBusy (c : CamCtx) (slots slot : Nat) : Bool :=
  c.frames.any (fun f => (List.range (f.stored - 64 * f.done)).any (fun i => (f.s0 + 64 * f.done + i) % slots == slot))

/-- The raw taps of the front end at points 0 and 1 (R270). -/
def State.frontTaps (s : State) (n r : Nat) (ys : List (List Nat)) (ring : List Nat) (uid : Nat) : State :=
  foldState (fun s t =>
    let cfg := s.reg .ISP_CTXn_TAPt_CFG [n, t]
    if !bit cfg 0 ∨ 1 < bits cfg 2 1 then s
    else
      let px := if bits cfg 2 1 = 1 then ring
        else (ys.getD (bits cfg 4 3) []).map (fun y => (roundInt false (s.ringBits n) 0 (s.linOf n (bits cfg 4 3) y)).code)
      let (ok, s) := s.visWrite (s.reg .ISP_CTXn_TAPt_BASE [n, t] * 4096 + r * bits cfg 31 16 * 256) (pixelBytes (s.ringBytes n) px)
      if ok then s else s.updFrame n uid (fun f => f.mark fsWRERR)) s (upTo 4)

/-- Row `r` of the open frame is complete: its lines are linearised and merged and the ring line is written, or the row is dropped (R245, R254). -/
def State.emitRow (s : State) (n : Nat) (f : CamFrame) (lines : List (List Nat)) : State :=
  let r := f.row
  let slots := s.ringSlots n
  let slot := (f.s0 + r) % slots
  let s := if r = 0 then s.takeSet n f else s
  if f.overrun then s.updFrame n f.uid (fun f => { f with row := r + 1, fillRows := f.fillRows + 1 })
  else if (s.cam n).slotBusy slots slot then
    (s.satInc .ING_CTXn_CNT [n] 15 0 1).updFrame n f.uid (fun f => { f.mark fsOVERRUN with overrun := true, row := r + 1, fillRows := f.fillRows + 1 })
  else
    let ys := lines.map (fun l => l.map (s.decompand n))
    let ring := s.mergeRow n ys f.width
    let bytes := pixelBytes (s.ringBytes n) ring
    let pitch := s.ringPitch n
    let s := match ((s.cam n).openFrame).bind (·.set) with | some j => s.rowStats n j r ys f.width | none => s
    let s := s.frontTaps n r ys ring f.uid
    let (_, s) := s.visWrite (s.reg64 .ING_CTXn_RBASE_LO .ING_CTXn_RBASE_HI [n] + slot * pitch) (bytes.take pitch)
    s.updFrame n f.uid (fun f =>
      { (if pitch < bytes.length then f.mark fsLONG_LINE else f) with row := r + 1, stored := f.stored + 1 })

/-- Rows complete in order: all lines there, or some exposure's line `row + STAG + 1` there, fill lines standing in for the missing ones (R245). -/
def State.completeRows (s : State) (n : Nat) : Nat → State
  | 0 => s
  | fuel + 1 =>
    match (s.cam n).openFrame with
    | none => s
    | some f =>
      let N := s.ingExps n
      let got := (List.range N).map (fun e => f.part.find (4 * f.row + e))
      let whole := got.all (·.isSome)
      let forced := (List.range N).any (fun e => decide (f.row + s.fld .ING_CTXn_SRC [n] 23 16 + 1 < f.cnt.getD e 0))
      if f.height ≤ f.row ∨ !(whole || forced) then s
      else
        let fill := List.replicate f.width (s.fillCode n)
        let s := s.emitRow n f (got.map (fun l => l.getD fill))
        let s := s.updFrame n f.uid (fun g => { (if whole then g else g.mark fsSTAGGER) with
          part := (List.range 4).foldl (fun t e => t.erase (4 * f.row + e)) g.part })
        s.completeRows n fuel

/-- An exposure line reaches the open frame: padded or cut to WIDTH (R247), rows beyond HEIGHT discarded (R248). -/
def State.takeLine (s : State) (n e : Nat) (k : IngPkt) (f : CamFrame) : State :=
  let L := f.cnt.getD e 0
  let raw := k.data.map (fun v => v % 2 ^ s.ingDepth n)
  let fl := (if raw.length < f.width then fsSHORT_LINE else if f.width < raw.length then fsLONG_LINE else 0) + (if k.crcBad then fsCRC else 0)
  let line := raw.take f.width ++ List.replicate (f.width - raw.length) (s.fillCode n)
  let s := s.updFrame n f.uid (fun f =>
    let f := f.mark (Nat.lor fl (if f.height ≤ L then fsLONG_FRAME else 0))
    { f with lines := f.lines + b2n (e == 0), crcLines := f.crcLines + b2n k.crcBad,
             cnt := (List.range 4).map (fun i => f.cnt.getD i 0 + b2n (i == e)),
             part := if f.height ≤ L ∨ L < f.row then f.part else f.part.put (4 * L + e) line })
  s.completeRows n 8192

/-- The frame a line or embedded packet belongs to: a line without an open frame opens one, with NO_FS (R248). -/
def State.frameFor (s : State) (k : IngPkt) : State :=
  if (s.cam k.ctx).openFrame.isSome ∨ (s.cam k.ctx).dropping ∨ !s.ingEn k.ctx then s else s.beginFrame k.ctx k.sweep k.phase k.cycle (Nat.lor k.fl fsNO_FS)

/-- LINE_PACKET (R245, R247, R248). -/
def State.linePacket (s : State) (p : Nat) : State :=
  match s.takePkt p (fun k => match k.kind with | .long dt => dt != 0x12 | _ => false) with
  | none => s
  | some (k, s) =>
    let s := s.frameFor k
    match (s.cam k.ctx).openFrame, k.kind with
    | some f, .long dt => match s.exposureOf k.ctx dt.toNat with | some e => s.takeLine k.ctx e k f | none => s.unmatched p
    | _, _ => s

/-- EMBEDDED_LINE (R250). -/
def State.embeddedLine (s : State) (p : Nat) : State :=
  match s.takePkt p (fun k => k.kind == .long 0x12) with
  | none => s
  | some (k, s) =>
    let n := k.ctx
    let s := s.frameFor k
    match (s.cam n).openFrame with
    | none => s
    | some f =>
      let take (j : Nat) : Option Nat :=
        let e := s.reg .ING_CTXn_EMBj [n, j]
        if !bit e 2 ∨ bits e 1 0 ≠ f.embLines then none
        else
          match k.data[bits e 15 4]?, k.data[bits e 27 16]?, bit e 3 with
          | some h, _, false => some (h % 256)
          | some h, some l, true => some (h % 256 * 256 + l % 256)
          | _, _, _ => none
      let vals := (List.range 16).foldl (fun t j => match take j with | some v => t.put j v | none => t) f.embVals
      s.updFrame n f.uid (fun f =>
        { (if k.crcBad then f.mark fsCRC else f) with embLines := f.embLines + 1, embVals := vals, crcLines := f.crcLines + b2n k.crcBad })

/-! ### Enable and disable (R255, R265, R276) -/

/-- ING_CTXn_SRC.EN rises (R276). -/
def State.ingEnable (s : State) (n : Nat) : State :=
  s.updCam n (fun c => { c with
    recs := 0, claimed := [], refok := false, epoch := 0, waits := [], tag := .zero, epovf := false, statSeq := 0,
    sets := .empty, lastDone := none, gathered := 0, pub := none, dropping := false,
    frames := c.frames.map (fun f => { f with set := none }) })

/-- ING_CTXn_SRC.EN falls: an open frame ends and its record follows (R248, R255). -/
def State.ingDisable (s : State) (n : Nat) : State := s.endFrame n fsNO_FE s.phase

/-! ### FSYNC (R256) -/

/-- The effect of a TRIG entry: the masked balls are active (R256); while the outputs are gated there is no pulse (R355). -/
def State.fsyncTrig (s : State) (mask : Nat) : State :=
  if !s.flag .SEC_GATE [] 0 then s
  else { s with vis := { s.vis with fsync := (upTo 16).filter (fun i => bit mask i || s.vis.fsync.contains i) } }

def State.fsyncEnd (s : State) (i : Nat) : State := { s with vis := { s.vis with fsync := s.vis.fsync.filter (· ≠ i) } }

/-- The level an FSYNC ball is driven to: none while it is not driven, or gated (R256, R355). -/
def State.fsyncPad (s : State) (i : Nat) : Option Bool :=
  if !s.flag .PAD_FSYNC_CFG [] (16 + i) ∨ !s.flag .SEC_GATE [] 0 then none
  else some (s.vis.fsync.contains i != s.flag .PAD_FSYNC_CFG [] i)

/-! ### I3C (R257 to R259) -/

def State.i3cQueue (s : State) (c : Nat) : List I3cJob := s.vis.i3c.get [] c
def State.setI3c (s : State) (c : Nat) (q : List I3cJob) : State := { s with vis := { s.vis with i3c := s.vis.i3c.put c q } }

/-- The effect of an I3C entry: the four registers of a write-list entry enter the queue; a full queue drops the copy (R257). -/
def State.i3cCopy (s : State) (c e : Nat) (epoch : Bool) : State :=
  if !s.flag .PAD_I3Cc_CTRL [c] 0 then s
  else if 16 ≤ (s.i3cQueue c).length then s.satInc .PAD_I3Cc_STAT [c] 23 16 1
  else s.setI3c c (s.i3cQueue c ++ [⟨s.reg .PAD_I3Cc_WLe_A [c, e], s.reg .PAD_I3Cc_WLe_R [c, e], s.reg .PAD_I3Cc_WLe_D0 [c, e],
    s.reg .PAD_I3Cc_WLe_D1 [c, e], epoch⟩])

/-- The bytes that a queued write sends: target address, register address with the high byte first, data (R257). -/
def I3cJob.wire (j : I3cJob) : Nat × List Byte :=
  let rb := min 2 (bits j.a 9 8)
  let n := max 1 (min 8 (bits j.a 13 10))
  (bits j.a 6 0, beBytes rb (j.r % 2 ^ (8 * rb)) ++ (leBytes 4 j.d0 ++ leBytes 4 j.d1).take n)

/-- The oldest queued write is performed: acknowledged in the end, or abandoned after its repeats (R257, R258). Queued writes are held while the outputs are gated (R355). -/
def State.i3cWrite (s : State) (c : Nat) (ack : Bool) : State :=
  match s.i3cQueue c with
  | [] => s
  | j :: rest =>
    if !s.flag .SEC_GATE [] 0 then s
    else
    let s := s.setI3c c rest
    if !ack then s.satInc .PAD_I3Cc_STAT [c] 15 8 1
    else if j.epoch then s.openEpoch (bits j.a 20 16) j.d0
    else s

/-- A direct command whose register DCMD holds: ERR on a missing acknowledgement, read data into DDATA (R259). While the outputs are gated it is not started (R355). -/
def State.i3cCommand (s : State) (c : Nat) (ack : Bool) (rdata : Nat) : State :=
  if !s.flag .PAD_I3Cc_CTRL [c] 0 ∨ !s.flag .SEC_GATE [] 0 then s
  else if !ack then s.setFlag .PAD_I3Cc_DCMD [c] 29 true
  else
    let n := min 4 (s.fld .PAD_I3Cc_DCMD [c] 22 20)
    if s.flag .PAD_I3Cc_DCMD [c] 3 ∧ 0 < n then s.setFld .PAD_I3Cc_DDATA [c] (8 * n - 1) 0 rdata else s

/-! ### The commands -/

/-- CSI_PACKET (R242 to R246). -/
def execCsiPacket (p : Fin 8) (k : CsiPkt) (s : State) : Host.Outcome State Fault Refusal := live s (fun s => s.csiPacket p.val k)

/-- CSI_STOP_STATE (R242): lock is regained and STOP is set. -/
def execCsiStopState (p : Fin 8) (s : State) : Host.Outcome State Fault Refusal :=
  live s (fun s => s.updPort p.val (fun q => { q with lost := false, stop := true }))

/-- FRAME_START (R248, R249). -/
def execFrameStart (p : Fin 8) (s : State) : Host.Outcome State Fault Refusal := live s (fun s => s.frameStart p.val)

/-- FRAME_END (R248). -/
def execFrameEnd (p : Fin 8) (s : State) : Host.Outcome State Fault Refusal := live s (fun s => s.frameEnd p.val)

/-- LINE_PACKET (R245, R247, R261, R262). -/
def execLinePacket (p : Fin 8) (s : State) : Host.Outcome State Fault Refusal := live s (fun s => s.linePacket p.val)

/-- EMBEDDED_LINE (R250). -/
def execEmbeddedLine (p : Fin 8) (s : State) : Host.Outcome State Fault Refusal := live s (fun s => s.embeddedLine p.val)

/-- FRAME_TIMEOUT (R248). -/
def execFrameTimeout (n : Fin 32) (s : State) : Host.Outcome State Fault Refusal := live s (fun s => s.frameTimeout n.val)

/-- PHASE_WINDOW_CLOSE (R249). -/
def execPhaseWindowClose (n : Fin 32) (k : Fin 4) (s : State) : Host.Outcome State Fault Refusal := live s (fun s => s.windowClose n.val k.val)

/-- FSYNC_PULSE_END (R256). -/
def execFsyncPulseEnd (i : Fin 16) (s : State) : Host.Outcome State Fault Refusal := live s (fun s => s.fsyncEnd i.val)

/-- I3C_WRITE (R257, R258). -/
def execI3cWrite (c : Fin 4) (ack : Bool) (s : State) : Host.Outcome State Fault Refusal := live s (fun s => s.i3cWrite c.val ack)

end Sys2Proof.Machine
end

