-- ==== Sys2Proof/Machine/Isp.lean ====
section
/-! DEFINITION. The back-end pipes: strips, stages 4 to 10, outputs, taps, statistics, frame completion (R253, R260, R263 to R276). -/

namespace Sys2Proof.Machine
open Sys2Proof

/-! ### FP32 operations, each rounded once (R264) -/

def f32Mul (a b : Nat) : Nat := toFP32 (attZero 16 [a, b]) ((ofFP32 a).mul (ofFP32 b))
def f32Add (a b : Nat) : Nat := toFP32 (attZero 17 [a, b]) ((ofFP32 a).add (ofFP32 b))
def f32Neg (a : Nat) : Nat := if bit a 31 then a - 2 ^ 31 else a + 2 ^ 31
def f32Sub (a b : Nat) : Nat := f32Add a (f32Neg b)
def f32Div (a b : Nat) : Nat := toFP32 (attZero 18 [a, b]) ((ofFP32 a).quot (ofFP32 b))
def f32OfNat (n : Nat) : Nat := toFP32 false (.fin false n 0)
def f32One : Nat := 0x3F800000

/-- The larger of two FP32 codes; NaN wins. -/
def f32Max (a b : Nat) : Nat := if (ofFP32 a).isNan then a else if (ofFP32 b).isNan then b else if (ofFP32 a).lt (ofFP32 b) then b else a

def f32Abs (a : Nat) : Nat := a % 2 ^ 31

/-! ### Rows and windows (R263) -/

/-- A row or column outside the frame as its mirror image: −1 as 1, `n` as `n − 2`. -/
def mirror (n : Nat) (i : Int) : Nat :=
  let j := if i < 0 then -i else if (n : Int) ≤ i then 2 * (n : Int) - 2 - i else i
  (max 0 (min j ((n : Int) - 1))).toNat

/-- A 9 x 9 window about a pixel, by rows. -/
def window9 (f : CamFrame) (y x : Nat) (v : Nat → Nat → Nat) : List Nat :=
  (List.range 9).flatMap (fun dy => (List.range 9).map (fun dx =>
    v (mirror f.height ((y : Int) + (dy : Nat) - 4)) (mirror f.width ((x : Int) + (dx : Nat) - 4))))

/-- An input pixel of a row the pipe has read. -/
def CamFrame.raw (f : CamFrame) (y x : Nat) : Nat :=
  match f.inRows.find y with
  | some row => row.getD x 0
  | none => Config.ispUnread y x

/-! ### Stage 4 (R264) -/

def State.ispB (s : State) (n : Nat) : Nat := s.ringBits n

/-- Defect correction of a pixel. -/
def State.dpc (s : State) (n : Nat) (f : CamFrame) (y x : Nat) : Nat :=
  let p := f.raw y x
  if !s.flag .ISP_CTXn_CTRL [n] 6 then p
  else
    let at_ (dy dx : Int) : Nat := f.raw (mirror f.height ((y : Int) + dy)) (mirror f.width ((x : Int) + dx))
    let ns := sortBy id [at_ (-2) (-2), at_ (-2) 0, at_ (-2) 2, at_ 0 (-2), at_ 0 2, at_ 2 (-2), at_ 2 0, at_ 2 2]
    let thr := s.fld .ISP_CTXn_FILT [n] 7 0 * 2 ^ (s.ispB n - 8)
    if ns.getD 7 0 + thr < p ∨ p + thr < ns.getD 0 0 then divRna (ns.getD 3 0 + ns.getD 4 0) 2 else p

/-- Zone, next zone, and the fraction between them over `2 * size`, for the centre of pixel `x` among `z` zone centres. -/
def zoneOf (size z x : Nat) : Nat × Nat × Nat :=
  let den := 2 * size
  let u := min ((2 * x + 1) * z - size) ((z - 1) * den)
  let i := min (u / den) (z - 1)
  (i, min (i + 1) (z - 1), u - i * den)

/-- Bilinear interpolation of FP16 gains `g zy zx` over `zw` x `zh` zone centres, and what it is over: the exact numerator and denominator. -/
def bilinear (width height zw zh x y : Nat) (g : Nat → Nat → Nat) : FV × Nat :=
  let (x0, x1, fx) := zoneOf width zw x
  let (y0, y1, fy) := zoneOf height zh y
  let dx := 2 * width
  let dy := 2 * height
  let term (zy zx w : Nat) : FV := if w = 0 then .fin false 0 0 else (fspecFP16.decode (g zy zx)).mul (.fin false w 0)
  (FV.sum [term y0 x0 ((dx - fx) * (dy - fy)), term y0 x1 (fx * (dy - fy)), term y1 x0 ((dx - fx) * fy), term y1 x1 (fx * fy)], dx * dy)

/-- CFA position of a pixel. -/
def State.cfaPos (s : State) (n y x : Nat) : Nat :=
  let ph := s.fld .ISP_CTXn_CTRL [n] 5 4
  (y + ph / 2) % 2 * 2 + (x + ph % 2) % 2

/-- The output of stage 4. -/
def State.stage4 (s : State) (n : Nat) (f : CamFrame) (y x : Nat) : Nat :=
  let p := s.dpc n f y x
  if !s.flag .ISP_CTXn_CTRL [n] 7 then p
  else
    let pos := s.cfaPos n y x
    let (num, den) := bilinear f.width f.height 32 24 x y (fun zy zx =>
      let w := s.reg .ISP_CTXn_LSCj [n, 2 * (zy * 32 + zx) + pos / 2]
      if pos % 2 = 0 then bits w 15 0 else bits w 31 16)
    (roundInt false (s.ispB n) 0 ((num.mul (.fin false p 0)).quot (.fin false den 0))).code

/-! ### Stages 5 to 9 (R264) -/

/-- Channel `c` after demosaic. -/
def State.stage5 (s : State) (n : Nat) (f : CamFrame) (y x c : Nat) : Nat :=
  let cfa := let v := s.fld .ISP_CTXn_CTRL [n] 3 2; if v = 3 then 0 else v
  if c = 3 ∧ cfa ≠ 2 then 0
  else (Config.demosaic cfa (s.fld .ISP_CTXn_CTRL [n] 5 4 + 4 * (x % 4) + 16 * (y % 4)) (s.ispB n) (window9 f y x (s.stage4 n f)) c).toNat

/-- Channel `c` after spatial noise reduction. -/
def State.spatial (s : State) (n : Nat) (f : CamFrame) (y x c : Nat) : Nat :=
  let snr := s.fld .ISP_CTXn_FILT [n] 15 8
  if snr = 0 then s.stage5 n f y x c else (Config.denoise snr c (window9 f y x (fun y x => s.stage5 n f y x c))).toNat

def State.wsAt (s : State) (n : Nat) : Nat := s.reg .ISP_CTXn_WS [n] * 4096

/-- Temporal noise reduction of a pixel's channels against the reference (R264, R265). -/
def State.temporal (s : State) (n : Nat) (cur ref : List Nat) : List Nat :=
  if !s.flag .ISP_CTXn_CTRL [n] 8 ∨ !(s.cam n).refok then cur
  else
    let d := (List.zipWith (fun r c => f32Abs (f32Sub r c)) ref cur).foldl f32Max 0
    let a := f32Mul (f32Div (f32OfNat (s.fld .ISP_CTXn_FILT [n] 23 16)) (f32OfNat 256)) (f32Max 0 (f32Sub f32One (f32Mul (f32OfNat 64) d)))
    List.zipWith (fun c r => f32Add c (f32Mul a (f32Sub r c))) cur ref

/-- The reference pixel in the workspace, four FP16 channels as FP32; poisoned data is zeros (chapter 13, WRERR). -/
def State.refPixel (s : State) (n : Nat) (f : CamFrame) (y x : Nat) : List Nat :=
  let a := s.wsAt n + (y * f.width + x) * 8
  if s.poisoned a 8 then [0, 0, 0, 0]
  else (List.range 4).map (fun c => let v := fspecFP16.decode (s.mem.rdLE (a + 2 * c) 2); toFP32 v.isNeg v)

/-- Stage 7: the 3 x 4 matrix and the offsets. -/
def State.colour (s : State) (n : Nat) (v : List Nat) : List Nat :=
  (List.range 3).map (fun i =>
    let m (j : Nat) : Nat := f32Mul (s.reg .ISP_CTXn_CCMi [n, 4 * i + j]) (v.getD j 0)
    f32Add (f32Add (f32Add (f32Add (m 0) (m 1)) (m 2)) (m 3)) (s.reg .ISP_CTXn_CCMi [n, 12 + i]))

/-- A curve of 257 entries read at `v` (R264). -/
def curveAt (L : Nat → Nat) (v : Nat) : Nat :=
  let u := (ofFP32 v).unit
  if u.isNan then 0x7FC00000
  else
    let a := u.scale 8
    let i := min 255 (truncTo 0 a).toNat
    let t := toFP32 false (a.add (FV.ofInt (i : Nat)).neg)
    let d := toFP32 false (FV.ofInt ((L (i + 1) : Int) - L i))
    f32Div (f32Add (f32OfNat (L i)) (f32Mul t d)) (f32OfNat 65535)

def State.toneAt (s : State) (n : Nat) (v : Nat) : Nat := curveAt (fun i => s.fld .ISP_CTXn_LUTi [n, i] 15 0) v
def State.gamAt (s : State) (n : Nat) (v : Nat) : Nat := curveAt (fun i => s.fld .ISP_CTXn_LUTi [n, i] 31 16) v

/-- (R + 2G + B) / 4. -/
def lumaOf (v : List Nat) : Nat := f32Mul (f32Add (f32Add (v.getD 0 0) (f32Mul (f32OfNat 2) (v.getD 1 0))) (v.getD 2 0)) 0x3E800000

/-- Stage 8: the global curve and the local gain grid. -/
def State.tone (s : State) (n : Nat) (f : CamFrame) (y x : Nat) (v : List Nat) : List Nat :=
  let Y := lumaOf v
  let pos := (FV.fin false 0 0).lt (ofFP32 Y)
  let g := if pos then f32Div (s.toneAt n Y) Y else f32One
  let g := if s.flag .ISP_CTXn_CTRL [n] 9 then
      let (num, den) := bilinear f.width f.height 64 48 x y (fun zy zx =>
        let z := zy * 64 + zx
        let w := s.reg .ISP_CTXn_LTMj [n, z / 2]
        if z % 2 = 0 then bits w 15 0 else bits w 31 16)
      f32Mul g (toFP32 (attZero 19 [x, y]) (num.quot (.fin false den 0)))
    else g
  v.map (fun c => f32Mul c g)

/-- Stage 9: the selected matrix; 6 and 7 are read as 1. -/
def State.cscOf (s : State) (n : Nat) (v : List Nat) : List Nat :=
  let sel := let x := s.fld .ISP_CTXn_FILT [n] 26 24; if 5 < x then 1 else x
  (List.range 3).map (fun i => (Config.csc sel i (v.getD 0 0) (v.getD 1 0) (v.getD 2 0)).toNat)

/-- A produced row, stages 4 to 9 (R263, R264). -/
def State.produceRow (s : State) (n : Nat) (f : CamFrame) (y : Nat) : IspRow :=
  let nr := (List.range f.width).map (fun x => s.temporal n ((List.range 4).map (s.spatial n f y x)) (s.refPixel n f y x))
  let cc := nr.map (s.colour n)
  let gam := cc.zipIdx.map (fun p => (s.tone n f y p.2 p.1).map (s.gamAt n))
  ⟨nr, cc, gam, gam.map (s.cscOf n)⟩

/-! ### Strips (R253, R263, R266) -/

def CamFrame.strips (f : CamFrame) : Nat := (f.height + 63) / 64

/-- Rows that are written or have become fill rows. -/
def CamFrame.settled (f : CamFrame) : Nat := if f.ended || f.overrun then f.height else f.row

/-- The context's next strip, when it is ready: frames and strips in order, one strip of a context at a time (R253, R263). -/
def State.readyStrip (s : State) (n : Nat) : Option (Nat × Nat) :=
  if s.vis.ispHeld.contains n ∨ s.vis.pipes.entries.any (fun e => e.2.ctx == n) then none
  else
    match (s.cam n).frames.find? (fun f => decide (f.taken < f.strips)) with
    | some f => if min (64 * (f.taken + 1)) f.height ≤ f.settled then some (f.uid, f.taken) else none
    | none => none

/-- The key of R253. -/
def State.stripKey (s : State) (n : Nat) : Nat := (s.fld .ING_CTXn_CTRL [n] 31 16 + 65536 - s.phase) % 65536

/-- The scaled size of an output, limited under R267. -/
def limitSize (v size : Nat) : Nat := if v = 0 ∨ size < v then size else max v ((size + 15) / 16)

def OutCfg.w (o : OutCfg) (f : CamFrame) : Nat := limitSize (bits o.size 15 0) f.width
def OutCfg.h (o : OutCfg) (f : CamFrame) : Nat := limitSize (bits o.size 31 16) f.height
def OutCfg.fmt (o : OutCfg) : Nat := bits o.cfg 3 1
def OutCfg.stride (o : OutCfg) : Nat := bits o.cfg 31 16 * 256

/-- Channels of output 2: Y, RGB, or RGB and I; 3 is read as 2 (R269). -/
def OutCfg.chans (o : OutCfg) : Nat := if bits o.cfg 6 5 = 0 then 1 else if bits o.cfg 6 5 = 1 then 3 else 4
def OutCfg.cpad (o : OutCfg) : Nat := if bit o.cfg 7 then 16 else o.chans

/-- Bytes per output pixel of output `o` (R267). -/
def OutCfg.bpp (c : OutCfg) (o : Nat) : Nat :=
  if o = 0 then [3, 4, 2, 1].getD c.fmt 1
  else if o = 1 then 2
  else if c.fmt = 1 ∨ c.fmt = 2 then c.cpad else 2 * c.cpad

/-- The fields of output `o` as read at the start of a frame; a format code that R267 does not list stands for a free one of those it lists. -/
def State.readOut (s : State) (n : Nat) (f : CamFrame) (o : Nat) : OutCfg × State :=
  let cfg := s.reg .ISP_CTXn_OUTo_CFG [n, o]
  let (cfg, s) : Nat × State :=
    if o ≠ 1 ∧ 3 < bits cfg 3 1 then let (v, s) := s.free 2; (putBits cfg 3 1 v, s) else (cfg, s)
  let c : OutCfg := ⟨cfg, s.reg .ISP_CTXn_OUTo_SIZE [n, o], s.reg .ISP_CTXn_OUTo_CROPX [n, o], s.reg .ISP_CTXn_OUTo_CROPY [n, o],
    s.reg .ISP_CTXn_OUTo_BASE [n, o], false⟩
  let bad := decide (c.stride < bits c.cropx 31 16 * c.bpp o) || decide (c.w f < bits c.cropx 15 0 + bits c.cropx 31 16)
  ({ c with conflict := bit cfg 0 && bad }, s)

/-- A free pipe takes the ready strip with the smallest key, equal keys to the lower context (R253). -/
def State.stripSelect (s : State) (q : Nat) : State :=
  if (s.vis.pipes.find q).isSome then s
  else
    let cands := (upTo 32).filterMap (fun n => (s.readyStrip n).map (fun p => (n, p.1, p.2)))
    match (sortBy (fun (c : Nat × Nat × Nat) => s.stripKey c.1) cands) with
    | [] => s
    | (n, uid, k) :: _ =>
      let s := { s with vis := { s.vis with pipes := s.vis.pipes.put q ⟨n, uid, k⟩ } }
      let s := s.updFrame n uid (fun f => { f with taken := k + 1 })
      if k ≠ 0 then s
      else
        match (s.cam n).frames.find? (fun f => f.uid == uid) with
        | none => s
        | some f =>
          let (o0, s) := s.readOut n f 0
          let (o1, s) := s.readOut n f 1
          let (o2, s) := s.readOut n f 2
          s.updFrame n uid (fun f => { f.mark (b2n o0.conflict * 2 ^ 16 + b2n o1.conflict * 2 ^ 17 + b2n o2.conflict * 2 ^ 18) with outs := [o0, o1, o2] })

/-! ### Input rows and the carry area (R263) -/

/-- A ring row as the pipe reads it; a pixel that the line does not hold, or that comes poisoned, is free. -/
def State.ringRow (s : State) (n : Nat) (f : CamFrame) (r : Nat) : List Nat :=
  if f.stored ≤ r then List.replicate f.width (s.fillValue n)
  else
    let w := s.ringBytes n
    let a := s.reg64 .ING_CTXn_RBASE_LO .ING_CTXn_RBASE_HI [n] + (f.s0 + r) % s.ringSlots n * s.ringPitch n
    (List.range f.width).map (fun x =>
      if s.ringPitch n < (x + 1) * w ∨ s.poisoned (a + x * w) w then Config.ispUnread r x else s.mem.rdLE (a + x * w) w % 2 ^ s.ringBits n)

def State.carryAt (s : State) (n : Nat) (f : CamFrame) : Nat := s.wsAt n + f.height * f.width * 8

/-- The 8 rows below row `64 * k`. -/
def CamFrame.carryRows (f : CamFrame) (k : Nat) : List (List Nat) := (List.range 8).map (fun i => f.inRows.get [] (64 * k - 8 + i))

def carryBytes (f : CamFrame) (rows : List (List Nat)) : List Byte := (List.range (8 * f.width * 16)).map (Config.carryByte rows)

/-- The carry area is read back at the start of strip `k`: the rows written, zeros where it comes poisoned, other rows where other bytes stand there. -/
def State.readCarry (s : State) (n : Nat) (f : CamFrame) (k : Nat) : CamFrame :=
  if k = 0 then f
  else
    let a := s.carryAt n f
    let len := 8 * f.width * 16
    let rows := f.carryRows k
    let bs := s.mem.rdBytes a len
    if s.poisoned a len then
      { f.mark fsWRERR with inRows := (List.range 8).foldl (fun t i => t.put (64 * k - 8 + i) (List.replicate f.width 0)) f.inRows }
    else if bs = carryBytes f rows then f
    else { f with inRows := (List.range 8).foldl (fun t i => t.put (64 * k - 8 + i) ((List.range f.width).map (Config.carryPixel bs i))) f.inRows }

/-- A write of the pipe for a frame; a refused one sets WRERR. -/
def State.pipeWrite (s : State) (n uid a : Nat) (bs : List Byte) : State :=
  let (ok, s) := s.visWrite a bs
  if ok then s else s.updFrame n uid (fun f => f.mark fsWRERR)

/-! ### Outputs (R267 to R269) -/

/-- The channels of an output's source point in a produced row. -/
def IspRow.src (r : IspRow) (o : Nat) (c : OutCfg) (x : Nat) : List Nat :=
  let i := (r.nr.getD x []).getD 3 0
  if o = 2 then (if bit c.cfg 4 then r.gam else r.cc).getD x [] ++ [i]
  else if o = 0 ∧ c.fmt < 2 then r.gam.getD x []
  else r.ycc.getD x []

/-- Input position of output index `j`: its first tap's successor, and the fraction over `2 * out`. -/
def scalePos (size out j : Nat) : Nat × Nat := (((2 * j + 1) * size - out) / (2 * out), ((2 * j + 1) * size - out) % (2 * out))

/-- The last input row that scaled row `j` reads. -/
def lastRow (f : CamFrame) (c : OutCfg) (j : Nat) : Nat := min ((scalePos f.height (c.h f) j).1 + 2) (f.height - 1)

/-- Channel `ch` of scaled pixel (`i`, `j`). -/
def scaledPix (f : CamFrame) (o : Nat) (c : OutCfg) (ch i j : Nat) : Nat :=
  let (ix, fx) := scalePos f.width (c.w f) i
  let (iy, fy) := scalePos f.height (c.h f) j
  (Config.scaler fx (2 * c.w f) fy (2 * c.h f) ((List.range 4).flatMap (fun dy => (List.range 4).map (fun dx =>
    match f.prod.find (mirror f.height ((iy : Int) + (dy : Nat) - 1)) with
    | some r => (r.src o c (mirror f.width ((ix : Int) + (dx : Nat) - 1))).getD ch 0
    | none => 0)))).toNat

/-- An `n`-bit component (R267). -/
def component (n : Nat) (v : FV) : Nat := (roundInt false n 0 (v.mul (.fin false (2 ^ n - 1) 0))).code

/-- The exact mean of samples. -/
def meanOf (vs : List Nat) : FV := (FV.sum (vs.map ofFP32)).quot (.fin false vs.length 0)

/-- A scaled pixel's channel value of output 2 before formatting (R269). -/
def out2Chan (f : CamFrame) (c : OutCfg) (i j ch : Nat) : Nat :=
  if c.chans = 1 then lumaOf ((List.range 3).map (fun k => scaledPix f 2 c k i j)) else scaledPix f 2 c ch i j

/-- One pixel of output 2 (R269). -/
def State.out2Pixel (s : State) (n : Nat) (f : CamFrame) (c : OutCfg) (i j : Nat) : List Byte :=
  let mvo (ch : Nat) : FV := ofFP32 (s.reg .ISP_CTXn_MVOc [n, ch])
  let val (ch : Nat) : FV := ((ofFP32 (out2Chan f c i j ch)).mul (ofFP32 (s.reg .ISP_CTXn_MVSc [n, ch]))).add (mvo ch)
  if c.fmt = 1 ∨ c.fmt = 2 then
    let q (v : FV) : List Byte := leBytes 1 (roundInt (c.fmt == 1) 8 0 v).code
    (List.range c.cpad).flatMap (fun ch => if ch < c.chans then q (val ch) else q (mvo 0))
  else (List.range c.cpad).flatMap (fun ch => if ch < c.chans then leBytes 2 (fspecFP16.round (attZero 20 [i, j, ch]) (val ch)).code else leBytes 2 0)

/-- Columns and rows that an output writes (R268). -/
def OutCfg.cols (c : OutCfg) : Nat := bits c.cropx 31 16
def OutCfg.col0 (c : OutCfg) : Nat := bits c.cropx 15 0
def OutCfg.row0 (c : OutCfg) : Nat := bits c.cropy 15 0
def OutCfg.rows (c : OutCfg) (f : CamFrame) : Nat := min (bits c.cropy 31 16) (c.h f - c.row0)

/-- The samples of a 2-column block of crop columns, in rows `js`. -/
def chromaMean (f : CamFrame) (o : Nat) (c : OutCfg) (ch m : Nat) (js : List Nat) : FV :=
  let cols := [2 * m, 2 * m + 1].filter (fun i => decide (i < c.cols))
  meanOf (js.flatMap (fun j => cols.map (fun i => scaledPix f o c ch (c.col0 + i) (c.row0 + j))))

/-- The bytes of crop row `j` of an output's first plane. -/
def State.lumaRow (s : State) (n : Nat) (f : CamFrame) (o : Nat) (c : OutCfg) (j : Nat) : List Byte :=
  let px (ch i : Nat) : FV := ofFP32 (scaledPix f o c ch (c.col0 + i) (c.row0 + j))
  (List.range c.cols).flatMap (fun i =>
    if o = 2 then s.out2Pixel n f c (c.col0 + i) (c.row0 + j)
    else if o = 1 then leBytes 2 (component 10 (px 0 i) * 64)
    else if c.fmt = 0 then (List.range 3).flatMap (fun ch => leBytes 1 (component 8 (px ch i)))
    else if c.fmt = 1 then (List.range 3).flatMap (fun ch => leBytes 1 (component 8 (px ch i))) ++ [0xFF]
    else if c.fmt = 2 then leBytes 1 (component 8 (px 0 i)) ++ leBytes 1 (component 8 (chromaMean f o c (1 + i % 2) (i / 2) [j]))
    else leBytes 1 (component 8 (px 0 i)))

/-- The bytes of row `m` of the chroma plane: Cb, Cr pairs of 2 x 2 blocks. -/
def chromaRow (f : CamFrame) (o : Nat) (c : OutCfg) (m : Nat) : List Byte :=
  let js := [2 * m, 2 * m + 1].filter (fun j => decide (j < c.rows f))
  (List.range ((c.cols + 1) / 2)).flatMap (fun b => [1, 2].flatMap (fun ch =>
    let v := chromaMean f o c ch b js
    if o = 1 then leBytes 2 (component 10 v * 64) else leBytes 1 (component 8 v)))

/-- The output has a chroma plane. -/
def planar (o : Nat) (c : OutCfg) : Bool := o == 1 || (o == 0 && c.fmt == 3)

/-- The rows of output `o` whose inputs a strip completes (`lo` to `hi` are the input rows it produced). -/
def State.writeOut (s : State) (n : Nat) (f : CamFrame) (o lo hi : Nat) : State :=
  match f.outs[o]? with
  | none => s
  | some c =>
    if !bit c.cfg 0 ∨ c.conflict then s
    else
      let now (j : Nat) : Bool := let r := lastRow f c (c.row0 + j); decide (lo ≤ r) && decide (r ≤ hi)
      let base := c.base * 4096
      let s := ((List.range (c.rows f)).filter now).foldl (fun s j => s.pipeWrite n f.uid (base + j * c.stride) (s.lumaRow n f o c j)) s
      if planar o c then
        ((List.range ((c.rows f + 1) / 2)).filter (fun m => now (min (2 * m + 1) (c.rows f - 1)))).foldl (fun s m =>
          s.pipeWrite n f.uid (base + ((c.rows f + 1) / 2 * 2 + m) * c.stride) (chromaRow f o c m)) s
      else s

/-- The raw taps of the back end at points 2 and 3 (R270). -/
def State.backTaps (s : State) (n : Nat) (f : CamFrame) (y : Nat) (row : IspRow) : State :=
  foldState (fun s t =>
    let cfg := s.reg .ISP_CTXn_TAPt_CFG [n, t]
    if !bit cfg 0 ∨ bits cfg 2 1 < 2 then s
    else
      let px (x : Nat) : List Nat := if bits cfg 2 1 = 3 then row.nr.getD x [] else (List.range 4).map (s.stage5 n f y x)
      s.pipeWrite n f.uid (s.reg .ISP_CTXn_TAPt_BASE [n, t] * 4096 + y * bits cfg 31 16 * 256)
        ((List.range f.width).flatMap (fun x => (px x).flatMap (fun v => leBytes 2 (component 16 (ofFP32 v)))))) s (upTo 4)

/-- The white-balance cells of rows `y` and `y + 1` (R271). -/
def State.whiteBalance (s : State) (n j : Nat) (f : CamFrame) (y : Nat) : State :=
  if f.height ≤ y + 1 ∨ f.stored ≤ y + 1 then s
  else
    let sh := 2 ^ (s.ispB n - 16)
    let sat := s.fld .ISP_CTXn_STAT_CFG [n] 23 8
    (List.range (f.width / 2)).foldl (fun s i =>
      let x := 2 * i
      let vs := [s.stage4 n f y x / sh, s.stage4 n f y (x + 1) / sh, s.stage4 n f (y + 1) x / sh, s.stage4 n f (y + 1) (x + 1) / sh]
      if vs.all (fun v => decide (v < sat)) then
        let z := 48 * y / f.height * 64 + 64 * x / f.width
        s.updStat n j (fun t => { t with wb := bump (vs.zipIdx.foldl (fun w p => bump w (8 * z + p.2) p.1) t.wb) (8 * z + 4) 1 })
      else s) s

/-- One produced row: the reference, the taps, the row kept for the scalers. -/
def State.pipeRow (s : State) (n : Nat) (f : CamFrame) (y : Nat) : State :=
  let row := s.produceRow n f y
  let s := s.updFrame n f.uid (fun g => { g with prod := g.prod.put y row })
  let s := s.backTaps n f y row
  if !s.flag .ISP_CTXn_CTRL [n] 8 then s
  else
    let a := s.wsAt n + y * f.width * 8
    let s := if (s.cam n).refok ∧ s.poisoned a (f.width * 8) then s.updFrame n f.uid (fun g => g.mark fsWRERR) else s
    let s := if (s.cam n).refok then s else s.updFrame n f.uid (fun g => g.mark fsTNR_OFF)
    s.pipeWrite n f.uid a (row.nr.flatMap (fun px => px.flatMap (fun v => leBytes 2 (fspecFP16.round (ofFP32 v).isNeg (ofFP32 v)).code)))

/-! ### Completion of a frame (R251, R265, R272, R275) -/

/-- The frame's record is written; its statistics become the latest complete ones; REFOK follows. -/
def State.finishFrame (s : State) (n uid : Nat) : State :=
  match (s.cam n).frames.find? (fun f => f.uid == uid) with
  | none => s
  | some f =>
    let no := (s.cam n).recs
    let en (j : Nat) : Bool := s.flag .ING_CTXn_EMBj [n, j] 2
    let emb (j : Nat) : Option Nat := if en j then f.embVals.find j else none
    let miss := (upTo 16).any (fun j => en j && (emb j).isNone)
    let flk := match f.set with
      | some j => (s.statSet n j).flk.entries.any (fun e => decide (s.fld .ISP_CTXn_STAT_CFG [n] 31 24 * 256 < e.2))
      | none => false
    let status := Nat.lor f.status ((if miss then fsEMB_MISS else 0) + (if flk then fsFLICKER else 0))
    let ep := s.epochField n f.tag emb
    let s := s.writeRecord n status f.fsSweep f.fsPhase f.fePhase f.lines f.win f.crcLines f.fillRows ep emb
    let bad := (fsSHORT_FRAME + fsNO_FS + fsOVERRUN + fsPORTDROP)
    let s := match f.set with
      | some j => s.updStat n j (fun t => { t with busy := false, frame := no, epoch := ep, flicker := flk })
      | none => s
    let s := s.updCam n (fun c => { c with
      frames := c.frames.filter (fun g => g.uid != uid),
      refok := s.flag .ISP_CTXn_CTRL [n] 8 && Nat.land status bad == 0,
      lastDone := if f.set.isSome then f.set else c.lastDone,
      gathered := c.gathered + b2n f.set.isSome })
    if s.flag .ISP_CTXn_CTRL [n] 0 ∧ !s.vis.ispHeld.contains n then { s with vis := { s.vis with ispHeld := n :: s.vis.ispHeld } } else s

/-- STRIP_COMPLETE: input rows, stages 4 to 10, outputs, carry area, release of the ring slots; the last strip completes the frame once it has ended (R248, R253). -/
def State.stripComplete (s : State) (q : Nat) : State :=
  match s.vis.pipes.find q with
  | none => s
  | some job =>
    match (s.cam job.ctx).frames.find? (fun f => f.uid == job.uid) with
    | none => { s with vis := { s.vis with pipes := s.vis.pipes.erase q } }
    | some f =>
      let n := job.ctx
      let k := job.k
      let last := k + 1 == f.strips
      if last && !f.ended then s
      else
        let f := s.readCarry n f k
        let top := min (64 * k + 64) f.height
        let f := { f with inRows := (List.range (top - 64 * k)).foldl (fun t i => t.put (64 * k + i) (s.ringRow n f (64 * k + i))) f.inRows }
        let s := s.updFrame n f.uid (fun _ => f)
        let lo := 64 * k - 4
        let hi := if last then f.height - 1 else 64 * k + 59
        let rows := (List.range (hi + 1 - lo)).map (· + lo)
        let s := foldState (fun s y => s.pipeRow n f y) s rows
        let s := match f.set with
          | some j => (rows.filter (fun y => y % 2 == 0)).foldl (fun s y => s.whiteBalance n j f y) s
          | none => s
        let g := ((s.cam n).frames.find? (fun g => g.uid == f.uid)).getD f
        let s := foldState (fun s o => s.writeOut n g o lo hi) s [0, 1, 2]
        let s := if last then s else s.pipeWrite n f.uid (s.carryAt n f) (carryBytes f (f.carryRows (k + 1)))
        let s := s.updFrame n f.uid (fun g => { g with done := k + 1 })
        let s := { s with vis := { s.vis with pipes := s.vis.pipes.erase q } }
        if last then s.finishFrame n f.uid else s

/-! ### Publication of statistics (R273) -/

/-- The statistics record of a publication. -/
def State.statRecord (s : State) (n : Nat) (p : Publish) : List Byte × State :=
  let (ev, s) := s.free 32
  let (vb, s) := s.free 1
  let t := match p.set with | some j => s.statSet n j | none => StatRec.zero
  let none_ := p.set.isNone
  let hdr := leBytes 4 (if none_ then 0xFFFFFFFF else t.frame) ++ leBytes 4 (if none_ then ev else t.epoch) ++ leBytes 4 p.sweep ++
    leBytes 2 p.phase ++ leBytes 2 (min p.count 65535) ++
    leBytes 4 ((if none_ then vb else 1) + b2n none_ * 2 + b2n (!none_ && t.flicker) * 4) ++ List.replicate 44 0
  let body := (List.range 1024).flatMap (fun i => leBytes 4 (t.hist.get 0 i)) ++
    (List.range 3072).flatMap (fun z => (List.range 8).flatMap (fun i => leBytes 4 (if i < 5 then t.wb.get 0 (8 * z + i) else 0))) ++
    (List.range 128).flatMap (fun k => leBytes 4 (t.flk.get 0 k))
  (if none_ then hdr else hdr ++ body, s)

/-- STAT_RECORD_DONE: the record is visible, STATSEQ increments, the set is unlocked. -/
def State.statDone (s : State) (n : Nat) : State :=
  match (s.cam n).pub with
  | none => s
  | some p =>
    let (bs, s) := s.statRecord n p
    let cnt := let v := s.fld .ISP_CTXn_STAT_CFG [n] 7 0; if v = 0 then 256 else v
    let (_, s) := s.visWrite (s.reg .ISP_CTXn_STAT_BASE [n] * 4096 + (s.cam n).statSeq % cnt * 0x20000) bs
    s.updCam n (fun c => { c with statSeq := (c.statSeq + 1) % 65536, pub := none })

/-- The effect of a STATWIN entry on one context: the latest complete unpublished frame is published; a publication still under way ends first. -/
def State.statWindow (s : State) (sweep phase n : Nat) : State :=
  if !s.ingEn n then s
  else
    let s := s.statDone n
    let c := s.cam n
    let pick := c.lastDone.filter (fun j => !(s.statSet n j).published)
    let s := match pick with | some j => s.updStat n j (fun t => { t with published := true }) | none => s
    s.updCam n (fun c => { c with pub := some ⟨pick, sweep % 2 ^ 32, phase, c.gathered⟩, gathered := 0 })

/-! ### Views of registers -/

def State.ispStatus (s : State) (n : Nat) : Nat := (s.cam n).statSeq * 65536 + (s.cam n).epoch
def State.ispCtrl (s : State) (n : Nat) : Nat :=
  s.reg .ISP_CTXn_CTRL [n] + (s.cam n).waits.length * 2 ^ 17 + b2n (s.vis.ispHeld.contains n) * 2

/-! ### The commands -/

/-- STRIP_SELECT (R253, R266). -/
def execStripSelect (q : Fin 4) (s : State) : Host.Outcome State Fault Refusal := live s (fun s => s.stripSelect q.val)

/-- STRIP_COMPLETE (R251, R253, R263 to R270). -/
def execStripComplete (q : Fin 4) (s : State) : Host.Outcome State Fault Refusal := live s (fun s => s.stripComplete q.val)

/-- STAT_RECORD_DONE (R273). -/
def execStatRecordDone (n : Fin 32) (s : State) : Host.Outcome State Fault Refusal := live s (fun s => s.statDone n.val)

end Sys2Proof.Machine
end

