-- ==== Sys2Proof/Machine/SweepRows.lean ====
section
/-! DEFINITION. The effects of phase-table entries: NONE, an unlisted action, TRIG, I3C, RELEASE, SCAN, STATWIN, OPSET, REFRESH, PSTATE, DEADLINE (R66 to R70, R393). -/

namespace Sys2Proof.Machine
open Sys2Proof

/-- The oldest selected entry of index `i` with an action that `want` admits whose cycle has come, and the others. An entry waits for every entry that takes effect earlier,
but for those that R393 holds. -/
def State.dueEntry (s : State) (i : Nat) (want : Nat → Bool) : Option (Due × List Due) :=
  match takeFirst (fun (d : Due) => d.idx == i && want (ptAction d.lo) && decide (d.eff ≤ s.swp.cycle)) s.swp.due with
  | none => none
  | some (d, rest) => if rest.any (fun o => !o.held && decide (o.eff < d.eff)) then none else some (d, rest)

/-- The device is in RUN as far as the blocks that CAVE switches off are concerned (R386). -/
def State.awake (s : State) (_param : Nat) : Bool := !s.prs.cave

/-- OPSET needs the clusters that it masks (R393; log 41). -/
def State.opsetReady (s : State) (param : Nat) : Bool :=
  !s.prs.cave && (upTo 4).all (fun c => !bit param (4 + c) || s.inRun c)

/-- An entry takes effect, or is held until the domains its action needs are in RUN, and is then counted in LATEACT (R393). -/
def State.fire (s : State) (i : Nat) (want : Nat → Bool) (ready : State → Nat → Bool) (f : State → Due → Nat → State) : State :=
  match s.dueEntry i want with
  | none => s
  | some (d, rest) =>
    if ready s d.hi.toNat then
      let s := s.updSwp (fun w => { w with due := rest })
      f (if d.held then s.satInc .PRS_CNT1 [] 15 0 1 else s) d d.hi.toNat
    else s.updSwp (fun w => { w with due := { d with held := true } :: rest })

/-- An action that needs no domain of power states. -/
def noDomain (_ : State) (_ : Nat) : Bool := true

/-- NONE (R66): the entry fires without an effect. -/
def State.ptNone (s : State) (i : Nat) : State := s.fire i (· == 0) noDomain (fun s _ _ => s)

/-- An unlisted code (R66). -/
def State.badAct (s : State) (i : Nat) : State := s.fire i (fun a => decide (10 ≤ a)) noDomain (fun s _ _ => s.satInc .SWP_CNT1 [] 15 0 1)

/-- TRIG (R66, R256). -/
def State.ptTrig (s : State) (i : Nat) : State := s.fire i (· == 1) State.awake (fun s _ p => s.fsyncTrig (bits p 15 0))

/-- I3C (R66, R257). -/
def State.ptI3c (s : State) (i : Nat) : State := s.fire i (· == 2) State.awake (fun s _ p => s.i3cCopy (bits p 1 0) (bits p 9 2) (bit p 31))

/-- RELEASE (R66, R68, R70, R71). -/
def State.ptRelease (s : State) (i : Nat) : State := s.fire i (· == 3) State.awake (fun s d p => s.releaseQueue (bits p 7 0) d.sweep d.phase)

/-- SCAN (R66, R326). -/
def State.ptScan (s : State) (i : Nat) : State :=
  s.fire i (· == 4) State.awake (fun s _ p => foldState (fun s c => if bit p c then s.askScan c 0 else s) s (upTo 4))

/-- STATWIN (R66, R273). -/
def State.ptStatwin (s : State) (i : Nat) : State :=
  s.fire i (· == 5) State.awake (fun s d p => foldState (fun s n => if bit p n then s.statWindow d.sweep d.phase n else s) s (upTo 32))

/-- OPSET (R66, R378). -/
def State.ptOpset (s : State) (i : Nat) : State := s.fire i (· == 6) State.opsetReady (fun s _ p => s.opset p)

/-- REFRESH (R66, R296). -/
def State.ptRefresh (s : State) (i : Nat) : State := s.fire i (· == 7) State.awake (fun s _ p => s.refreshPermit (bits p 7 0))

/-- PSTATE (R66, R388). -/
def State.ptPstate (s : State) (i : Nat) : State := s.fire i (· == 8) noDomain (fun s _ p => s.pstate p)

/-- DEADLINE (R66, R69, R393). -/
def State.ptDeadline (s : State) (i : Nat) : State := s.fire i (· == 9) noDomain (fun s d p => s.deadlineCheck (bits p 7 0) d.sweep d.phase)

/-! ### The commands -/

/-- NONE. -/
def execPtNone (i : Fin 1024) (s : State) : Host.Outcome State Fault Refusal := live s (fun s => s.ptNone i.val)

/-- BAD_ACT. -/
def execBadAct (i : Fin 1024) (s : State) : Host.Outcome State Fault Refusal := live s (fun s => s.badAct i.val)

/-- TRIG. -/
def execTrig (i : Fin 1024) (s : State) : Host.Outcome State Fault Refusal := live s (fun s => s.ptTrig i.val)

/-- I3C. -/
def execI3c (i : Fin 1024) (s : State) : Host.Outcome State Fault Refusal := live s (fun s => s.ptI3c i.val)

/-- RELEASE. -/
def execRelease (i : Fin 1024) (s : State) : Host.Outcome State Fault Refusal := live s (fun s => s.ptRelease i.val)

/-- SCAN. -/
def execScan (i : Fin 1024) (s : State) : Host.Outcome State Fault Refusal := live s (fun s => s.ptScan i.val)

/-- STATWIN. -/
def execStatwin (i : Fin 1024) (s : State) : Host.Outcome State Fault Refusal := live s (fun s => s.ptStatwin i.val)

/-- OPSET. -/
def execOpset (i : Fin 1024) (s : State) : Host.Outcome State Fault Refusal := live s (fun s => s.ptOpset i.val)

/-- REFRESH. -/
def execRefresh (i : Fin 1024) (s : State) : Host.Outcome State Fault Refusal := live s (fun s => s.ptRefresh i.val)

/-- PSTATE. -/
def execPstate (i : Fin 1024) (s : State) : Host.Outcome State Fault Refusal := live s (fun s => s.ptPstate i.val)

/-- DEADLINE. -/
def execDeadline (i : Fin 1024) (s : State) : Host.Outcome State Fault Refusal := live s (fun s => s.ptDeadline i.val)

end Sys2Proof.Machine
end

