-- ==== Sys2Proof/Machine/RegWrite.lean ====
section
/-! DEFINITION. What a write of each register does beside storing its fields (the register tables of chapters 02 to 21), and which of its fields take the write. -/

namespace Sys2Proof.Machine
open Sys2Proof

/-! ### Storing a write (R13, R35, R39) -/

/-- `v` with the bits of `m` cleared. -/
def clearBits (v m : Nat) : Nat := v - Nat.land v m

/-- The stored word after a write of `data`: RW fields (those of `rw`) take it, W1C bits clear, W1S bits set, the bits a mask selects change,
and what any write clears is cleared. Bits of the other codes keep their value. -/
def storeBits (d : RegDesc) (rw old data : Nat) : Nat :=
  let v := Nat.lor (clearBits old rw) (Nat.land data rw)
  let v := Nat.lor (clearBits v (Nat.land data d.w1c)) (Nat.land data d.w1s)
  let m := Nat.land (data / 2 ^ 16) (d.mw % 2 ^ 16)
  clearBits (Nat.lor (clearBits v m) (Nat.land data m)) d.clr

/-- The RW fields that take a write as the block stands: locked fields, the fields of a sealed region, and fields that a command of their own carries do not. -/
def State.writable (s : State) (r : Reg) (is : List Nat) : Nat :=
  let m := r.desc.rw
  match r with
  | .FAB_SEALr_BASE | .FAB_SEALr_SIZE => if s.sealBit (nth is 0) || s.sealedBit (nth is 0) then 0 else m
  | .SCH_CTRL => if s.flag .SCH_CTRL is 2 then 0 else m
  | .SEC_APPg => if s.flag .SEC_APPg is 15 then 0 else m
  | .SEC_MPUr_RANGE | .SEC_MPUr_CFG => if s.flag .SEC_MPUr_CFG is 31 then 0 else m
  | .SEC_FWe_BASE | .SEC_FWe_LIMIT | .SEC_FWe_PERM => if s.flag .SEC_FWe_PERM is 31 then 0 else m
  | .VAT_RPRc_k => if s.flag .VAT_RPRc_k is 31 then 0 else m
  | .TILE_RPRk => if s.flag .TILE_CTRL (is.take 2) 0 then 0 else m
  | .MGT_CLSc => if nth is 0 = 7 ∨ nth is 0 = 10 then 0 else m
  | .PRS_DOMd => if nth is 0 = 6 then 0 else m
  | .FAB_BARj | .RNT_VALk => 0
  | _ => m

/-! ### Effects -/

/-- TILE_CTRL has been written over `old`: EN 0 to 1 starts the tile up (R94), 1 to 0 stops it (R95); LOCKSTEP 0 to 1 returns the other contexts in RUN to READY (R90). -/
def State.tileCtrlWritten (s : State) (is : List Nat) (old : Nat) : State :=
  let t := 34 * nth is 0 + nth is 1
  let new := s.reg .TILE_CTRL is
  let s :=
    if !bit old 0 && bit new 0 then
      if s.bindingsDistinct (nth is 0) then s.updTile t (fun x => { x with brining := true, ready := false, everOn := true })
      else s.setFlag .TILE_CTRL is 0 false
    else if bit old 0 && !bit new 0 then s.tileOff t
    else s
  if !bit old 1 && bit new 1 then
    s.updTile t (fun x => { x with
      sel := some 0, turn := false,
      ctx := ⟨x.ctx.entries.map (fun e => (e.1, if e.1 ≠ 0 ∧ e.2.st = .run then { e.2 with st := .ready } else e.2))⟩ })
  else s

/-- TILE_CTXk_CMD: 1 START, 2 STOP, at a READY tile that no kill has stopped (R95, R183). -/
def State.ctxCmd (s : State) (is : List Nat) (cmd : Nat) : State :=
  let t := 34 * nth is 0 + nth is 1
  if !(s.tile t).ready ∨ (s.tile t).killed then s
  else if cmd = 1 then s.startCtx t (nth is 2)
  else if cmd = 2 then s.stopCtx t (nth is 2)
  else s

/-- CLU_HOOPh_CFG has been written over `old` (R177). -/
def State.hoopCfgWritten (s : State) (is : List Nat) (old : Nat) : State :=
  let armed := s.flag .CLU_HOOPh_CFG is 31
  if armed && !bit old 31 then s.armHoop (nth is 0) (nth is 1)
  else if !armed && bit old 31 then s.disarmHoop (nth is 0) (nth is 1)
  else s

/-- SWP_CTRL has been written over `old` (R74). A change of SRC while EN is 1 stops the unit and starts it afresh (log 43). -/
def State.swpCtrlWritten (s : State) (old : Nat) : State :=
  let new := s.reg .SWP_CTRL []
  if !bit old 0 && bit new 0 then s.sweepStart
  else if bit old 0 && !bit new 0 then s.sweepStop
  else if bit new 0 && (bit old 1 != bit new 1) then s.sweepStop.sweepStart
  else s

/-- ING_PORTp_CFG has been written over `old`: EN 0 to 1 clears SYNC; a change to PHY, WIDTH or RATE while EN is 1 loses lock (R242). -/
def State.ingPortWritten (s : State) (p old : Nat) : State :=
  let new := s.reg .ING_PORTp_CFG [p]
  if !bit new 0 then s
  else if !bit old 0 then s.updPort p (fun x => { x with sync := false })
  else if bits old 3 1 ≠ bits new 3 1 ∨ bits old 15 8 ≠ bits new 15 8 then s.updPort p (fun x => { x with lost := true })
  else s

/-- ING_CTXn_SRC has been written over `old` (R255, R276). -/
def State.ingSrcWritten (s : State) (n old : Nat) : State :=
  let en := s.ingEn n
  if en && !bit old 0 then s.ingEnable n
  else if !en && bit old 0 then s.ingDisable n
  else s

/-- A hold request is cleared: HELD clears in the same cycle (R53). -/
def State.unhold (s : State) : HoldUnit → State
  | .window w => s.updFab (fun f => { f with winHeld := f.winHeld.filter (· ≠ w.val) })
  | .ing n => { s with vis := { s.vis with ingHeld := s.vis.ingHeld.filter (· ≠ n.val) } }
  | .isp n => { s with vis := { s.vis with ispHeld := s.vis.ispHeld.filter (· ≠ n.val) } }
  | .prs => s.setFlag .PRS_CTRL [] 2 false

/-- A bucket's level is cut to a new capacity (R199). -/
def State.cutLevel (s : State) (cfgR lvlR : Reg) (i u : Nat) : State :=
  s.setReg lvlR [i] (min (s.reg lvlR [i]) ((s.fld cfgR [i] 15 8 + 1) * u))

/-- SCH_CTRL (R317): RST reads 0 and clears LOCK, whatever else the write holds; START otherwise. -/
def State.schCtrlWritten (s : State) (c data : Nat) : State :=
  let s := s.setFlag .SCH_CTRL [c] 0 false
  if bit data 0 then s.schRst c else if bit data 3 then s.schStart c else s

/-- SEC_APPg, in the same way. -/
def State.appWritten (s : State) (g data : Nat) : State :=
  let s := s.setFlag .SEC_APPg [g] 14 false
  if bit data 14 then s.appRst g else if bit data 16 then s.appStart g else s

/-- A DCMD write with GO outside the row I3C_DCMD: what the target answers is free. -/
def State.dcmdGo (s : State) (c : Nat) : State :=
  let (v, s) := s.free 33
  s.i3cCommand c (bit v 32) (bits v 31 0)

/-- What a write of `data` over `old` does once the fields are stored. -/
def State.writeEffect (s : State) (ini : Initiator) (r : Reg) (is : List Nat) (old data : Nat) : State :=
  let i := nth is 0
  match r with
  | .GLB_RSTREQ => if bit data 0 then s.bootReset .swreq else s
  | .SWP_CTRL => s.swpCtrlWritten old
  | .SWP_PTi_HI => s.ptCommitted i
  | .SWP_CNTCLR => if bit data 0 then (s.setReg .SWP_CNT0 [] 0).setReg .SWP_CNT1 [] 0 else s
  | .SWP_MISS_POP => if bit data 0 then s.updSwp (fun w => { w with miss := w.miss.drop 1 }) else s
  | .TILE_CTRL => s.tileCtrlWritten is old
  | .TILE_CTXk_CMD => s.ctxCmd is (bits data 1 0)
  | .TILE_STALLCLR => let t := 34 * i + nth is 1; if bit data 0 then s.zeroRegs (tileWin t + 0x200) (tileWin t + 0x240) else s
  | .TILE_SFLD_CTL => if bit data 31 then s.startScaleLoad (34 * i + nth is 1) else s
  | .TILE_STATCTL =>
    let t := 34 * i + nth is 1
    let s := if bit data 0 then s.statSnap t else s
    if bit data 1 then s.statClr t else s
  | .RNT_VALk => s.counterNow i (.set data)
  | .RNT_ADDk => s.counterNow i (.add data)
  | .FAB_WINw_CTRL => if bit data 1 then s else s.unhold (.window ⟨i % 256, Nat.mod_lt i (by decide)⟩)
  | .CLU_HOOPh_CFG => s.hoopCfgWritten is old
  | .CLU_HOOPh_LOG => if bit data 31 then (s.setReg .CLU_HOOPh_LOG is 0).setReg .CLU_HOOPh_TALLY is 0 else s
  | .FAB_BARj => s.barWrite i data
  | .FAB_KILL => if bit data 31 then s.killRequest (bits data 7 0) else s
  | .FAB_TREGg => s.cutLevel .FAB_TREGg .FAB_TLVLg i 512
  | .FAB_CREGc => s.cutLevel .FAB_CREGc .FAB_CLVLc i 16384
  | .FAB_SEALr_CTRL =>
    if bit data 0 && !bit old 0 then s.sealWrite i else if !bit data 0 && bit old 0 then s.unsealWrite i else s
  | .FAB_BRN_CTL => if bit data 31 then s.brineGo else s
  | .MMU_INV_CTL => if bit data 31 then s.mmuInv else s
  | .ATT_CTRL => if bit data 0 then s else s.attStop i
  | .ATT_GO => if bit data 0 then s.attGo i else s
  | .ATT_TFENCE => if bit data 0 then s.attFence i else s
  | .ING_PORTp_CFG => s.ingPortWritten i old
  | .ING_CTXn_SRC => s.ingSrcWritten i old
  | .ING_CTXn_CTRL => if bit data 0 then s else s.unhold (.ing ⟨i % 32, Nat.mod_lt i (by decide)⟩)
  | .ISP_CTXn_CTRL => if bit data 0 then s else s.unhold (.isp ⟨i % 32, Nat.mod_lt i (by decide)⟩)
  | .PAD_I3Cc_CTRL => if bit data 0 then s else s.setI3c i []
  | .PAD_I3Cc_DCMD => if bit data 31 then s.dcmdGo i else s
  | .COD_COREk_CTRL => if bit data 0 then s else s.codStop i
  | .COD_COREk_GO => if bit data 0 then s.codGo i else s
  | .LPX_GCTRL => if bit data 0 then s.lpxInit else s
  | .SCH_CTRL => s.schCtrlWritten i data
  | .SEC_GATE => if bit data 1 then s.setFlag .SEC_GATE [] 0 false else s
  | .SEC_LC => s.lcAdvance (ini.cls == .isl) (bits data 6 4)
  | .SEC_FUSEADV => s.minverAdvance (ini.cls == .isl) (bits data 6 0)
  | .SEC_KCMD => s.keyCommand (bits data 19 6)
  | .SEC_APPg => s.appWritten i data
  | .NET_PORTp_CFG => s.portCfgWritten i old
  | .NET_TCFG => if bit data 0 != bit old 0 then s.tbEnable (bit data 0) else s
  | .NET_QBVp_CHG_HI => s.gateHandOver i
  | .NET_TXq_CFG => if bit data 31 && !bit old 31 then s.ringEnable i else s
  | .PCI_CTRL => if bit data 0 != bit old 0 then s.pcieEnabled (bit data 0) else s
  | .PRS_CTRL => if bit data 1 then s else s.unhold .prs
  | .PRS_DOMd => s.domWritten i old
  | .PRS_WAKE => s.prsWake (if s.prs.cave && ini.cls != .isl then bits data 3 0 else bits data 4 0)
  | .MGT_CLSc => if bit data 2 then s.setFld .MGT_CLSc [i] 31 16 0 else s
  | .MGT_ELOG_CTL => if bit data 31 then s.elogPop else s
  | .MGT_EOUT => if bit data 30 then s.errFall else s
  | .MGT_WDGw => s.wdgWritten i old data
  | .MGT_DLMONm =>
    if bit data 31 && !bit old 31 then
      (s.setFld .MGT_DLMONm [i] 15 8 0).updMgt (fun m => { m with dlSignalled := m.dlSignalled.filter (· ≠ i) })
    else s
  | .MGT_CMP_CTL => if bit data 31 then s.cmpGo else s
  | .CLU_SPARE => if bit data 31 then s.spareRequest i else s
  | _ => s

/-! ### What reads return (R34) -/

/-- SWP_STATUS.STATE. -/
def sweepCode : SweepSt → Nat
  | .idle => 0 | .acquire => 1 | .locked => 2 | .slew => 3 | .holdover => 4

/-- TILE_CTXk_STATE.STATE (table of R85). -/
def ctxCode : CtxSt → Nat
  | .idle => 0 | .ready => 1 | .run => 2 | .wait => 3 | .park => 4 | .halted => 5 | .fault => 6

/-- NET_TSTAT.STATE. -/
def tbCode : TbSt → Nat
  | .disabled => 0 | .acquire => 1 | .sync => 2 | .holdover => 3

/-- TILE_STATUS. -/
def Tile.status (x : Tile) : Nat :=
  b2n x.ready + b2n x.brining * 2 + b2n (x.mq != []) * 4 + x.cur % 4 * 16

/-- TILE_ARR: OWNER, OWNED and MODE of each slice (R79). -/
def Tile.arr (x : Tile) : Nat :=
  ((upTo 4).map (fun k =>
    let sl := x.slices.get Slice.free k
    (sl.owner.getD 0 % 4 + b2n (sl.owner.isSome || sl.releasing) * 4 + sl.mode % 4 * 8) * 256 ^ k)).foldl (· + ·) 0

/-- TILE_CTXk_STATE: state and the slices the context owns. -/
def Tile.ctxState (x : Tile) (k : Nat) : Nat :=
  ctxCode (x.context k).st + ((upTo 4).map (fun j => b2n ((x.slices.get Slice.free j).owner == some k) * 2 ^ (4 + j))).foldl (· + ·) 0

/-- TILE_STRM_Q: requests of each context's queue and fetches in flight (R194). -/
def Tile.strmQ (x : Tile) : Nat :=
  ((upTo 4).map (fun k => (x.reqs.filter (fun r => r.ctx == k && r.queued)).length % 32 * 32 ^ k)).foldl (· + ·) 0 + x.inflight % 512 * 2 ^ 20

/-- FAB_KILL: JID as last written, RUNJID, RUN, HELD and BUSY. -/
def State.killReg (s : State) : Nat :=
  s.fld .FAB_KILL [] 7 0 +
  (match s.fab.kill with | some k => k.jid % 256 * 256 + 2 ^ 16 + b2n k.held * 2 ^ 29 | none => 0) +
  b2n (s.fab.kill.isSome || s.fab.killPend != []) * 2 ^ 30

/-- SWP_MISS_LO and SWP_MISS_HI: the head record of the miss FIFO. -/
def State.missLo (s : State) : Nat :=
  match s.swp.miss with | [] => 0 | m :: _ => 2 ^ 31 + m.acted % 4 * 2 ^ 24 + m.queue % 256 * 2 ^ 16 + m.phase % 65536
def State.missHi (s : State) : Nat :=
  match s.swp.miss with | [] => 0 | m :: _ => m.tag % 65536 * 65536 + m.sweep % 65536

/-- The value a read of a register returns: the stored fields, and the fields that show the state of a unit. -/
def State.readReg (s : State) (r : Reg) (is : List Nat) : Nat :=
  let i := nth is 0
  let t := 34 * i + nth is 1
  let st := s.reg r is
  match r with
  | .GLB_CYCLES_LO => s.pressNow % 2 ^ 32
  | .GLB_CYCLES_HI => s.pressNow / 2 ^ 32 % 2 ^ 32
  | .SWP_STATUS => sweepCode s.swp.st + b2n (s.period != s.reg .SWP_PERIOD []) * 8
  | .SWP_NOW => s.swp.count % 65536 * 65536 + s.phase
  | .SWP_SWEEP_LO => s.swp.count % 2 ^ 32
  | .SWP_SWEEP_HI => s.swp.count / 2 ^ 32 % 2 ^ 32
  | .SWP_MISS_LO => s.missLo
  | .SWP_MISS_HI => s.missHi
  | .TILE_STATUS => (s.tile t).status
  | .TILE_ARR => (s.tile t).arr
  | .TILE_CYCLES_LO => (s.tile t).clk % 2 ^ 32
  | .TILE_CYCLES_HI => (s.tile t).clk / 2 ^ 32 % 2 ^ 32
  | .TILE_CTXk_STATE => (s.tile t).ctxState (nth is 2)
  | .TILE_STRM_Q => (s.tile t).strmQ
  | .RNT_WAITk => s.parkedOn i
  | .RNT_ADDk => 0
  | .FAB_WINw_CTRL => st + b2n (s.fab.winHeld.contains i) * 4
  | .FAB_KILL => s.killReg
  | .FAB_KILL_PENDi => ((upTo 32).map (fun b => b2n (s.fab.killPend.contains (32 * i + b)) * 2 ^ b)).foldl (· + ·) 0
  | .FAB_BRN_CTL => st + b2n (decide (16 ≤ s.fab.brine.length)) * 2 ^ 30
  | .MMU_INV_CTL => st + b2n s.fab.inv * 2 ^ 30
  | .ATT_STATUS => s.attStatus i
  | .ING_PORTp_STAT => st + b2n (s.port i).sync * 2 + b2n (s.port i).stop
  | .ING_CTXn_CTRL => st + b2n (s.vis.ingHeld.contains i) * 2
  | .PAD_I3Cc_STAT => st + (s.i3cQueue i).length
  | .ISP_CTXn_CTRL => s.ispCtrl i
  | .ISP_CTXn_STATUS => s.ispStatus i
  | .COD_COREk_STATUS => s.codStatus i
  | .NET_TSTAT => st + tbCode s.net.tb
  | .NET_QBVp_CTRL => st + b2n (s.qbv i).adm.isSome * 2
  | .MGT_ELOGk => s.elogWord i
  | .MGT_ELOG_CTL => st + s.mgt.log.length % 512 * 2 ^ 16
  | .MGT_EOUT => st + b2n (!s.mgt.errLow) * 2 ^ 29
  | .MGT_WDGw => if i = 0 then putBits st 29 29 1 else st
  | .MGT_CMP_CTL => st + b2n s.mgt.cmp.isSome * 2 ^ 30
  | _ => st

end Sys2Proof.Machine
end

