-- ==== Sys2Proof/Machine/Bus.lean ====
section
/-! DEFINITION. Register and memory accesses as the fabric takes them: size, decoding, firewall (R32, R33, R44, R315, R364, R365), staging (R41),
domains that are not in RUN (R391), and what a write does. -/

namespace Sys2Proof.Machine
open Sys2Proof

/-! ### Who may access what -/

/-- The island MPU: the lowest-numbered enabled region that contains the first byte decides; outside every region, machine mode may and user mode may not (R364). -/
def State.mpuAllows (s : State) (c : Cls) (a : Nat) (write : Bool) : Bool :=
  match (upTo 8).find? (fun r => let (b, n) := s.mpuRange r; decide (islandBase + b ≤ a) && decide (a < islandBase + b + n)) with
  | none => c == .isl
  | some r => s.flag .SEC_MPUr_CFG [r] ((if c = .isl then 0 else 3) + b2n write)

/-- The access is not DENIED: SEC takes only class ISL, island SRAM only the island under its MPU, everything else is the firewall's (R315, R365).
The debug initiator needs an unlock with DEBUG (R373). -/
def State.permits (s : State) (ini : Initiator) (a n : Nat) (write : Bool) : Bool :=
  (ini.cls != .dbg || s.debugUnlocked) &&
  (if 0x200000 ≤ a ∧ a < 0x300000 then ini.cls == .isl
   else if s.region a = .island then (ini.cls == .isl || ini.cls == .mgs) && s.mpuAllows ini.cls a write
   else s.fwAllows ini.cls a n write)

/-- Writes that a register's own table denies: bindings once a tile has been enabled, GLB_RSTREQ and MGT_EOUT but from ISL, KICK but from the watched processor (R24, R398, R399, R423). -/
def State.ownDenies (s : State) (ini : Initiator) (r : Reg) (is : List Nat) (data : Nat) : Bool :=
  match r with
  | .CLU_REMAPl => ini.cls != .isl || s.tiles.entries.any (fun e => clusterOf e.1 == nth is 0 && e.2.everOn)
  | .GLB_RSTREQ | .MGT_EOUT => ini.cls != .isl
  | .MGT_WDGw => bit data 31 && ini.cls != (if nth is 0 = 0 then .isl else if nth is 0 < 5 then .sch else .app)
  | _ => false

/-! ### Register writes -/

/-- The staged LO of a 64-bit value; the committed LO while nothing else is staged (R41). -/
def State.staged (s : State) (a : Nat) : Word := s.stage.get (s.rg a) a

/-- A write to a listed register that is not denied: a LO goes to staging; a HI commits both halves; any other write is stored at once (R35, R39, R41).
A SLOT of 34 to 63 names no slot and is ignored (log 44). -/
def State.regWrite (s : State) (ini : Initiator) (r : Reg) (is : List Nat) (a data : Nat) : State :=
  let d := r.desc
  let rw := s.writable r is
  if r = .CLU_REMAPl ∧ 33 < bits data 5 0 then s
  else
    match d.kind with
    | .lo => { s with stage := s.stage.set (s.rg a) a (BitVec.ofNat 32 (storeBits d rw (s.staged a).toNat data)) }
    | .hi =>
      let lo := s.staged (a - 4)
      let old := (s.rg a).toNat
      let s := (s.setRg a (BitVec.ofNat 32 (storeBits d rw old data))).setRg (a - 4) lo
      ({ s with stage := s.stage.erase (a - 4) }).writeEffect ini r is old data
    | _ =>
      let old := (s.rg a).toNat
      (s.setRg a (BitVec.ofNat 32 (storeBits d rw old data))).writeEffect ini r is old data

/-- A DENIED register write; a refused fuse write also sets SEC_LC.ERR (R366). -/
def State.deny (s : State) (ini : Initiator) (a data : Nat) : State :=
  let s := s.accessError 3 ini a data
  if a = Reg.adr .SEC_FUSEADV [] ∨ (a = Reg.adr .SEC_LC [] ∧ bits data 6 4 ≠ 0) then s.fuseErr else s

/-- An aligned 32-bit write into the control window. -/
def State.controlWrite (s : State) (ini : Initiator) (a data : Nat) : State :=
  if regsNear a = [] then s.accessError 2 ini a data
  else if !s.permits ini a 4 true then s.deny ini a data
  else
    match regAt a with
    | none => s.accessError 2 ini a data
    | some (r, is) =>
      if s.ownDenies ini r is data then s.deny ini a data
      else
        match s.sleeping a with
        | some d => (s.hold (.reg ini a 32 (BitVec.ofNat 32 data))).wakeFor d
        | none => s.regWrite ini r is a data

/-! ### Memory writes -/

/-- A permitted write that lies in one memory: refused in a locked or write-blocked range, dropped at a closed aperture, where it changes no landing flag (R169, R303, R317). -/
def State.storeMem (s : State) (ini : Initiator) (a : Nat) (bs : List Byte) : State :=
  match s.region a with
  | .spad t => if s.apertureOpen t then s.spWr t (a - spadBase t) bs else s
  | .vat _ => (s.memWrite ini a bs).2
  | .lpx => (s.memWrite ini a bs).2
  | .none => s
  | .control => s
  | _ => if s.meetsLock a then s.accessError 3 ini a (leNat (bs.take 4)) else s.wrMem a bs

/-- The bytes of a write by the memory they lie in: address and bytes of each piece, the last first. -/
def State.cutMem (s : State) : Nat → List Byte → List (Nat × List Byte) → List (Nat × List Byte)
  | _, [], acc => acc
  | a, b :: bs, (p, ps) :: acc =>
    if s.region a = s.region p then s.cutMem (a + 1) bs ((p, ps ++ [b]) :: acc) else s.cutMem (a + 1) bs ((a, [b]) :: (p, ps) :: acc)
  | a, b :: bs, [] => s.cutMem (a + 1) bs [(a, [b])]

/-- A write of `bs` at `a` outside the control window (R33, R45, R365). -/
def State.memAccess (s : State) (ini : Initiator) (a : Nat) (bs : List Byte) : State :=
  let d := leNat (bs.take 4)
  let ps := s.cutMem a bs []
  if ps.any (fun p => decide (s.region p.1 = .none) || decide (s.region p.1 = .control)) then s.accessError 2 ini a d
  else if !s.permits ini a bs.length true then s.accessError 3 ini a d
  else
    match s.sleeping a with
    | some k => (s.hold (.mem ini a bs)).wakeFor k
    | none => ps.reverse.foldl (fun s p => s.storeMem ini p.1 p.2) s

/-- A register access of `width` bits (R32): to the control window, or 4 bytes of a memory. -/
def State.busWrite (s : State) (ini : Initiator) (a width data : Nat) : State :=
  if width ≠ 32 ∨ a % 4 ≠ 0 then s.accessError 1 ini a data
  else if s.region a = .control then s.controlWrite ini a data
  else s.memAccess ini a (leBytes 4 data)

/-- A memory write; the control window takes only aligned 32-bit accesses (R32). -/
def State.memoryWrite (s : State) (ini : Initiator) (a : Nat) (bs : List Byte) : State :=
  if bs = [] then s
  else if s.region a = .control then
    if bs.length = 4 ∧ a % 4 = 0 then s.controlWrite ini a (leNat bs) else s.accessError 1 ini a (leNat (bs.take 4))
  else s.memAccess ini a bs

/-! ### Reads -/

/-- The debug path of R188: while the kill unit holds a killed tile before its brine, the debug initiator still reads its scratchpad. The management
block's log of such a read has no record format and is not kept. -/
def State.heldRead (s : State) (ini : Initiator) (t : Nat) : Bool :=
  ini.cls == .dbg && s.dbgHold t && (s.tile t).killed && (match s.fab.kill with | some k => k.held | none => false)

/-- A register read: its value and the error that a refused one records; none while it waits for a domain in RUN (R32, R33, R34, R391). -/
def State.busRead (s : State) (ini : Initiator) (a width : Nat) : Option Nat × State :=
  if width ≠ 32 ∨ a % 4 ≠ 0 then (some 0, s.accessError 1 ini a 0)
  else if s.region a = .none ∨ (s.region a = .control ∧ regsNear a = []) then (some 0, s.accessError 2 ini a 0)
  else if !s.permits ini a 4 false then (some 0, s.accessError 3 ini a 0)
  else
    match s.sleeping a with
    | some d => (none, s.wakeFor d)
    | none =>
      match s.region a with
      | .control => match regAt a with
        | some (r, is) => (some (s.readReg r is), s)
        | none => (some 0, s.accessError 2 ini a 0)
      | .spad t => (some (if s.apertureOpen t || s.heldRead ini t then s.mem.rdLE a 4 else 0), s)
      | .vat _ => let (m, s) := s.memRead a 4 ini.src.toNat .clean; (some (leNat m.bytes), s)
      | .lpx => let (m, s) := s.memRead a 4 ini.src.toNat .clean; (some (leNat m.bytes), s)
      | _ => (some (s.mem.rdLE a 4), s)

/-! ### Held accesses -/

/-- A held access is performed, or held again while its domain still sleeps (R391). -/
def State.perform (s : State) : HeldAcc → State
  | .reg ini a w d => s.busWrite ini a w d.toNat
  | .mem ini a bs => s.memoryWrite ini a bs
  | .win w a bs =>
    match s.sleeping a with
    | some d => (s.hold (.win w a bs)).wakeFor d
    | none =>
      match s.region a with
      | .spad t => if s.spareHolds t then s.hold (.win w a bs) else s.winWrite w a bs
      | _ => s.winWrite w a bs

/-- The held accesses in their order. -/
def State.performHeld (s : State) : State := s.held.foldl State.perform { s with held := [] }

end Sys2Proof.Machine
end

