-- ==== Sys2Proof/Machine/Reset.lean ====
section
/-! DEFINITION. Reset sources, brown-out, thermal trip, alerts and sync balls (R418, R423 to R428). -/

namespace Sys2Proof.Machine
open Sys2Proof

/-- What a reset through PORST_N keeps of the register store: fuses (R366, R423). -/
def State.fuseRegs (s : State) : Tab Word :=
  let put (r : Reg) (v : Nat) (t : Tab Word) : Tab Word := t.set (regReset (r.adr [])) (r.adr []) (BitVec.ofNat 32 v)
  put .SEC_MINVER_LO (s.reg .SEC_MINVER_LO []) (put .SEC_MINVER_HI (s.reg .SEC_MINVER_HI []) (put .SEC_LC s.lcState .empty))

/-- Everything returns to its reset state: POR, and BOR and TRIP as POR; `cause` is the bit of GLB_RSTCAUSE (R423, R425). Commands that wait are not the device's. -/
def State.fullReset (s : State) (cause : Nat) (rst : Rst) : State :=
  let s := s.fuseStruck
  { State.reset with
    pending := s.pending, fresh := s.fresh, regs := s.fuseRegs.set 0 0x300 (BitVec.ofNat 32 (2 ^ cause)), rst := rst,
    prs := { Prs.zero with pins := s.prs.pins },
    sec := { Sec.zero with
      flash := s.sec.flash, uds := s.sec.uds, algsel := s.sec.algsel, rootHash := s.sec.rootHash, revoke := s.sec.revoke, dbgHash := s.sec.dbgHash } }

/-- PORST_N_ASSERT. -/
def State.porstAssert (s : State) : State := s.fullReset 0 { s.rst with porst := true }

/-- BROWN_OUT: VDD_X lies at `mV` for `ns` (R426). -/
def State.brownOut (s : State) (mV ns : Nat) : State :=
  if mV < 660 ∨ (mV < 700 ∧ 2000 ≤ ns) then s.fullReset 1 { s.rst with bor := true }
  else if s.up ∧ mV ≤ 727 ∧ 1000 ≤ ns then s.signalU 14 1 0
  else s

/-- RESET_HOLD_END: the last source that ends lets the loader run (R424). -/
def State.holdEnd (s : State) (h : HoldSrc) : State :=
  let was := s.up
  let s := { s with rst := (match h with | .bor => { s.rst with bor := false } | .trip => { s.rst with trip := false }) }
  if !was ∧ s.up then s.loader else s

/-- PMB_ALERT: a falling edge; `highMs` tells that the ball had been high for 1 ms (R418). -/
def State.pmbAlert (s : State) (highMs : Bool) : State :=
  if highMs ∨ !s.mgt.alerted then (s.updMgt (fun m => { m with alerted := true })).signalU 14 2 0 else s

/-- SYNC_PPS_EDGE: a pulse of at least 100 ns is time-stamped while the timebase is enabled (R428). -/
def State.ppsEdge (s : State) (widthNs : Nat) : State :=
  if 100 ≤ widthNs ∧ s.flag .NET_TCFG [] 0 then s.setReg64 .GLB_PPS_LO .GLB_PPS_HI [] (s.net.time % 2 ^ 64) else s

/-! ### The commands -/

/-- PORST_N_ASSERT (R423). -/
def execPorstNAssert (s : State) : Host.Outcome State Fault Refusal := .next s.porstAssert

/-- BROWN_OUT (R426). VDD_X above its range is operation outside the limits, where no statement of the manual holds (R4, R417). -/
def execBrownOut (mV ns : Nat) (s : State) : Host.Outcome State Fault Refusal := if 772 < mV then .fault .outsideLimits else .next (s.brownOut mV ns)

/-- THERMAL_TRIP (R423). -/
def execThermalTrip (s : State) : Host.Outcome State Fault Refusal := .next (s.fullReset 2 { s.rst with trip := true })

/-- RESET_HOLD_END (R424). -/
def execResetHoldEnd (h : HoldSrc) (s : State) : Host.Outcome State Fault Refusal := .next (s.holdEnd h)

/-- PMB_ALERT (R418). -/
def execPmbAlert (highMs : Bool) (s : State) : Host.Outcome State Fault Refusal := live s (fun s => s.pmbAlert highMs)

/-- SYNC_PPS_EDGE (R428). -/
def execSyncPpsEdge (widthNs : Nat) (s : State) : Host.Outcome State Fault Refusal := live s (fun s => s.ppsEdge widthNs)

end Sys2Proof.Machine
end

