-- ==== Sys2Proof/Machine/BusRows.lean ====
section
/-! DEFINITION. The commands that are accesses of an initiator: register writes, each under its own name, memory writes, management requests; holds; and the end of an exit, which performs
the accesses that waited. -/

namespace Sys2Proof.Machine
open Sys2Proof

/-- A 32-bit write to an instance of a register. -/
def State.wr (s : State) (ini : Initiator) (r : Reg) (is : List Nat) (data : Nat) : State := s.busWrite ini (r.adr is) 32 data

/-- The value that a write of one field leaves the others with: the RW fields as they stand. -/
def State.rwPart (s : State) (r : Reg) (is : List Nat) : Nat := Nat.land (s.reg r is) r.desc.rw

/-- A write that sets or clears bit `i` of a register and keeps its RW fields. -/
def State.wrBit (s : State) (ini : Initiator) (r : Reg) (is : List Nat) (i : Nat) (b : Bool) : State :=
  s.wr ini r is (putBits (s.rwPart r is) i i (b2n b))

/-! ### Register interface (chapter 02) -/

/-- REGISTER_WRITE (R32, R33, R35). -/
def execRegisterWrite (ini : Initiator) (addr : PAddr) (width : Nat) (data : Word) (s : State) : Host.Outcome State Fault Refusal :=
  live s (fun s => s.busWrite ini addr.toNat width data.toNat)

/-- MASKED_WRITE (R39). -/
def execMaskedWrite (ini : Initiator) (addr : PAddr) (data : Word) (s : State) : Host.Outcome State Fault Refusal :=
  live s (fun s => s.busWrite ini addr.toNat 32 data.toNat)

/-- LO_STAGED_WRITE (R41). -/
def execLoStagedWrite (ini : Initiator) (addr : PAddr) (data : Word) (s : State) : Host.Outcome State Fault Refusal :=
  live s (fun s => s.busWrite ini addr.toNat 32 data.toNat)

/-- HI_COMMIT_WRITE (R41). -/
def execHiCommitWrite (ini : Initiator) (addr : PAddr) (data : Word) (s : State) : Host.Outcome State Fault Refusal :=
  live s (fun s => s.busWrite ini addr.toNat 32 data.toNat)

/-- The register, indices and bit of a HOLD. -/
def holdBit : HoldUnit → Reg × List Nat × Nat
  | .window w => (.FAB_WINw_CTRL, [w.val], 1)
  | .ing n => (.ING_CTXn_CTRL, [n.val], 0)
  | .isp n => (.ISP_CTXn_CTRL, [n.val], 0)
  | .prs => (.PRS_CTRL, [], 1)

/-- HOLD_REQUEST (R53). -/
def execHoldRequest (ini : Initiator) (u : HoldUnit) (s : State) : Host.Outcome State Fault Refusal :=
  live s (fun s => let (r, is, b) := holdBit u; s.wrBit ini r is b true)

/-- HOLD_RELEASE (R53). -/
def execHoldRelease (ini : Initiator) (u : HoldUnit) (s : State) : Host.Outcome State Fault Refusal :=
  live s (fun s => let (r, is, b) := holdBit u; s.wrBit ini r is b false)

/-- HELD becomes 1: HOLD is 1 and no unit that reads the pair is in progress (R53, R55). -/
def State.heldSet (s : State) (u : HoldUnit) : State :=
  let (r, is, b) := holdBit u
  if !s.flag r is b then s
  else
    match u with
    | .window w => if s.fab.winHeld.contains w.val then s else s.updFab (fun f => { f with winHeld := w.val :: f.winHeld })
    | .ing n =>
      if s.vis.ingHeld.contains n.val ∨ (s.cam n.val).openFrame.isSome then s else { s with vis := { s.vis with ingHeld := n.val :: s.vis.ingHeld } }
    | .isp n =>
      if s.vis.ispHeld.contains n.val ∨ (s.cam n.val).frames.any (fun f => decide (0 < f.taken)) then s
      else { s with vis := { s.vis with ispHeld := n.val :: s.vis.ispHeld } }
    | .prs => s.setFlag .PRS_CTRL [] 2 true

/-- HELD_SET (R53). -/
def execHeldSet (u : HoldUnit) (s : State) : Host.Outcome State Fault Refusal := live s (fun s => s.heldSet u)

/-! ### Sweep unit (chapter 03) -/

/-- SWP_ENABLE (R74): the write of SWP_CTRL with EN = 1. -/
def execSwpEnable (ini : Initiator) (data : Word) (s : State) : Host.Outcome State Fault Refusal :=
  live s (fun s => s.wr ini .SWP_CTRL [] (putBits data.toNat 0 0 1))

/-- SWP_DISABLE (R74). -/
def execSwpDisable (ini : Initiator) (data : Word) (s : State) : Host.Outcome State Fault Refusal :=
  live s (fun s => s.wr ini .SWP_CTRL [] (putBits data.toNat 0 0 0))

/-- SWP_CNTCLR (R73). -/
def execSwpCntclr (ini : Initiator) (s : State) : Host.Outcome State Fault Refusal := live s (fun s => s.wr ini .SWP_CNTCLR [] 1)

/-- SWP_MISS_POP (R73). -/
def execSwpMissPop (ini : Initiator) (s : State) : Host.Outcome State Fault Refusal := live s (fun s => s.wr ini .SWP_MISS_POP [] 1)

/-! ### Tiles (chapters 04 to 07) -/

/-- TILE_ENABLE (R94). -/
def execTileEnable (ini : Initiator) (t : TileId) (s : State) : Host.Outcome State Fault Refusal :=
  live s (fun s => s.wrBit ini .TILE_CTRL (tix t.val) 0 true)

/-- TILE_READY (R94): the start-up brine of an enabled tile ends. -/
def execTileReady (t : TileId) (s : State) : Host.Outcome State Fault Refusal :=
  liveIn (clusterOf t.val) s (fun s => if (s.tile t.val).brining then s.tileStartUp t.val else s)

/-- TILE_DISABLE (R95). -/
def execTileDisable (ini : Initiator) (t : TileId) (s : State) : Host.Outcome State Fault Refusal :=
  live s (fun s => s.wrBit ini .TILE_CTRL (tix t.val) 0 false)

/-- START (R95). -/
def execStart (ini : Initiator) (t : TileId) (k : CtxId) (s : State) : Host.Outcome State Fault Refusal :=
  live s (fun s => s.wr ini .TILE_CTXk_CMD (tix t.val ++ [k.val]) 1)

/-- STOP (R95). -/
def execStop (ini : Initiator) (t : TileId) (k : CtxId) (s : State) : Host.Outcome State Fault Refusal :=
  live s (fun s => s.wr ini .TILE_CTXk_CMD (tix t.val ++ [k.val]) 2)

/-- LOCKSTEP (R90). -/
def execLockstep (ini : Initiator) (t : TileId) (on : Bool) (s : State) : Host.Outcome State Fault Refusal :=
  live s (fun s => s.wrBit ini .TILE_CTRL (tix t.val) 1 on)

/-- STALL_COUNTERS_CLEAR (R89). -/
def execStallCountersClear (ini : Initiator) (t : TileId) (s : State) : Host.Outcome State Fault Refusal :=
  live s (fun s => s.wr ini .TILE_STALLCLR (tix t.val) 1)

/-- SCALE_LOAD_GO (R152). -/
def execScaleLoadGo (ini : Initiator) (t : TileId) (data : Word) (s : State) : Host.Outcome State Fault Refusal :=
  live s (fun s => s.wr ini .TILE_SFLD_CTL (tix t.val) (putBits data.toNat 31 31 1))

/-- STAT_SNAP (R162). -/
def execStatSnap (ini : Initiator) (t : TileId) (s : State) : Host.Outcome State Fault Refusal :=
  live s (fun s => s.wr ini .TILE_STATCTL (tix t.val) 1)

/-- STAT_CLR (R162). -/
def execStatClr (ini : Initiator) (t : TileId) (s : State) : Host.Outcome State Fault Refusal :=
  live s (fun s => s.wr ini .TILE_STATCTL (tix t.val) 2)

/-! ### Counters, hoops, barriers, kills (chapter 08) -/

/-- RNT_VAL_WRITE (R170). -/
def execRntValWrite (ini : Initiator) (k : BitVec 14) (data : Word) (s : State) : Host.Outcome State Fault Refusal :=
  live s (fun s => s.wr ini .RNT_VALk [k.toNat] data.toNat)

/-- RNT_ADD_WRITE (R170). -/
def execRntAddWrite (ini : Initiator) (k : BitVec 14) (data : Word) (s : State) : Host.Outcome State Fault Refusal :=
  live s (fun s => s.wr ini .RNT_ADDk [k.toNat] data.toNat)

/-- HOOP_ARM (R177). -/
def execHoopArm (ini : Initiator) (c : Fin 4) (h : Fin 64) (data : Word) (s : State) : Host.Outcome State Fault Refusal :=
  live s (fun s => s.wr ini .CLU_HOOPh_CFG [c.val, h.val] (putBits data.toNat 31 31 1))

/-- FAB_BAR_WRITE (R180). -/
def execFabBarWrite (ini : Initiator) (j : BitVec 8) (data : Word) (s : State) : Host.Outcome State Fault Refusal :=
  live s (fun s => s.wr ini .FAB_BARj [j.toNat] data.toNat)

/-- KILL_REQUEST (R184): a FAB_KILL write of an initiator, or a request of the sweep unit. -/
def execKillRequest (ini : Option Initiator) (jid : BitVec 8) (s : State) : Host.Outcome State Fault Refusal :=
  live s (fun s => match ini with
    | some ini => s.wr ini .FAB_KILL [] (2 ^ 31 + jid.toNat)
    | none => s.killRequest jid.toNat)

/-! ### Attention engines (chapter 11) -/

/-- ATT_GO (R223). -/
def execAttGo (ini : Initiator) (c : Fin 4) (s : State) : Host.Outcome State Fault Refusal := live s (fun s => s.wr ini .ATT_GO [c.val] 1)

/-- ATT_TFENCE (R239). -/
def execAttTfence (ini : Initiator) (c : Fin 4) (s : State) : Host.Outcome State Fault Refusal := live s (fun s => s.wr ini .ATT_TFENCE [c.val] 1)

/-- ATT_STOP (R241). -/
def execAttStop (ini : Initiator) (c : Fin 4) (s : State) : Host.Outcome State Fault Refusal := live s (fun s => s.wrBit ini .ATT_CTRL [c.val] 0 false)

/-! ### Cameras (chapters 12 and 13) -/

/-- ING_CONTEXT_ENABLE (R276). -/
def execIngContextEnable (ini : Initiator) (n : Fin 32) (s : State) : Host.Outcome State Fault Refusal :=
  live s (fun s => s.wrBit ini .ING_CTXn_SRC [n.val] 0 true)

/-- ING_CONTEXT_DISABLE (R255). -/
def execIngContextDisable (ini : Initiator) (n : Fin 32) (s : State) : Host.Outcome State Fault Refusal :=
  live s (fun s => s.wrBit ini .ING_CTXn_SRC [n.val] 0 false)

/-- I3C_DCMD (R259): the write with GO, and what the target answers. A write that is not performed has no command. -/
def State.i3cDcmd (s : State) (ini : Initiator) (c data : Nat) (ack : Bool) (rdata : Nat) : State :=
  let a := Reg.adr .PAD_I3Cc_DCMD [c]
  if !s.permits ini a 4 true ∨ (s.sleeping a).isSome then s.busWrite ini a 32 (putBits data 31 31 1)
  else (s.busWrite ini a 32 (putBits data 31 31 0)).i3cCommand c ack rdata

/-- I3C_DCMD. -/
def execI3cDcmd (ini : Initiator) (c : Fin 4) (data : Word) (ack : Bool) (rdata : Word) (s : State) : Host.Outcome State Fault Refusal :=
  live s (fun s => s.i3cDcmd ini c.val data.toNat ack rdata.toNat)

/-! ### Codecs (chapter 14) -/

/-- COD_GO (R280). -/
def execCodGo (ini : Initiator) (k : Fin 3) (s : State) : Host.Outcome State Fault Refusal := live s (fun s => s.wr ini .COD_COREk_GO [k.val] 1)

/-- CODEC_STOP (R285). -/
def execCodecStop (ini : Initiator) (k : Fin 3) (s : State) : Host.Outcome State Fault Refusal :=
  live s (fun s => s.wrBit ini .COD_COREk_CTRL [k.val] 0 false)

/-! ### Memory and fabric (chapter 15) -/

/-- LPX_INIT (R292). -/
def execLpxInit (ini : Initiator) (data : Word) (s : State) : Host.Outcome State Fault Refusal :=
  live s (fun s => s.wr ini .LPX_GCTRL [] (putBits data.toNat 0 0 1))

/-- MMU_INV (R300). -/
def execMmuInv (ini : Initiator) (data : Word) (s : State) : Host.Outcome State Fault Refusal :=
  live s (fun s => s.wr ini .MMU_INV_CTL [] (putBits data.toNat 31 31 1))

/-- SEAL (R302). -/
def execSeal (ini : Initiator) (r : Fin 64) (s : State) : Host.Outcome State Fault Refusal := live s (fun s => s.wr ini .FAB_SEALr_CTRL [r.val] 1)

/-- UNSEAL (R305). -/
def execUnseal (ini : Initiator) (r : Fin 64) (s : State) : Host.Outcome State Fault Refusal := live s (fun s => s.wr ini .FAB_SEALr_CTRL [r.val] 0)

/-- BRINE_GO (R307). -/
def execBrineGo (ini : Initiator) (data : Word) (s : State) : Host.Outcome State Fault Refusal :=
  live s (fun s => s.wr ini .FAB_BRN_CTL [] (putBits data.toNat 31 31 1))

/-- INITIATOR_MEMORY_WRITE (R33, R169, R303, R315, R365). -/
def execInitiatorMemoryWrite (ini : Initiator) (addr : PAddr) (data : List Byte) (s : State) : Host.Outcome State Fault Refusal :=
  live s (fun s => s.memoryWrite ini addr.toNat data)

/-! ### Scheduler cores (chapter 16) -/

/-- SCH_RST (R317). -/
def execSchRst (ini : Initiator) (c : Fin 4) (s : State) : Host.Outcome State Fault Refusal :=
  live s (fun s => s.wr ini .SCH_CTRL [c.val] (s.rwPart .SCH_CTRL [c.val] + 1))

/-- SCH_LOCK (R317): LOCK with LOCK_4K. -/
def execSchLock (ini : Initiator) (c : Fin 4) (lock4k : BitVec 7) (s : State) : Host.Outcome State Fault Refusal :=
  live s (fun s => s.wr ini .SCH_CTRL [c.val] (lock4k.toNat * 256 + 4))

/-- SCH_START (R317). -/
def execSchStart (ini : Initiator) (c : Fin 4) (s : State) : Host.Outcome State Fault Refusal :=
  live s (fun s => s.wr ini .SCH_CTRL [c.val] (s.rwPart .SCH_CTRL [c.val] + 8))

/-! ### Network and PCIe (chapter 17) -/

/-- PCIE_ENABLE (R347): a write of PCI_CTRL. -/
def execPcieEnable (ini : Initiator) (data : Word) (s : State) : Host.Outcome State Fault Refusal :=
  live s (fun s => s.wr ini .PCI_CTRL [] data.toNat)

/-- The management service: the island in user mode (R349, R365). -/
def iniMgs : Initiator := ⟨.mgs, 0xA8⟩

/-- MGMT_REQUEST (R349): served while the island runs, for a peer with MGMT, over MACsec or link IDE. -/
def State.mgmtRequest (s : State) (peer : Option (Fin 256)) (secure : Bool) (req : MgmtReq) : State :=
  match peer with
  | none => s
  | some p =>
    if !secure ∨ s.sec.island.isNone ∨ !s.peerValid p.val ∨ !s.flag .NET_PEERi_CFG [p.val] 6 then s
    else
      match req with
      | .regWrite a d => s.busWrite iniMgs a.toNat 32 d.toNat
      | .regRead a => (s.busRead iniMgs a.toNat 32).2
      | .stage a bs => match s.region a.toNat with
        | .vat _ => s.memoryWrite iniMgs a.toNat bs
        | _ => s

/-- MGMT_REQUEST. -/
def execMgmtRequest (peer : Option (Fin 256)) (secure : Bool) (req : MgmtReq) (s : State) : Host.Outcome State Fault Refusal :=
  live s (fun s => s.mgmtRequest peer secure req)

/-! ### Security (chapter 18) -/

/-- SEC_GATE_CLOSE (R355). -/
def execSecGateClose (ini : Initiator) (s : State) : Host.Outcome State Fault Refusal := live s (fun s => s.wr ini .SEC_GATE [] 2)

/-- A write of SEC_KCMD whose descriptor holds the key command `op` (R370). -/
def State.kcmdWrite (s : State) (ini : Initiator) (op desc : Nat) : State :=
  if s.mem.rdLE (islandBase + desc * 64) 1 = op then s.wr ini .SEC_KCMD [] (desc * 64) else s

/-- CHECK (R370). -/
def execCheck (ini : Initiator) (desc : BitVec 14) (s : State) : Host.Outcome State Fault Refusal := live s (fun s => s.kcmdWrite ini 1 desc.toNat)

/-- DERIVE (R370). -/
def execDerive (ini : Initiator) (desc : BitVec 14) (s : State) : Host.Outcome State Fault Refusal := live s (fun s => s.kcmdWrite ini 2 desc.toNat)

/-- SIGN (R370). -/
def execSign (ini : Initiator) (desc : BitVec 14) (s : State) : Host.Outcome State Fault Refusal := live s (fun s => s.kcmdWrite ini 3 desc.toNat)

/-- PUBKEY (R370). -/
def execPubkey (ini : Initiator) (desc : BitVec 14) (s : State) : Host.Outcome State Fault Refusal := live s (fun s => s.kcmdWrite ini 4 desc.toNat)

/-- ERASE (R370). -/
def execErase (ini : Initiator) (desc : BitVec 14) (s : State) : Host.Outcome State Fault Refusal := live s (fun s => s.kcmdWrite ini 5 desc.toNat)

/-- MINVER_ADVANCE (R366). -/
def execMinverAdvance (ini : Initiator) (goal : BitVec 7) (s : State) : Host.Outcome State Fault Refusal :=
  live s (fun s => s.wr ini .SEC_FUSEADV [] goal.toNat)

/-- LC_ADVANCE (R371). -/
def execLcAdvance (ini : Initiator) (goal : BitVec 3) (s : State) : Host.Outcome State Fault Refusal :=
  live s (fun s => s.wr ini .SEC_LC [] (goal.toNat * 16))

/-- APP_LOCK (R362): LOCK with LOCK_4K. -/
def execAppLock (ini : Initiator) (g : Fin 2) (lock4k : BitVec 7) (s : State) : Host.Outcome State Fault Refusal :=
  live s (fun s => s.wr ini .SEC_APPg [g.val] (lock4k.toNat + 2 ^ 15))

/-- APP_START (R362). -/
def execAppStart (ini : Initiator) (g : Fin 2) (s : State) : Host.Outcome State Fault Refusal :=
  live s (fun s => s.wr ini .SEC_APPg [g.val] (s.rwPart .SEC_APPg [g.val] + 2 ^ 16))

/-- APP_RST (R362). -/
def execAppRst (ini : Initiator) (g : Fin 2) (s : State) : Host.Outcome State Fault Refusal :=
  live s (fun s => s.wr ini .SEC_APPg [g.val] (s.rwPart .SEC_APPg [g.val] + 2 ^ 14))

/-- MPU_LOCK (R364). -/
def execMpuLock (ini : Initiator) (r : Fin 8) (data : Word) (s : State) : Host.Outcome State Fault Refusal :=
  live s (fun s => s.wr ini .SEC_MPUr_CFG [r.val] (putBits data.toNat 31 31 1))

/-- FIREWALL_LOCK (R365). -/
def execFirewallLock (ini : Initiator) (e : Fin 32) (data : Word) (s : State) : Host.Outcome State Fault Refusal :=
  live s (fun s => s.wr ini .SEC_FWe_PERM [e.val] (putBits data.toNat 31 31 1))

/-! ### Press (chapter 19) -/

/-- DOMAIN_REQUEST_WRITE (R377). -/
def execDomainRequestWrite (ini : Initiator) (d : Fin 7) (data : Word) (s : State) : Host.Outcome State Fault Refusal :=
  live s (fun s => s.wr ini .PRS_DOMd [d.val] data.toNat)

/-- PRS_WAKE (R391). -/
def execPrsWake (ini : Initiator) (data : Word) (s : State) : Host.Outcome State Fault Refusal := live s (fun s => s.wr ini .PRS_WAKE [] data.toNat)

/-- EXIT_COMPLETE (R392): the domain is in RUN, and the accesses that waited for it are performed (R391). -/
def execExitComplete (d : PDomain) (s : State) : Host.Outcome State Fault Refusal :=
  live s (fun s => (s.exitComplete (domainNum d)).performHeld)

/-! ### Availability (chapter 20) -/

/-- ELOG_POP (R397). -/
def execElogPop (ini : Initiator) (s : State) : Host.Outcome State Fault Refusal := live s (fun s => s.wr ini .MGT_ELOG_CTL [] (2 ^ 31))

/-- EOUT_RUN (R398): RUN, with FORCE as it stands and no PEND bit cleared. -/
def execEoutRun (ini : Initiator) (s : State) : Host.Outcome State Fault Refusal :=
  live s (fun s => s.wr ini .MGT_EOUT [] (s.rwPart .MGT_EOUT [] + 2 ^ 31))

/-- MGT_CLS_CLR (R396). -/
def execMgtClsClr (ini : Initiator) (c : Fin 16) (s : State) : Host.Outcome State Fault Refusal :=
  live s (fun s => s.wr ini .MGT_CLSc [c.val] (s.rwPart .MGT_CLSc [c.val] + 4))

/-- KICK (R399). -/
def execKick (ini : Initiator) (w : Fin 7) (s : State) : Host.Outcome State Fault Refusal :=
  live s (fun s => s.wr ini .MGT_WDGw [w.val] (s.rwPart .MGT_WDGw [w.val] + 2 ^ 31))

/-- CMP_GO (R401). -/
def execCmpGo (ini : Initiator) (data : Word) (s : State) : Host.Outcome State Fault Refusal :=
  live s (fun s => s.wr ini .MGT_CMP_CTL [] (putBits data.toNat 31 31 1))

/-- SPARE_ARM (R402). -/
def execSpareArm (ini : Initiator) (c : Fin 4) (data : Word) (s : State) : Host.Outcome State Fault Refusal :=
  live s (fun s => s.wr ini .CLU_SPARE [c.val] (putBits data.toNat 31 31 1))

/-- VAT_REPAIR (R405). -/
def execVatRepair (ini : Initiator) (c : Fin 4) (k : Fin 256) (data : Word) (s : State) : Host.Outcome State Fault Refusal :=
  live s (fun s => s.wr ini .VAT_RPRc_k [c.val, k.val] (putBits data.toNat 31 31 1))

/-- HART_OFFLINE (R411). -/
def execHartOffline (ini : Initiator) (off : BitVec 12) (s : State) : Host.Outcome State Fault Refusal :=
  live s (fun s => s.wr ini .CTL_HARTOFF [] off.toNat)

/-- GLB_RSTREQ_BOOT (R423). -/
def execGlbRstreqBoot (ini : Initiator) (s : State) : Host.Outcome State Fault Refusal := live s (fun s => s.wr ini .GLB_RSTREQ [] 1)

end Sys2Proof.Machine
end

