-- ==== Sys2Proof/Machine/MatrixRows.lean ====
section
/-! DEFINITION. The M-slot instructions as commands of one context: each is the next bundle, a single word (log 7). What they do stands in `Matrix` and `Issue`. -/

namespace Sys2Proof.Machine
open Sys2Proof

/-- MLDI (R142). -/
def execMldi (t : TileId) (k : CtxId) (g : Guard) (f : MX) (s : State) : Host.Outcome State Fault Refusal :=
  liveIn (clusterOf t.val) s (fun s => s.rowIssue t.val k.val ⟨.MLDI, g, .mx f⟩)

/-- MSTW (R143). -/
def execMstw (t : TileId) (k : CtxId) (g : Guard) (f : MX) (s : State) : Host.Outcome State Fault Refusal :=
  liveIn (clusterOf t.val) s (fun s => s.rowIssue t.val k.val ⟨.MSTW, g, .mx f⟩)

/-- MDRN (R144). -/
def execMdrn (t : TileId) (k : CtxId) (g : Guard) (f : MX) (s : State) : Host.Outcome State Fault Refusal :=
  liveIn (clusterOf t.val) s (fun s => s.rowIssue t.val k.val ⟨.MDRN, g, .mx f⟩)

/-- MPART (R145). -/
def execMpart (t : TileId) (k : CtxId) (g : Guard) (f : MX) (s : State) : Host.Outcome State Fault Refusal :=
  liveIn (clusterOf t.val) s (fun s => s.rowIssue t.val k.val ⟨.MPART, g, .mx f⟩)

/-- MCLR (R146). -/
def execMclr (t : TileId) (k : CtxId) (g : Guard) (f : MX) (s : State) : Host.Outcome State Fault Refusal :=
  liveIn (clusterOf t.val) s (fun s => s.rowIssue t.val k.val ⟨.MCLR, g, .mx f⟩)

end Sys2Proof.Machine
end

