-- ==== Sys2Proof/Machine/ScalarRows.lean ====
section
/-! DEFINITION. The S-slot instructions as commands of one context: each is the next bundle, a single word (log 7). What they do stands in `SSlot` and `Issue`. -/

namespace Sys2Proof.Machine
open Sys2Proof

/-- ADD (R122). -/
def execAdd (t : TileId) (k : CtxId) (g : Guard) (f : SA) (s : State) : Host.Outcome State Fault Refusal :=
  liveIn (clusterOf t.val) s (fun s => s.rowIssue t.val k.val ⟨.ADD, g, .sa f⟩)

/-- SUB (R122). -/
def execSub (t : TileId) (k : CtxId) (g : Guard) (f : SA) (s : State) : Host.Outcome State Fault Refusal :=
  liveIn (clusterOf t.val) s (fun s => s.rowIssue t.val k.val ⟨.SUB, g, .sa f⟩)

/-- AND (R122). -/
def execAnd (t : TileId) (k : CtxId) (g : Guard) (f : SA) (s : State) : Host.Outcome State Fault Refusal :=
  liveIn (clusterOf t.val) s (fun s => s.rowIssue t.val k.val ⟨.AND, g, .sa f⟩)

/-- OR (R122). -/
def execOr (t : TileId) (k : CtxId) (g : Guard) (f : SA) (s : State) : Host.Outcome State Fault Refusal :=
  liveIn (clusterOf t.val) s (fun s => s.rowIssue t.val k.val ⟨.OR, g, .sa f⟩)

/-- XOR (R122). -/
def execXor (t : TileId) (k : CtxId) (g : Guard) (f : SA) (s : State) : Host.Outcome State Fault Refusal :=
  liveIn (clusterOf t.val) s (fun s => s.rowIssue t.val k.val ⟨.XOR, g, .sa f⟩)

/-- SHL (R122). -/
def execShl (t : TileId) (k : CtxId) (g : Guard) (f : SA) (s : State) : Host.Outcome State Fault Refusal :=
  liveIn (clusterOf t.val) s (fun s => s.rowIssue t.val k.val ⟨.SHL, g, .sa f⟩)

/-- SHR (R122). -/
def execShr (t : TileId) (k : CtxId) (g : Guard) (f : SA) (s : State) : Host.Outcome State Fault Refusal :=
  liveIn (clusterOf t.val) s (fun s => s.rowIssue t.val k.val ⟨.SHR, g, .sa f⟩)

/-- LDN (R123). -/
def execLdn (t : TileId) (k : CtxId) (g : Guard) (f : SM) (s : State) : Host.Outcome State Fault Refusal :=
  liveIn (clusterOf t.val) s (fun s => s.rowIssue t.val k.val ⟨.LDN, g, .sm f⟩)

/-- STN (R123). -/
def execStn (t : TileId) (k : CtxId) (g : Guard) (f : SM) (s : State) : Host.Outcome State Fault Refusal :=
  liveIn (clusterOf t.val) s (fun s => s.rowIssue t.val k.val ⟨.STN, g, .sm f⟩)

/-- BR (R124). -/
def execBr (t : TileId) (k : CtxId) (g : Guard) (f : SB) (s : State) : Host.Outcome State Fault Refusal :=
  liveIn (clusterOf t.val) s (fun s => s.rowIssue t.val k.val ⟨.BR, g, .sb f⟩)

/-- BRC (R124). -/
def execBrc (t : TileId) (k : CtxId) (g : Guard) (f : SB) (s : State) : Host.Outcome State Fault Refusal :=
  liveIn (clusterOf t.val) s (fun s => s.rowIssue t.val k.val ⟨.BRC, g, .sb f⟩)

/-- LOOP (R125). -/
def execLoop (t : TileId) (k : CtxId) (g : Guard) (f : SB) (s : State) : Host.Outcome State Fault Refusal :=
  liveIn (clusterOf t.val) s (fun s => s.rowIssue t.val k.val ⟨.LOOP, g, .sb f⟩)

/-- CALL (R124). -/
def execCall (t : TileId) (k : CtxId) (g : Guard) (f : SB) (s : State) : Host.Outcome State Fault Refusal :=
  liveIn (clusterOf t.val) s (fun s => s.rowIssue t.val k.val ⟨.CALL, g, .sb f⟩)

/-- RET (R124). -/
def execRet (t : TileId) (k : CtxId) (g : Guard) (s : State) : Host.Outcome State Fault Refusal :=
  liveIn (clusterOf t.val) s (fun s => s.rowIssue t.val k.val ⟨.RET, g, .sn⟩)

/-- CSRRD (R126). -/
def execCsrrd (t : TileId) (k : CtxId) (g : Guard) (f : SC) (s : State) : Host.Outcome State Fault Refusal :=
  liveIn (clusterOf t.val) s (fun s => s.rowIssue t.val k.val ⟨.CSRRD, g, .sc f⟩)

/-- CSRWR (R126). -/
def execCsrwr (t : TileId) (k : CtxId) (g : Guard) (f : SC) (s : State) : Host.Outcome State Fault Refusal :=
  liveIn (clusterOf t.val) s (fun s => s.rowIssue t.val k.val ⟨.CSRWR, g, .sc f⟩)

/-- YIELD (R110). -/
def execYield (t : TileId) (k : CtxId) (g : Guard) (s : State) : Host.Outcome State Fault Refusal :=
  liveIn (clusterOf t.val) s (fun s => s.rowIssue t.val k.val ⟨.YIELD, g, .sn⟩)

/-- HALT (R111). -/
def execHalt (t : TileId) (k : CtxId) (g : Guard) (s : State) : Host.Outcome State Fault Refusal :=
  liveIn (clusterOf t.val) s (fun s => s.rowIssue t.val k.val ⟨.HALT, g, .sn⟩)

end Sys2Proof.Machine
end

