-- ==== Sys2Proof/Machine/StreamRows.lean ====
section
/-! DEFINITION. The T-slot instructions as commands of one context: each is the next bundle, a single word (log 7). What they do stands in `TSlot` and `Issue`. -/

namespace Sys2Proof.Machine
open Sys2Proof

/-- SOPEN (R127). -/
def execSopen (t : TileId) (k : CtxId) (g : Guard) (f : TS) (s : State) : Host.Outcome State Fault Refusal :=
  liveIn (clusterOf t.val) s (fun s => s.rowIssue t.val k.val ⟨.SOPEN, g, .ts f⟩)

/-- SIDX (R128). -/
def execSidx (t : TileId) (k : CtxId) (g : Guard) (f : TS) (s : State) : Host.Outcome State Fault Refusal :=
  liveIn (clusterOf t.val) s (fun s => s.rowIssue t.val k.val ⟨.SIDX, g, .ts f⟩)

/-- SBLK (R128). -/
def execSblk (t : TileId) (k : CtxId) (g : Guard) (f : TS) (s : State) : Host.Outcome State Fault Refusal :=
  liveIn (clusterOf t.val) s (fun s => s.rowIssue t.val k.val ⟨.SBLK, g, .ts f⟩)

/-- SLAND (R129). -/
def execSland (t : TileId) (k : CtxId) (g : Guard) (f : TS) (s : State) : Host.Outcome State Fault Refusal :=
  liveIn (clusterOf t.val) s (fun s => s.rowIssue t.val k.val ⟨.SLAND, g, .ts f⟩)

/-- SEND (R130). -/
def execSend (t : TileId) (k : CtxId) (g : Guard) (f : TX) (s : State) : Host.Outcome State Fault Refusal :=
  liveIn (clusterOf t.val) s (fun s => s.rowIssue t.val k.val ⟨.SEND, g, .tx f⟩)

/-- RNADD (R131). -/
def execRnadd (t : TileId) (k : CtxId) (g : Guard) (f : TR) (s : State) : Host.Outcome State Fault Refusal :=
  liveIn (clusterOf t.val) s (fun s => s.rowIssue t.val k.val ⟨.RNADD, g, .tr f⟩)

/-- RNSET (R131). -/
def execRnset (t : TileId) (k : CtxId) (g : Guard) (f : TR) (s : State) : Host.Outcome State Fault Refusal :=
  liveIn (clusterOf t.val) s (fun s => s.rowIssue t.val k.val ⟨.RNSET, g, .tr f⟩)

/-- RNWAIT (R131). -/
def execRnwait (t : TileId) (k : CtxId) (g : Guard) (f : TR) (s : State) : Host.Outcome State Fault Refusal :=
  liveIn (clusterOf t.val) s (fun s => s.rowIssue t.val k.val ⟨.RNWAIT, g, .tr f⟩)

/-- BAR (R134). -/
def execBar (t : TileId) (k : CtxId) (g : Guard) (f : TB) (s : State) : Host.Outcome State Fault Refusal :=
  liveIn (clusterOf t.val) s (fun s => s.rowIssue t.val k.val ⟨.BAR, g, .tb f⟩)

/-- FENCE (R133). -/
def execFence (t : TileId) (k : CtxId) (g : Guard) (f : TB) (s : State) : Host.Outcome State Fault Refusal :=
  liveIn (clusterOf t.val) s (fun s => s.rowIssue t.val k.val ⟨.FENCE, g, .tb f⟩)

/-- MSEST (R135). -/
def execMsest (t : TileId) (k : CtxId) (g : Guard) (f : TB) (s : State) : Host.Outcome State Fault Refusal :=
  liveIn (clusterOf t.val) s (fun s => s.rowIssue t.val k.val ⟨.MSEST, g, .tb f⟩)

end Sys2Proof.Machine
end

