-- ==== Sys2Proof/Machine/VectorRows.lean ====
section
/-! DEFINITION. The V-slot instructions as commands of one context: each is the next bundle, a single word (log 7). What they do stands in `VSlot`, `Flags` and `Issue`. -/

namespace Sys2Proof.Machine
open Sys2Proof

/-- VADD (R137, R138). -/
def execVadd (t : TileId) (k : CtxId) (g : Guard) (f : VR) (s : State) : Host.Outcome State Fault Refusal :=
  liveIn (clusterOf t.val) s (fun s => s.rowIssue t.val k.val ⟨.VADD, g, .vr f⟩)

/-- VSUB (R137, R138). -/
def execVsub (t : TileId) (k : CtxId) (g : Guard) (f : VR) (s : State) : Host.Outcome State Fault Refusal :=
  liveIn (clusterOf t.val) s (fun s => s.rowIssue t.val k.val ⟨.VSUB, g, .vr f⟩)

/-- VMUL (R137, R138). -/
def execVmul (t : TileId) (k : CtxId) (g : Guard) (f : VR) (s : State) : Host.Outcome State Fault Refusal :=
  liveIn (clusterOf t.val) s (fun s => s.rowIssue t.val k.val ⟨.VMUL, g, .vr f⟩)

/-- VFMA (R137, R138). -/
def execVfma (t : TileId) (k : CtxId) (g : Guard) (f : VR) (s : State) : Host.Outcome State Fault Refusal :=
  liveIn (clusterOf t.val) s (fun s => s.rowIssue t.val k.val ⟨.VFMA, g, .vr f⟩)

/-- VMAX (R137, R138). -/
def execVmax (t : TileId) (k : CtxId) (g : Guard) (f : VR) (s : State) : Host.Outcome State Fault Refusal :=
  liveIn (clusterOf t.val) s (fun s => s.rowIssue t.val k.val ⟨.VMAX, g, .vr f⟩)

/-- VMIN (R137, R138). -/
def execVmin (t : TileId) (k : CtxId) (g : Guard) (f : VR) (s : State) : Host.Outcome State Fault Refusal :=
  liveIn (clusterOf t.val) s (fun s => s.rowIssue t.val k.val ⟨.VMIN, g, .vr f⟩)

/-- VEXP (R137, R138). -/
def execVexp (t : TileId) (k : CtxId) (g : Guard) (f : VR) (s : State) : Host.Outcome State Fault Refusal :=
  liveIn (clusterOf t.val) s (fun s => s.rowIssue t.val k.val ⟨.VEXP, g, .vr f⟩)

/-- VRCP (R137, R138). -/
def execVrcp (t : TileId) (k : CtxId) (g : Guard) (f : VR) (s : State) : Host.Outcome State Fault Refusal :=
  liveIn (clusterOf t.val) s (fun s => s.rowIssue t.val k.val ⟨.VRCP, g, .vr f⟩)

/-- VRSQ (R137, R138). -/
def execVrsq (t : TileId) (k : CtxId) (g : Guard) (f : VR) (s : State) : Host.Outcome State Fault Refusal :=
  liveIn (clusterOf t.val) s (fun s => s.rowIssue t.val k.val ⟨.VRSQ, g, .vr f⟩)

/-- VCVT (R140, R159). -/
def execVcvt (t : TileId) (k : CtxId) (g : Guard) (f : VR) (s : State) : Host.Outcome State Fault Refusal :=
  liveIn (clusterOf t.val) s (fun s => s.rowIssue t.val k.val ⟨.VCVT, g, .vr f⟩)

/-- VQNT (R140, R158). -/
def execVqnt (t : TileId) (k : CtxId) (g : Guard) (f : VR) (s : State) : Host.Outcome State Fault Refusal :=
  liveIn (clusterOf t.val) s (fun s => s.rowIssue t.val k.val ⟨.VQNT, g, .vr f⟩)

/-- VDQNT (R140, R158). -/
def execVdqnt (t : TileId) (k : CtxId) (g : Guard) (f : VR) (s : State) : Host.Outcome State Fault Refusal :=
  liveIn (clusterOf t.val) s (fun s => s.rowIssue t.val k.val ⟨.VDQNT, g, .vr f⟩)

/-- VRED (R137). -/
def execVred (t : TileId) (k : CtxId) (g : Guard) (f : VR) (s : State) : Host.Outcome State Fault Refusal :=
  liveIn (clusterOf t.val) s (fun s => s.rowIssue t.val k.val ⟨.VRED, g, .vr f⟩)

/-- VPERM (R137, R138). -/
def execVperm (t : TileId) (k : CtxId) (g : Guard) (f : VR) (s : State) : Host.Outcome State Fault Refusal :=
  liveIn (clusterOf t.val) s (fun s => s.rowIssue t.val k.val ⟨.VPERM, g, .vr f⟩)

/-- VSEL (R137, R138). -/
def execVsel (t : TileId) (k : CtxId) (g : Guard) (f : VR) (s : State) : Host.Outcome State Fault Refusal :=
  liveIn (clusterOf t.val) s (fun s => s.rowIssue t.val k.val ⟨.VSEL, g, .vr f⟩)

/-- VCMP (R137, R138). -/
def execVcmp (t : TileId) (k : CtxId) (g : Guard) (f : VR) (s : State) : Host.Outcome State Fault Refusal :=
  liveIn (clusterOf t.val) s (fun s => s.rowIssue t.val k.val ⟨.VCMP, g, .vr f⟩)

end Sys2Proof.Machine
end

