-- ==== Sys2Proof/Machine/Dispatch.lean ====
section
/-! DEFINITION. Which command runs which meaning: one arm per constructor of `Instr`, in the order of spec/opcode_table.json. -/

namespace Sys2Proof.Machine

/-- The effect of a command on everything but the queue of waiting commands. -/
def exec (i : Instr) (s : State) : Host.Outcome State Fault Refusal :=
  match i with
  -- register interface (chapter 02)
  | .registerWrite ini addr width data => Sys2Proof.Machine.execRegisterWrite ini addr width data s
  | .maskedWrite ini addr data => Sys2Proof.Machine.execMaskedWrite ini addr data s
  | .loStagedWrite ini addr data => Sys2Proof.Machine.execLoStagedWrite ini addr data s
  | .hiCommitWrite ini addr data => Sys2Proof.Machine.execHiCommitWrite ini addr data s
  | .holdRequest ini u => Sys2Proof.Machine.execHoldRequest ini u s
  | .heldSet u => Sys2Proof.Machine.execHeldSet u s
  | .holdRelease ini u => Sys2Proof.Machine.execHoldRelease ini u s
  -- sweep unit (chapter 03)
  | .sweepCycle => Sys2Proof.Machine.execSweepCycle s
  | .phaseWrap => Sys2Proof.Machine.execPhaseWrap s
  | .syncIdxPulse stamp widthNs falling => Sys2Proof.Machine.execSyncIdxPulse stamp widthNs falling s
  | .swpEnable ini data => Sys2Proof.Machine.execSwpEnable ini data s
  | .swpDisable ini data => Sys2Proof.Machine.execSwpDisable ini data s
  | .swpCntclr ini => Sys2Proof.Machine.execSwpCntclr ini s
  | .swpMissPop ini => Sys2Proof.Machine.execSwpMissPop ini s
  | .ptNone n => Sys2Proof.Machine.execPtNone n s
  | .badAct n => Sys2Proof.Machine.execBadAct n s
  | .trig n => Sys2Proof.Machine.execTrig n s
  | .i3c n => Sys2Proof.Machine.execI3c n s
  | .release n => Sys2Proof.Machine.execRelease n s
  | .scan n => Sys2Proof.Machine.execScan n s
  | .statwin n => Sys2Proof.Machine.execStatwin n s
  | .opset n => Sys2Proof.Machine.execOpset n s
  | .refresh n => Sys2Proof.Machine.execRefresh n s
  | .pstate n => Sys2Proof.Machine.execPstate n s
  | .deadline n => Sys2Proof.Machine.execDeadline n s
  | .jobCompletionReport jid => Sys2Proof.Machine.execJobCompletionReport jid s
  -- tile issue (chapters 04, 05) and the Ralok instructions (chapter 06)
  | .tileClock t => Sys2Proof.Machine.execTileClock t s
  | .contextReady t k => Sys2Proof.Machine.execContextReady t k s
  | .add t k g f => Sys2Proof.Machine.execAdd t k g f s
  | .sub t k g f => Sys2Proof.Machine.execSub t k g f s
  | .and t k g f => Sys2Proof.Machine.execAnd t k g f s
  | .or t k g f => Sys2Proof.Machine.execOr t k g f s
  | .xor t k g f => Sys2Proof.Machine.execXor t k g f s
  | .shl t k g f => Sys2Proof.Machine.execShl t k g f s
  | .shr t k g f => Sys2Proof.Machine.execShr t k g f s
  | .ldn t k g f => Sys2Proof.Machine.execLdn t k g f s
  | .stn t k g f => Sys2Proof.Machine.execStn t k g f s
  | .br t k g f => Sys2Proof.Machine.execBr t k g f s
  | .brc t k g f => Sys2Proof.Machine.execBrc t k g f s
  | .loop t k g f => Sys2Proof.Machine.execLoop t k g f s
  | .call t k g f => Sys2Proof.Machine.execCall t k g f s
  | .ret t k g => Sys2Proof.Machine.execRet t k g s
  | .csrrd t k g f => Sys2Proof.Machine.execCsrrd t k g f s
  | .csrwr t k g f => Sys2Proof.Machine.execCsrwr t k g f s
  | .yield t k g => Sys2Proof.Machine.execYield t k g s
  | .halt t k g => Sys2Proof.Machine.execHalt t k g s
  | .sopen t k g f => Sys2Proof.Machine.execSopen t k g f s
  | .sidx t k g f => Sys2Proof.Machine.execSidx t k g f s
  | .sblk t k g f => Sys2Proof.Machine.execSblk t k g f s
  | .sland t k g f => Sys2Proof.Machine.execSland t k g f s
  | .send t k g f => Sys2Proof.Machine.execSend t k g f s
  | .rnadd t k g f => Sys2Proof.Machine.execRnadd t k g f s
  | .rnset t k g f => Sys2Proof.Machine.execRnset t k g f s
  | .rnwait t k g f => Sys2Proof.Machine.execRnwait t k g f s
  | .bar t k g f => Sys2Proof.Machine.execBar t k g f s
  | .fence t k g f => Sys2Proof.Machine.execFence t k g f s
  | .msest t k g f => Sys2Proof.Machine.execMsest t k g f s
  | .vadd t k g f => Sys2Proof.Machine.execVadd t k g f s
  | .vsub t k g f => Sys2Proof.Machine.execVsub t k g f s
  | .vmul t k g f => Sys2Proof.Machine.execVmul t k g f s
  | .vfma t k g f => Sys2Proof.Machine.execVfma t k g f s
  | .vmax t k g f => Sys2Proof.Machine.execVmax t k g f s
  | .vmin t k g f => Sys2Proof.Machine.execVmin t k g f s
  | .vexp t k g f => Sys2Proof.Machine.execVexp t k g f s
  | .vrcp t k g f => Sys2Proof.Machine.execVrcp t k g f s
  | .vrsq t k g f => Sys2Proof.Machine.execVrsq t k g f s
  | .vcvt t k g f => Sys2Proof.Machine.execVcvt t k g f s
  | .vqnt t k g f => Sys2Proof.Machine.execVqnt t k g f s
  | .vdqnt t k g f => Sys2Proof.Machine.execVdqnt t k g f s
  | .vred t k g f => Sys2Proof.Machine.execVred t k g f s
  | .vperm t k g f => Sys2Proof.Machine.execVperm t k g f s
  | .vsel t k g f => Sys2Proof.Machine.execVsel t k g f s
  | .vcmp t k g f => Sys2Proof.Machine.execVcmp t k g f s
  | .mldi t k g f => Sys2Proof.Machine.execMldi t k g f s
  | .mstw t k g f => Sys2Proof.Machine.execMstw t k g f s
  | .mdrn t k g f => Sys2Proof.Machine.execMdrn t k g f s
  | .mpart t k g f => Sys2Proof.Machine.execMpart t k g f s
  | .mclr t k g f => Sys2Proof.Machine.execMclr t k g f s
  | .matrixStart t e => Sys2Proof.Machine.execMatrixStart t e s
  | .matrixComplete t e => Sys2Proof.Machine.execMatrixComplete t e s
  | .sliceFree t j => Sys2Proof.Machine.execSliceFree t j s
  | .icacheFill t k ecc => Sys2Proof.Machine.execIcacheFill t k ecc s
  | .tileEnable ini t => Sys2Proof.Machine.execTileEnable ini t s
  | .tileReady t => Sys2Proof.Machine.execTileReady t s
  | .tileDisable ini t => Sys2Proof.Machine.execTileDisable ini t s
  | .start ini t k => Sys2Proof.Machine.execStart ini t k s
  | .stop ini t k => Sys2Proof.Machine.execStop ini t k s
  | .lockstep ini t on => Sys2Proof.Machine.execLockstep ini t on s
  | .stallCountersClear ini t => Sys2Proof.Machine.execStallCountersClear ini t s
  -- streams, scale file, statistics (chapters 07, 09)
  | .streamFetchSend t => Sys2Proof.Machine.execStreamFetchSend t s
  | .rowLanding t n ecc => Sys2Proof.Machine.execRowLanding t n ecc s
  | .streamWriteAck t n => Sys2Proof.Machine.execStreamWriteAck t n s
  | .discardedRowLanding t => Sys2Proof.Machine.execDiscardedRowLanding t s
  | .sendRowArrival t => Sys2Proof.Machine.execSendRowArrival t s
  | .regulatorRefill c => Sys2Proof.Machine.execRegulatorRefill c s
  | .scaleLoadGo ini t data => Sys2Proof.Machine.execScaleLoadGo ini t data s
  | .scaleLoadData t n ecc => Sys2Proof.Machine.execScaleLoadData t n ecc s
  | .statSnap ini t => Sys2Proof.Machine.execStatSnap ini t s
  | .statClr ini t => Sys2Proof.Machine.execStatClr ini t s
  -- counters, windows, hoops, barriers, kills (chapter 08)
  | .counterOpEffect k n => Sys2Proof.Machine.execCounterOpEffect k n s
  | .rnOldValueReturn t k => Sys2Proof.Machine.execRnOldValueReturn t k s
  | .rntValWrite ini k data => Sys2Proof.Machine.execRntValWrite ini k data s
  | .rntAddWrite ini k data => Sys2Proof.Machine.execRntAddWrite ini k data s
  | .windowMessage w peer off data => Sys2Proof.Machine.execWindowMessage w peer off data s
  | .windowRead w peer off len => Sys2Proof.Machine.execWindowRead w peer off len s
  | .hoopArm ini c h data => Sys2Proof.Machine.execHoopArm ini c h data s
  | .hoopLog c h => Sys2Proof.Machine.execHoopLog c h s
  | .barrierArrival t k => Sys2Proof.Machine.execBarrierArrival t k s
  | .fabBarWrite ini j data => Sys2Proof.Machine.execFabBarWrite ini j data s
  | .killRequest ini jid => Sys2Proof.Machine.execKillRequest ini jid s
  | .killStart => Sys2Proof.Machine.execKillStart s
  | .killComplete => Sys2Proof.Machine.execKillComplete s
  -- attention engines (chapter 11)
  | .attGo ini c => Sys2Proof.Machine.execAttGo ini c s
  | .attPassStart c => Sys2Proof.Machine.execAttPassStart c s
  | .attTranslationMiss c page ecc => Sys2Proof.Machine.execAttTranslationMiss c page ecc s
  | .attReadReturn c line ecc => Sys2Proof.Machine.execAttReadReturn c line ecc s
  | .attBucketItem c overran => Sys2Proof.Machine.execAttBucketItem c overran s
  | .attSequenceMerge c q => Sys2Proof.Machine.execAttSequenceMerge c q s
  | .attEpochEnd c => Sys2Proof.Machine.execAttEpochEnd c s
  | .attTfence ini c => Sys2Proof.Machine.execAttTfence ini c s
  | .attFenceAckIdle c => Sys2Proof.Machine.execAttFenceAckIdle c s
  | .attStop ini c => Sys2Proof.Machine.execAttStop ini c s
  -- camera ingest, sensor control, image pipeline (chapters 12, 13)
  | .csiPacket p pkt => Sys2Proof.Machine.execCsiPacket p pkt s
  | .frameStart p => Sys2Proof.Machine.execFrameStart p s
  | .frameEnd p => Sys2Proof.Machine.execFrameEnd p s
  | .linePacket p => Sys2Proof.Machine.execLinePacket p s
  | .embeddedLine p => Sys2Proof.Machine.execEmbeddedLine p s
  | .frameTimeout n => Sys2Proof.Machine.execFrameTimeout n s
  | .phaseWindowClose n k => Sys2Proof.Machine.execPhaseWindowClose n k s
  | .ingContextEnable ini n => Sys2Proof.Machine.execIngContextEnable ini n s
  | .ingContextDisable ini n => Sys2Proof.Machine.execIngContextDisable ini n s
  | .stripSelect q => Sys2Proof.Machine.execStripSelect q s
  | .stripComplete q => Sys2Proof.Machine.execStripComplete q s
  | .statRecordDone n => Sys2Proof.Machine.execStatRecordDone n s
  | .fsyncPulseEnd n => Sys2Proof.Machine.execFsyncPulseEnd n s
  | .i3cWrite c ack => Sys2Proof.Machine.execI3cWrite c ack s
  | .i3cDcmd ini c data ack rdata => Sys2Proof.Machine.execI3cDcmd ini c data ack rdata s
  -- codecs (chapter 14)
  | .codGo ini k => Sys2Proof.Machine.execCodGo ini k s
  | .codecJobStart k => Sys2Proof.Machine.execCodecJobStart k s
  | .codecJobComplete k => Sys2Proof.Machine.execCodecJobComplete k s
  | .codecStop ini k => Sys2Proof.Machine.execCodecStop ini k s
  -- memory and fabric (chapter 15)
  | .vatScrub c fixed => Sys2Proof.Machine.execVatScrub c fixed s
  | .lpxInit ini data => Sys2Proof.Machine.execLpxInit ini data s
  | .lpxInitDone fail cap pprFail => Sys2Proof.Machine.execLpxInitDone fail cap pprFail s
  | .refreshTick ch quiet => Sys2Proof.Machine.execRefreshTick ch quiet s
  | .mmuWalk w ecc => Sys2Proof.Machine.execMmuWalk w ecc s
  | .mmuInv ini data => Sys2Proof.Machine.execMmuInv ini data s
  | .mmuInvDone => Sys2Proof.Machine.execMmuInvDone s
  | .seal ini r => Sys2Proof.Machine.execSeal ini r s
  | .sealed r => Sys2Proof.Machine.execSealed r s
  | .unseal ini r => Sys2Proof.Machine.execUnseal ini r s
  | .unsealDone r => Sys2Proof.Machine.execUnsealDone r s
  | .brineGo ini data => Sys2Proof.Machine.execBrineGo ini data s
  | .brineRequestDone => Sys2Proof.Machine.execBrineRequestDone s
  -- scheduler cores and scheduling firmware (chapter 16)
  | .schRst ini c => Sys2Proof.Machine.execSchRst ini c s
  | .schBrineDone c => Sys2Proof.Machine.execSchBrineDone c s
  | .schLock ini c lock4k => Sys2Proof.Machine.execSchLock ini c lock4k s
  | .schStart ini c => Sys2Proof.Machine.execSchStart ini c s
  | .schCheckDone c => Sys2Proof.Machine.execSchCheckDone c s
  | .schedulerScan c => Sys2Proof.Machine.execSchedulerScan c s
  | .jobAdmit q => Sys2Proof.Machine.execJobAdmit q s
  | .jobLaunch c q => Sys2Proof.Machine.execJobLaunch c q s
  | .jobComplete jid => Sys2Proof.Machine.execJobComplete jid s
  | .jobEnd jid cause => Sys2Proof.Machine.execJobEnd jid cause s
  -- network and PCIe (chapter 17)
  | .ethFrameRx p f => Sys2Proof.Machine.execEthFrameRx p f s
  | .ethLinkChange p up => Sys2Proof.Machine.execEthLinkChange p up s
  | .gptpSync offsetNs => Sys2Proof.Machine.execGptpSync offsetNs s
  | .gptpSyncLoss => Sys2Proof.Machine.execGptpSyncLoss s
  | .gateInterval p => Sys2Proof.Machine.execGateInterval p s
  | .gateListChange p => Sys2Proof.Machine.execGateListChange p s
  | .cbRecoveryReset peer => Sys2Proof.Machine.execCbRecoveryReset peer s
  | .vwpWrite peer payload => Sys2Proof.Machine.execVwpWrite peer payload s
  | .vwpRead peer payload => Sys2Proof.Machine.execVwpRead peer payload s
  | .vwpRdata q payload => Sys2Proof.Machine.execVwpRdata q payload s
  | .txRingPoll q => Sys2Proof.Machine.execTxRingPoll q s
  | .txEntryComplete q => Sys2Proof.Machine.execTxEntryComplete q s
  | .txReadTimeout q => Sys2Proof.Machine.execTxReadTimeout q s
  | .pcieWrite rid addr ideOk data => Sys2Proof.Machine.execPcieWrite rid addr ideOk data s
  | .pcieRead rid addr ideOk len => Sys2Proof.Machine.execPcieRead rid addr ideOk len s
  | .pcieLaneLoss width => Sys2Proof.Machine.execPcieLaneLoss width s
  | .pcieEnable ini data => Sys2Proof.Machine.execPcieEnable ini data s
  | .mgmtRequest peer secure req => Sys2Proof.Machine.execMgmtRequest peer secure req s
  -- boot, keys, security, debug (chapter 18)
  | .porRelease => Sys2Proof.Machine.execPorRelease s
  | .islandStart => Sys2Proof.Machine.execIslandStart s
  | .starterCheck => Sys2Proof.Machine.execStarterCheck s
  | .bootReset cause => Sys2Proof.Machine.execBootReset cause s
  | .secGateClose ini => Sys2Proof.Machine.execSecGateClose ini s
  | .check ini desc => Sys2Proof.Machine.execCheck ini desc s
  | .derive ini desc => Sys2Proof.Machine.execDerive ini desc s
  | .sign ini desc => Sys2Proof.Machine.execSign ini desc s
  | .pubkey ini desc => Sys2Proof.Machine.execPubkey ini desc s
  | .erase ini desc => Sys2Proof.Machine.execErase ini desc s
  | .keyCommandDone => Sys2Proof.Machine.execKeyCommandDone s
  | .minverAdvance ini goal => Sys2Proof.Machine.execMinverAdvance ini goal s
  | .lcAdvance ini goal => Sys2Proof.Machine.execLcAdvance ini goal s
  | .fuseProgramDone verified => Sys2Proof.Machine.execFuseProgramDone verified s
  | .dbgChal => Sys2Proof.Machine.execDbgChal s
  | .dbgResp scope pub sig => Sys2Proof.Machine.execDbgResp scope pub sig s
  | .appLock ini g lock4k => Sys2Proof.Machine.execAppLock ini g lock4k s
  | .appStart ini g => Sys2Proof.Machine.execAppStart ini g s
  | .appRst ini g => Sys2Proof.Machine.execAppRst ini g s
  | .mpuLock ini r data => Sys2Proof.Machine.execMpuLock ini r data s
  | .firewallLock ini e data => Sys2Proof.Machine.execFirewallLock ini e data s
  -- Press (chapter 19)
  | .controlInterval m => Sys2Proof.Machine.execControlInterval m s
  | .domainRequestWrite ini d data => Sys2Proof.Machine.execDomainRequestWrite ini d data s
  | .opTransitionStep c => Sys2Proof.Machine.execOpTransitionStep c s
  | .thermalLimit d => Sys2Proof.Machine.execThermalLimit d s
  | .droop c low => Sys2Proof.Machine.execDroop c low s
  | .overcurrent c beyond => Sys2Proof.Machine.execOvercurrent c beyond s
  | .entryHandshakeAnswer d a => Sys2Proof.Machine.execEntryHandshakeAnswer d a s
  | .entryComplete d => Sys2Proof.Machine.execEntryComplete d s
  | .wakeEvent e => Sys2Proof.Machine.execWakeEvent e s
  | .prsWake ini data => Sys2Proof.Machine.execPrsWake ini data s
  | .exitComplete d => Sys2Proof.Machine.execExitComplete d s
  -- availability (chapter 20)
  | .errorSignal g => Sys2Proof.Machine.execErrorSignal g s
  | .elogPop ini => Sys2Proof.Machine.execElogPop ini s
  | .eoutRun ini => Sys2Proof.Machine.execEoutRun ini s
  | .errOutRise => Sys2Proof.Machine.execErrOutRise s
  | .mgtClsClr ini c => Sys2Proof.Machine.execMgtClsClr ini c s
  | .kick ini w => Sys2Proof.Machine.execKick ini w s
  | .watchdogExpiry w => Sys2Proof.Machine.execWatchdogExpiry w s
  | .cmpGo ini data => Sys2Proof.Machine.execCmpGo ini data s
  | .cmpDone => Sys2Proof.Machine.execCmpDone s
  | .spareArm ini c data => Sys2Proof.Machine.execSpareArm ini c data s
  | .spareCopyStart c => Sys2Proof.Machine.execSpareCopyStart c s
  | .spareCopyEnd c => Sys2Proof.Machine.execSpareCopyEnd c s
  | .vatRepair ini c k data => Sys2Proof.Machine.execVatRepair ini c k data s
  | .vatRepairDone c k => Sys2Proof.Machine.execVatRepairDone c k s
  | .hartOffline ini off => Sys2Proof.Machine.execHartOffline ini off s
  -- package, reset, supplies (chapter 21)
  | .porstNAssert => Sys2Proof.Machine.execPorstNAssert s
  | .brownOut mV ns => Sys2Proof.Machine.execBrownOut mV ns s
  | .thermalTrip => Sys2Proof.Machine.execThermalTrip s
  | .resetHoldEnd h => Sys2Proof.Machine.execResetHoldEnd h s
  | .glbRstreqBoot ini => Sys2Proof.Machine.execGlbRstreqBoot ini s
  | .pmbAlert highMs => Sys2Proof.Machine.execPmbAlert highMs s
  | .syncPpsEdge widthNs => Sys2Proof.Machine.execSyncPpsEdge widthNs s
  | .initiatorMemoryWrite ini addr data => Sys2Proof.Machine.execInitiatorMemoryWrite ini addr data s
  | .csiStopState p => Sys2Proof.Machine.execCsiStopState p s
  | .pcieLinkChange up rate width => Sys2Proof.Machine.execPcieLinkChange up rate width s
  | .thermalLimitEnd d => Sys2Proof.Machine.execThermalLimitEnd d s
  | .appCheckDone g => Sys2Proof.Machine.execAppCheckDone g s
  | .debugInstruction code data => Sys2Proof.Machine.execDebugInstruction code data s

end Sys2Proof.Machine
end

