-- ==== Sys2Proof/WellFormed.lean ====
section
/-! DEFINITION. Well-formed commands: the ones whose operands the manual gives a meaning to. An ill-formed Ralok word raises ILL (R101); an access of another
size is not performed (R32). -/

namespace Sys2Proof
open Sys2Proof.Machine

/-- The tile, the context and the instruction word of a Ralok row. -/
def Instr.ralok : Instr → Option (TileId × CtxId × RWord)
  | .add t k g f => some (t, k, ⟨.ADD, g, .sa f⟩)
  | .sub t k g f => some (t, k, ⟨.SUB, g, .sa f⟩)
  | .and t k g f => some (t, k, ⟨.AND, g, .sa f⟩)
  | .or t k g f => some (t, k, ⟨.OR, g, .sa f⟩)
  | .xor t k g f => some (t, k, ⟨.XOR, g, .sa f⟩)
  | .shl t k g f => some (t, k, ⟨.SHL, g, .sa f⟩)
  | .shr t k g f => some (t, k, ⟨.SHR, g, .sa f⟩)
  | .ldn t k g f => some (t, k, ⟨.LDN, g, .sm f⟩)
  | .stn t k g f => some (t, k, ⟨.STN, g, .sm f⟩)
  | .br t k g f => some (t, k, ⟨.BR, g, .sb f⟩)
  | .brc t k g f => some (t, k, ⟨.BRC, g, .sb f⟩)
  | .loop t k g f => some (t, k, ⟨.LOOP, g, .sb f⟩)
  | .call t k g f => some (t, k, ⟨.CALL, g, .sb f⟩)
  | .ret t k g => some (t, k, ⟨.RET, g, .sn⟩)
  | .csrrd t k g f => some (t, k, ⟨.CSRRD, g, .sc f⟩)
  | .csrwr t k g f => some (t, k, ⟨.CSRWR, g, .sc f⟩)
  | .yield t k g => some (t, k, ⟨.YIELD, g, .sn⟩)
  | .halt t k g => some (t, k, ⟨.HALT, g, .sn⟩)
  | .sopen t k g f => some (t, k, ⟨.SOPEN, g, .ts f⟩)
  | .sidx t k g f => some (t, k, ⟨.SIDX, g, .ts f⟩)
  | .sblk t k g f => some (t, k, ⟨.SBLK, g, .ts f⟩)
  | .sland t k g f => some (t, k, ⟨.SLAND, g, .ts f⟩)
  | .send t k g f => some (t, k, ⟨.SEND, g, .tx f⟩)
  | .rnadd t k g f => some (t, k, ⟨.RNADD, g, .tr f⟩)
  | .rnset t k g f => some (t, k, ⟨.RNSET, g, .tr f⟩)
  | .rnwait t k g f => some (t, k, ⟨.RNWAIT, g, .tr f⟩)
  | .bar t k g f => some (t, k, ⟨.BAR, g, .tb f⟩)
  | .fence t k g f => some (t, k, ⟨.FENCE, g, .tb f⟩)
  | .msest t k g f => some (t, k, ⟨.MSEST, g, .tb f⟩)
  | .vadd t k g f => some (t, k, ⟨.VADD, g, .vr f⟩)
  | .vsub t k g f => some (t, k, ⟨.VSUB, g, .vr f⟩)
  | .vmul t k g f => some (t, k, ⟨.VMUL, g, .vr f⟩)
  | .vfma t k g f => some (t, k, ⟨.VFMA, g, .vr f⟩)
  | .vmax t k g f => some (t, k, ⟨.VMAX, g, .vr f⟩)
  | .vmin t k g f => some (t, k, ⟨.VMIN, g, .vr f⟩)
  | .vexp t k g f => some (t, k, ⟨.VEXP, g, .vr f⟩)
  | .vrcp t k g f => some (t, k, ⟨.VRCP, g, .vr f⟩)
  | .vrsq t k g f => some (t, k, ⟨.VRSQ, g, .vr f⟩)
  | .vcvt t k g f => some (t, k, ⟨.VCVT, g, .vr f⟩)
  | .vqnt t k g f => some (t, k, ⟨.VQNT, g, .vr f⟩)
  | .vdqnt t k g f => some (t, k, ⟨.VDQNT, g, .vr f⟩)
  | .vred t k g f => some (t, k, ⟨.VRED, g, .vr f⟩)
  | .vperm t k g f => some (t, k, ⟨.VPERM, g, .vr f⟩)
  | .vsel t k g f => some (t, k, ⟨.VSEL, g, .vr f⟩)
  | .vcmp t k g f => some (t, k, ⟨.VCMP, g, .vr f⟩)
  | .mldi t k g f => some (t, k, ⟨.MLDI, g, .mx f⟩)
  | .mstw t k g f => some (t, k, ⟨.MSTW, g, .mx f⟩)
  | .mdrn t k g f => some (t, k, ⟨.MDRN, g, .mx f⟩)
  | .mpart t k g f => some (t, k, ⟨.MPART, g, .mx f⟩)
  | .mclr t k g f => some (t, k, ⟨.MCLR, g, .mx f⟩)
  | .registerWrite _ _ _ _ | .maskedWrite _ _ _ | .loStagedWrite _ _ _ | .hiCommitWrite _ _ _ | .holdRequest _ _ | .heldSet _
  | .holdRelease _ _ | .sweepCycle | .phaseWrap | .syncIdxPulse _ _ _ | .swpEnable _ _ | .swpDisable _ _
  | .swpCntclr _ | .swpMissPop _ | .ptNone _ | .badAct _ | .trig _ | .i3c _
  | .release _ | .scan _ | .statwin _ | .opset _ | .refresh _ | .pstate _
  | .deadline _ | .jobCompletionReport _ | .tileClock _ | .contextReady _ _ | .matrixStart _ _ | .matrixComplete _ _
  | .sliceFree _ _ | .icacheFill _ _ _ | .tileEnable _ _ | .tileReady _ | .tileDisable _ _ | .start _ _ _
  | .stop _ _ _ | .lockstep _ _ _ | .stallCountersClear _ _ | .streamFetchSend _ | .rowLanding _ _ _ | .streamWriteAck _ _
  | .discardedRowLanding _ | .sendRowArrival _ | .regulatorRefill _ | .scaleLoadGo _ _ _ | .scaleLoadData _ _ _ | .statSnap _ _
  | .statClr _ _ | .counterOpEffect _ _ | .rnOldValueReturn _ _ | .rntValWrite _ _ _ | .rntAddWrite _ _ _ | .windowMessage _ _ _ _
  | .windowRead _ _ _ _ | .hoopArm _ _ _ _ | .hoopLog _ _ | .barrierArrival _ _ | .fabBarWrite _ _ _ | .killRequest _ _
  | .killStart | .killComplete | .attGo _ _ | .attPassStart _ | .attTranslationMiss _ _ _ | .attReadReturn _ _ _
  | .attBucketItem _ _ | .attSequenceMerge _ _ | .attEpochEnd _ | .attTfence _ _ | .attFenceAckIdle _ | .attStop _ _
  | .csiPacket _ _ | .frameStart _ | .frameEnd _ | .linePacket _ | .embeddedLine _ | .frameTimeout _
  | .phaseWindowClose _ _ | .ingContextEnable _ _ | .ingContextDisable _ _ | .stripSelect _ | .stripComplete _ | .statRecordDone _
  | .fsyncPulseEnd _ | .i3cWrite _ _ | .i3cDcmd _ _ _ _ _ | .codGo _ _ | .codecJobStart _ | .codecJobComplete _
  | .codecStop _ _ | .vatScrub _ _ | .lpxInit _ _ | .lpxInitDone _ _ _ | .refreshTick _ _ | .mmuWalk _ _
  | .mmuInv _ _ | .mmuInvDone | .seal _ _ | .sealed _ | .unseal _ _ | .unsealDone _
  | .brineGo _ _ | .brineRequestDone | .schRst _ _ | .schBrineDone _ | .schLock _ _ _ | .schStart _ _
  | .schCheckDone _ | .schedulerScan _ | .jobAdmit _ | .jobLaunch _ _ | .jobComplete _ | .jobEnd _ _
  | .ethFrameRx _ _ | .ethLinkChange _ _ | .gptpSync _ | .gptpSyncLoss | .gateInterval _ | .gateListChange _
  | .cbRecoveryReset _ | .vwpWrite _ _ | .vwpRead _ _ | .vwpRdata _ _ | .txRingPoll _ | .txEntryComplete _
  | .txReadTimeout _ | .pcieWrite _ _ _ _ | .pcieRead _ _ _ _ | .pcieLaneLoss _ | .pcieEnable _ _ | .mgmtRequest _ _ _
  | .porRelease | .islandStart | .starterCheck | .bootReset _ | .secGateClose _ | .check _ _
  | .derive _ _ | .sign _ _ | .pubkey _ _ | .erase _ _ | .keyCommandDone | .minverAdvance _ _
  | .lcAdvance _ _ | .fuseProgramDone _ | .dbgChal | .dbgResp _ _ _ | .appLock _ _ _ | .appStart _ _
  | .appRst _ _ | .mpuLock _ _ _ | .firewallLock _ _ _ | .controlInterval _ | .domainRequestWrite _ _ _ | .opTransitionStep _
  | .thermalLimit _ | .droop _ _ | .overcurrent _ _ | .entryHandshakeAnswer _ _ | .entryComplete _ | .wakeEvent _
  | .prsWake _ _ | .exitComplete _ | .errorSignal _ | .elogPop _ | .eoutRun _ | .errOutRise
  | .mgtClsClr _ _ | .kick _ _ | .watchdogExpiry _ | .cmpGo _ _ | .cmpDone | .spareArm _ _ _
  | .spareCopyStart _ | .spareCopyEnd _ | .vatRepair _ _ _ _ | .vatRepairDone _ _ | .hartOffline _ _ | .porstNAssert
  | .brownOut _ _ | .thermalTrip | .resetHoldEnd _ | .glbRstreqBoot _ | .pmbAlert _ | .syncPpsEdge _
  | .initiatorMemoryWrite _ _ _ | .csiStopState _ | .pcieLinkChange _ _ _ | .thermalLimitEnd _ | .appCheckDone _ | .debugInstruction _ _
    => none

/-- A register's address is a multiple of 4 (R32). -/
def aligned (a : PAddr) : Bool := a.toNat % 4 == 0

/-- The word of a Ralok row keeps R97 and R101 to R103. -/
def Instr.legalWord (i : Instr) : Bool :=
  match i.ralok with
  | some (_, _, w) => w.legal
  | none => false

/-- The command is well-formed: a Ralok word is legal, a register access is 32 bits wide at an aligned address, a message or memory access has bytes. -/
def Instr.wf (i : Instr) : Bool :=
  match i with
  | .registerWrite _ addr width _ => width == 32 && aligned addr
  | .maskedWrite _ addr _ => aligned addr
  | .loStagedWrite _ addr _ => aligned addr
  | .hiCommitWrite _ addr _ => aligned addr
  | .windowMessage _ _ _ data => !data.isEmpty
  | .windowRead _ _ _ len => len != 0
  | .pcieWrite _ _ _ data => !data.isEmpty
  | .pcieRead _ _ _ len => len != 0
  | .initiatorMemoryWrite _ _ data => !data.isEmpty
  | .add _ _ _ _ | .sub _ _ _ _ | .and _ _ _ _ | .or _ _ _ _ | .xor _ _ _ _ | .shl _ _ _ _
  | .shr _ _ _ _ | .ldn _ _ _ _ | .stn _ _ _ _ | .br _ _ _ _ | .brc _ _ _ _ | .loop _ _ _ _
  | .call _ _ _ _ | .ret _ _ _ | .csrrd _ _ _ _ | .csrwr _ _ _ _ | .yield _ _ _ | .halt _ _ _
  | .sopen _ _ _ _ | .sidx _ _ _ _ | .sblk _ _ _ _ | .sland _ _ _ _ | .send _ _ _ _ | .rnadd _ _ _ _
  | .rnset _ _ _ _ | .rnwait _ _ _ _ | .bar _ _ _ _ | .fence _ _ _ _ | .msest _ _ _ _ | .vadd _ _ _ _
  | .vsub _ _ _ _ | .vmul _ _ _ _ | .vfma _ _ _ _ | .vmax _ _ _ _ | .vmin _ _ _ _ | .vexp _ _ _ _
  | .vrcp _ _ _ _ | .vrsq _ _ _ _ | .vcvt _ _ _ _ | .vqnt _ _ _ _ | .vdqnt _ _ _ _ | .vred _ _ _ _
  | .vperm _ _ _ _ | .vsel _ _ _ _ | .vcmp _ _ _ _ | .mldi _ _ _ _ | .mstw _ _ _ _ | .mdrn _ _ _ _
  | .mpart _ _ _ _ | .mclr _ _ _ _
    => i.legalWord
  | .holdRequest _ _ | .heldSet _ | .holdRelease _ _ | .sweepCycle | .phaseWrap | .syncIdxPulse _ _ _
  | .swpEnable _ _ | .swpDisable _ _ | .swpCntclr _ | .swpMissPop _ | .ptNone _ | .badAct _
  | .trig _ | .i3c _ | .release _ | .scan _ | .statwin _ | .opset _
  | .refresh _ | .pstate _ | .deadline _ | .jobCompletionReport _ | .tileClock _ | .contextReady _ _
  | .matrixStart _ _ | .matrixComplete _ _ | .sliceFree _ _ | .icacheFill _ _ _ | .tileEnable _ _ | .tileReady _
  | .tileDisable _ _ | .start _ _ _ | .stop _ _ _ | .lockstep _ _ _ | .stallCountersClear _ _ | .streamFetchSend _
  | .rowLanding _ _ _ | .streamWriteAck _ _ | .discardedRowLanding _ | .sendRowArrival _ | .regulatorRefill _ | .scaleLoadGo _ _ _
  | .scaleLoadData _ _ _ | .statSnap _ _ | .statClr _ _ | .counterOpEffect _ _ | .rnOldValueReturn _ _ | .rntValWrite _ _ _
  | .rntAddWrite _ _ _ | .hoopArm _ _ _ _ | .hoopLog _ _ | .barrierArrival _ _ | .fabBarWrite _ _ _ | .killRequest _ _
  | .killStart | .killComplete | .attGo _ _ | .attPassStart _ | .attTranslationMiss _ _ _ | .attReadReturn _ _ _
  | .attBucketItem _ _ | .attSequenceMerge _ _ | .attEpochEnd _ | .attTfence _ _ | .attFenceAckIdle _ | .attStop _ _
  | .csiPacket _ _ | .frameStart _ | .frameEnd _ | .linePacket _ | .embeddedLine _ | .frameTimeout _
  | .phaseWindowClose _ _ | .ingContextEnable _ _ | .ingContextDisable _ _ | .stripSelect _ | .stripComplete _ | .statRecordDone _
  | .fsyncPulseEnd _ | .i3cWrite _ _ | .i3cDcmd _ _ _ _ _ | .codGo _ _ | .codecJobStart _ | .codecJobComplete _
  | .codecStop _ _ | .vatScrub _ _ | .lpxInit _ _ | .lpxInitDone _ _ _ | .refreshTick _ _ | .mmuWalk _ _
  | .mmuInv _ _ | .mmuInvDone | .seal _ _ | .sealed _ | .unseal _ _ | .unsealDone _
  | .brineGo _ _ | .brineRequestDone | .schRst _ _ | .schBrineDone _ | .schLock _ _ _ | .schStart _ _
  | .schCheckDone _ | .schedulerScan _ | .jobAdmit _ | .jobLaunch _ _ | .jobComplete _ | .jobEnd _ _
  | .ethFrameRx _ _ | .ethLinkChange _ _ | .gptpSync _ | .gptpSyncLoss | .gateInterval _ | .gateListChange _
  | .cbRecoveryReset _ | .vwpWrite _ _ | .vwpRead _ _ | .vwpRdata _ _ | .txRingPoll _ | .txEntryComplete _
  | .txReadTimeout _ | .pcieLaneLoss _ | .pcieEnable _ _ | .mgmtRequest _ _ _ | .porRelease | .islandStart
  | .starterCheck | .bootReset _ | .secGateClose _ | .check _ _ | .derive _ _ | .sign _ _
  | .pubkey _ _ | .erase _ _ | .keyCommandDone | .minverAdvance _ _ | .lcAdvance _ _ | .fuseProgramDone _
  | .dbgChal | .dbgResp _ _ _ | .appLock _ _ _ | .appStart _ _ | .appRst _ _ | .mpuLock _ _ _
  | .firewallLock _ _ _ | .controlInterval _ | .domainRequestWrite _ _ _ | .opTransitionStep _ | .thermalLimit _ | .droop _ _
  | .overcurrent _ _ | .entryHandshakeAnswer _ _ | .entryComplete _ | .wakeEvent _ | .prsWake _ _ | .exitComplete _
  | .errorSignal _ | .elogPop _ | .eoutRun _ | .errOutRise | .mgtClsClr _ _ | .kick _ _
  | .watchdogExpiry _ | .cmpGo _ _ | .cmpDone | .spareArm _ _ _ | .spareCopyStart _ | .spareCopyEnd _
  | .vatRepair _ _ _ _ | .vatRepairDone _ _ | .hartOffline _ _ | .porstNAssert | .brownOut _ _ | .thermalTrip
  | .resetHoldEnd _ | .glbRstreqBoot _ | .pmbAlert _ | .syncPpsEdge _ | .csiStopState _ | .pcieLinkChange _ _ _
  | .thermalLimitEnd _ | .appCheckDone _ | .debugInstruction _ _
    => true

end Sys2Proof
end

