-- ==== Sys2Proof/Safety.lean ====
section
/-! DEFINITION. The terms in which claims are stated: the canonical forms that every step keeps, when a write is performed at once, when a tile issues an instruction,
and what is left as it was. -/

namespace Sys2Proof.Machine
open Sys2Proof

/-- The canonical forms: memory, the register store and the staging registers list what they hold once, in order; memory lists no blank byte.
No run leaves them, and a claim about a value that has just been written rests on them. -/
def State.Inv (s : State) : Prop := s.mem.wf = true ∧ s.regs.wf = true ∧ s.stage.wf = true

/-- A write of `data` by an initiator to an instance of a register is performed at once: nothing holds the device in reset (R424), the register's table lists
that instance (R33, R48), no rule denies the write (R33, R365), and no power state holds it (R391). -/
def State.takes (s : State) (ini : Initiator) (r : Reg) (is : List Nat) (data : Nat) : Prop :=
  s.up = true ∧ regAt (r.adr is) = some (r, is) ∧ r.adr is % 4 = 0 ∧ r.adr is < 0x10000000 ∧ s.permits ini (r.adr is) 4 true = true ∧
  s.ownDenies ini r is data = false ∧ s.sleeping (r.adr is) = none

/-- A register of which a write does no more than to store fields: none of its fields is a command, a lock, a hold, an enable or a level that something else follows. -/
def Reg.quiet (r : Reg) : Bool :=
  match r with
  | .CLU_REMAPl | .GLB_RSTREQ | .SWP_CTRL | .SWP_PTi_HI | .SWP_CNTCLR | .SWP_MISS_POP | .TILE_CTRL | .TILE_CTXk_CMD | .TILE_STALLCLR | .TILE_SFLD_CTL
  | .TILE_STATCTL | .RNT_VALk | .RNT_ADDk | .FAB_WINw_CTRL | .CLU_HOOPh_CFG | .CLU_HOOPh_LOG | .FAB_BARj | .FAB_KILL | .FAB_TREGg | .FAB_CREGc
  | .FAB_SEALr_CTRL | .FAB_BRN_CTL | .MMU_INV_CTL | .ATT_CTRL | .ATT_GO | .ATT_TFENCE | .ING_PORTp_CFG | .ING_CTXn_SRC | .ING_CTXn_CTRL
  | .ISP_CTXn_CTRL | .PAD_I3Cc_CTRL | .PAD_I3Cc_DCMD | .COD_COREk_CTRL | .COD_COREk_GO | .LPX_GCTRL | .SCH_CTRL | .SEC_GATE | .SEC_LC
  | .SEC_FUSEADV | .SEC_KCMD | .SEC_APPg | .NET_PORTp_CFG | .NET_TCFG | .NET_QBVp_CHG_HI | .NET_TXq_CFG | .PCI_CTRL | .PRS_CTRL | .PRS_DOMd
  | .PRS_WAKE | .MGT_CLSc | .MGT_ELOG_CTL | .MGT_EOUT | .MGT_WDGw | .MGT_DLMONm | .MGT_CMP_CTL | .CLU_SPARE | .VAT_RPRc_k => false
  | _ => true

/-- What a bit of a register holds after a write of `data` over `old`, by its access code (R13, R39): in an MW register a bit whose mask bit is 1 takes
the data; a written 1 sets a W1S bit and clears a W1C bit; an RW bit of `rw` takes the data; a field that any write clears is 0; every other bit stays. -/
def writtenBit (d : RegDesc) (rw old data i : Nat) : Bool :=
  if d.clr.testBit i then false
  else if i < 16 ∧ d.mw.testBit i ∧ data.testBit (i + 16) then data.testBit i
  else if d.w1s.testBit i ∧ data.testBit i then true
  else if d.w1c.testBit i ∧ data.testBit i then false
  else if rw.testBit i then data.testBit i
  else old.testBit i

/-- A tile's clocks run: nothing holds the device in reset and the tile's cluster is in RUN (R386, R424). -/
def State.clocked (s : State) (t : Nat) : Prop := s.up = true ∧ s.clusterRuns (clusterOf t) = true

/-- Context `k` of tile `t` may try its next bundle in this clock (R86): the tile is READY and not held for debug, in lockstep mode the context is 0, and the context
is in READY or RUN (in lockstep mode also where a hold has left it), with no LOOP of 0 to skip first. -/
def State.tries (s : State) (t k : Nat) : Prop :=
  s.clocked t ∧ (s.tile t).ready = true ∧ s.dbgHold t = false ∧ (s.flag .TILE_CTRL (tix t) 1 = true → k = 0) ∧
  ((s.ctxOf t k).st = .ready ∨ (s.ctxOf t k).st = .run ∨
    (s.flag .TILE_CTRL (tix t) 1 = true ∧ ((s.ctxOf t k).st = .wait ∨ (s.ctxOf t k).st = .park))) ∧
  (s.ctxOf t k).skip = none

/-- The context issues the word `w` as its next bundle in this clock (R97, R107, R114): the word is legal, nothing holds it and nothing in it faults. -/
def State.issues (s : State) (t k : Nat) (w : RWord) : Prop :=
  s.tries t k ∧ bundleLegal [w] = true ∧ s.holdOf t k [w] = none ∧ s.bundleFault t k [w] = none

/-- The context after the issue of `w`: in RUN, at its next bundle, with the results `ps` on their way to its registers (R85, R106, R124, R125). -/
def Ctx.issued (c : Ctx) (w : RWord) (ps : List PendWr) : Ctx :=
  { c.advance [w] with st := .run, held := none, woken := false, bar := .no, pend := c.pend ++ ps }

/-- Nothing but tile `t` has changed. -/
def OnlyTile (s u : State) (t : Nat) : Prop := u = { s with tiles := u.tiles } ∧ ∀ x, x ≠ t → u.tile x = s.tile x

/-- The other contexts of the tile are as they were, but that one in RUN has returned to READY (R86). -/
def OthersYield (s u : State) (t k : Nat) : Prop :=
  ∀ j, j ≠ k → u.ctxOf t j = if (s.ctxOf t j).st = .run then { s.ctxOf t j with st := .ready } else s.ctxOf t j

/-- The tile after an issue by context `k` is as before but for its contexts and its record of who issued. -/
def SameTileButContexts (s u : State) (t k : Nat) : Prop :=
  u.tile t = { s.tile t with cur := k, sel := some k, turn := false, ctx := (u.tile t).ctx }

/-- An issue whose only effect is on its context: `ps` is what is on its way to the registers. -/
def IssuedOnly (s u : State) (t k : Nat) (w : RWord) (ps : List PendWr) : Prop :=
  OnlyTile s u t ∧ SameTileButContexts s u t k ∧ OthersYield s u t k ∧ u.ctxOf t k = (s.ctxOf t k).issued w ps

/-- The lanes, flags and latency of a V-slot result on its way (R98, R106, R136, R139): the lanes under `mask` hold `res`, FFLAGS takes the flags of those lanes, the
a registers that INC names advance; all of it is due `vLatency` clocks after the issue. -/
def VIssued (s u : State) (t k : Nat) (w : RWord) (f : VR) (mask : BitVec 64) (res : Nat → LaneRes) : Prop :=
  ∃ (lanes : List Word) (fl : Nat), lanes.length = 64 ∧
    (∀ l, l < 64 → mask.getLsbD l = true → lanes.getD l 0 = BitVec.ofNat 32 (res l).code) ∧
    (∀ i, fl.testBit i = true ↔ ∃ l, l < 64 ∧ mask.getLsbD l = true ∧ (res l).fl.testBit i = true) ∧
    IssuedOnly s u t k w
      ([⟨(s.tile t).clk + (s.ctxOf t k).vLatency w.mn f, some (s.tile t).clk,
          if f.dm then .row ((s.ctxOf t k).rdA (f.vd.toNat % 16)).toNat (vWidths w.mn f).1 mask lanes else .v f.vd.toNat mask lanes⟩] ++
        (if fl = 0 then [] else [⟨(s.tile t).clk + (s.ctxOf t k).vLatency w.mn f, some (s.tile t).clk, .flags fl⟩]) ++
        (vIncs w.mn f).map (fun p => ⟨(s.tile t).clk + (s.ctxOf t k).vLatency w.mn f, some (s.tile t).clk, .a p.1 ((s.ctxOf t k).postInc p.1 p.2)⟩))

/-- Lane `l` of the first and of the second source of a V-slot instruction, as the element's code (R98, R136). -/
def State.src1 (s : State) (t k : Nat) (mn : Mn) (f : VR) (l : Nat) : Nat :=
  (s.vSrc t k f.m1 (if f.m1 then f.vs1.toNat % 16 else f.vs1.toNat) (vWidths mn f).2).getD l 0
def State.src2 (s : State) (t k : Nat) (mn : Mn) (f : VR) (l : Nat) : Nat :=
  (s.vSrc t k f.m2 (if f.m2 then f.vs2.toNat % 16 else f.vs2.toNat) (if mn = .VPERM then 32 else (vWidths mn f).2)).getD l 0

/-- The hoop records that the audit watches are records of the four clusters. No run leaves this form; a claim that counts an operation on a counter rests on it. -/
def State.hoopsSound (s : State) : Prop := ∀ e ∈ s.fab.hoops.entries, e.1 < 256

/-- The tables that claims look entries up in after a removal list their keys once, in order, and the hoop audit watches records of the four clusters. No run leaves this form. -/
def State.tablesSound (s : State) : Prop :=
  s.hoopsSound ∧ s.spares.wf = true ∧ s.prs.entry.wf = true ∧ s.sec.apps.wf = true ∧ s.sec.slots.wf = true ∧ s.fw.cores.wf = true ∧ s.vis.pipes.wf = true ∧
  ∀ t, (s.tile t).stat.wf = true ∧ (s.tile t).banks.wf = true ∧ (s.tile t).sets.wf = true ∧ ∀ k, (s.ctxOf t k).s.wf = true

/-- The HELD bit of a hold request (R53). -/
def State.heldBit (s : State) : HoldUnit → Bool
  | .window w => s.fab.winHeld.contains w.val
  | .ing n => s.vis.ingHeld.contains n.val
  | .isp n => s.vis.ispHeld.contains n.val
  | .prs => s.flag .PRS_CTRL [] 2

/-- No unit that reads the pair is in progress: the context has no open frame, no frame of it is in a pipe (R53). -/
def State.unitFree (s : State) : HoldUnit → Bool
  | .window _ => true
  | .ing n => (s.cam n.val).openFrame.isNone
  | .isp n => !(s.cam n.val).frames.any (fun f => decide (0 < f.taken))
  | .prs => true

/-- Nothing but registers has changed, and of the registers none but those at the listed addresses. -/
def OnlyRegs (s t : State) (as : List Nat) : Prop := t = { s with regs := t.regs } ∧ ∀ a, a ∉ as → t.rg a = s.rg a

/-- Every byte of memory outside `n` bytes at `a` reads as before. -/
def SameOutside (s t : State) (a n : Nat) : Prop := ∀ x, ¬ (a ≤ x ∧ x < a + n) → t.mem.rd x = s.mem.rd x

end Sys2Proof.Machine
end

