-- ==== Sys2Proof/Certificates/Slice0/Obligations.lean ====
section
/-! DEFINITION. The statements for the provers. Each docstring names the rule of spec/ that a statement formalises, or says what it rests on. -/

open Sys2Proof Sys2Proof.Machine

/-- The block's own step: the command at the front of the queue runs on the state with the queue's rest.
With no command waiting the block idles (the model's choice, log 11). -/
def Obligations.StepRunsFrontCommand : Prop :=
  (∀ (c : Instr) (rest : List Instr) (s : State), step { s with pending := c :: rest } = exec c { s with pending := rest }) ∧
  (∀ s : State, s.pending = [] → step s = .next s)

/-- R424: while PORST_N, BOR or TRIP holds the device, a command changes nothing; the rows of the reset sources themselves are apart.
R386: a cluster that is not in RUN has no clocks, so the commands of its tiles' own clocks change nothing there. -/
def Obligations.ResetAndSleepHoldCommands : Prop :=
  (∀ (c : Instr) (s : State), s.up = false → c ≠ .porstNAssert → c ≠ .porRelease → c ≠ .thermalTrip →
    (∀ mV n, c ≠ .brownOut mV n) → (∀ h, c ≠ .resetHoldEnd h) → exec c s = .next s) ∧
  (∀ (t : TileId) (s : State), s.clusterRuns (clusterOf t.val) = false →
    exec (.tileClock t) s = .next s ∧ (∀ k, exec (.contextReady t k) s = .next s) ∧ (∀ k g f, exec (.add t k g f) s = .next s) ∧
    (∀ k g f, exec (.sopen t k g f) s = .next s) ∧ (∀ k g f, exec (.vfma t k g f) s = .next s) ∧ (∀ k g f, exec (.mldi t k g f) s = .next s) ∧
    (∀ e, exec (.matrixStart t e) s = .next s) ∧ (∀ e, exec (.matrixComplete t e) s = .next s) ∧ exec (.streamFetchSend t) s = .next s ∧
    (∀ n ecc, exec (.rowLanding t n ecc) s = .next s) ∧ exec (.tileReady t) s = .next s)

/-- Every command in every state answers a next state, but for a supply above its operating range, of which the manual states nothing (R4, R417). -/
def Obligations.EveryCommandAnswers : Prop :=
  ∀ (c : Instr) (s : State), (∃ t, exec c s = .next t) ∨ (∃ mV n, c = .brownOut mV n ∧ 772 < mV ∧ exec c s = .fault .outsideLimits)

/-- R32: a write that is not 32 bits wide or not aligned to 4 bytes changes nothing, and a read of this kind returns 0 and changes nothing; the management block is told, with code SIZE, the initiator and the address. -/
def Obligations.SizeErrorAccess : Prop :=
  ∀ (ini : Initiator) (a : PAddr) (width : Nat) (data : Word) (s : State), width ≠ 32 ∨ a.toNat % 4 ≠ 0 →
    (s.up = true → exec (.registerWrite ini a width data) s =
      .next { s with mgt := { s.mgt with inflight := s.mgt.inflight ++ [⟨0, 1, ini.src.toNat, 0, a.toNat, s.phase, data.toNat⟩] } }) ∧
    s.busRead ini a.toNat width =
      (some 0, { s with mgt := { s.mgt with inflight := s.mgt.inflight ++ [⟨0, 1, ini.src.toNat, 0, a.toNat, s.phase, 0⟩] } })

/-- R33: a write that no block decodes, or that the firewall denies, changes nothing; the management block is told UNMAPPED or DENIED. -/
def Obligations.RefusedWrite : Prop :=
  ∀ (ini : Initiator) (a : PAddr) (data : Word) (s : State), s.up = true → a.toNat % 4 = 0 → a.toNat < 0x10000000 →
    a.toNat ≠ Reg.adr .SEC_FUSEADV [] → a.toNat ≠ Reg.adr .SEC_LC [] →
    (regsNear a.toNat = [] ∨ (s.permits ini a.toNat 4 true = true ∧ regAt a.toNat = none) →
      exec (.registerWrite ini a 32 data) s =
        .next { s with mgt := { s.mgt with inflight := s.mgt.inflight ++ [⟨0, 2, ini.src.toNat, 0, a.toNat, s.phase, data.toNat⟩] } }) ∧
    (regsNear a.toNat ≠ [] ∧ s.permits ini a.toNat 4 true = false →
      exec (.registerWrite ini a 32 data) s =
        .next { s with mgt := { s.mgt with inflight := s.mgt.inflight ++ [⟨0, 3, ini.src.toNat, 0, a.toNat, s.phase, data.toNat⟩] } })

/-- R13, R35, R39: a write that is performed at once, of a register that is no half of a 64-bit value and no command, stores its bits by their access codes
in that cycle, and nothing else changes. It holds for REGISTER_WRITE and for MASKED_WRITE.
R39, R198: the masked write of a regulator setting stores the selected bits, and the bucket's level is cut to the new capacity (R199). -/
def Obligations.RegisterWritesStore : Prop :=
  (∀ (ini : Initiator) (a : PAddr) (data : Word) (s : State) (r : Reg) (is : List Nat), s.Inv → a.toNat = r.adr is → s.takes ini r is data.toNat →
    r.quiet = true → r.desc.kind ≠ .lo → r.desc.kind ≠ .hi →
    ∃ t, exec (.registerWrite ini a 32 data) s = .next t ∧ exec (.maskedWrite ini a data) s = .next t ∧ OnlyRegs s t [r.adr is] ∧
      ∀ i, i < 32 → (t.reg r is).testBit i = writtenBit r.desc (s.writable r is) (s.reg r is) data.toNat i) ∧
  (∀ (ini : Initiator) (a : PAddr) (data : Word) (g : Fin 128) (s : State), s.Inv → a.toNat = Reg.adr .FAB_TREGg [g.val] →
    s.takes ini .FAB_TREGg [g.val] data.toNat →
    ∃ t, exec (.maskedWrite ini a data) s = .next t ∧
      (∀ i, i < 16 → (t.reg .FAB_TREGg [g.val]).testBit i =
        if data.toNat.testBit (i + 16) then data.toNat.testBit i else (s.reg .FAB_TREGg [g.val]).testBit i) ∧
      t.reg .FAB_TLVLg [g.val] = min (s.reg .FAB_TLVLg [g.val]) ((t.fld .FAB_TREGg [g.val] 15 8 + 1) * 512) ∧
      OnlyRegs s t [Reg.adr .FAB_TREGg [g.val], Reg.adr .FAB_TLVLg [g.val]])

/-- R41: a write to LO goes to staging and changes no value a block uses; a write to HI commits HI with the staged LO, and empties the staging. -/
def Obligations.StagedWriteCommits : Prop :=
  ∀ (ini : Initiator) (a : PAddr) (data : Word) (s : State) (r : Reg) (is : List Nat), s.Inv → a.toNat = r.adr is → s.takes ini r is data.toNat →
    r.quiet = true →
    (r.desc.kind = .lo → ∃ t, exec (.loStagedWrite ini a data) s = .next t ∧ t = { s with stage := t.stage } ∧
      (∀ i, i < 32 → (t.staged a.toNat).toNat.testBit i = writtenBit r.desc (s.writable r is) (s.staged a.toNat).toNat data.toNat i) ∧
      ∀ b, b ≠ a.toNat → t.staged b = s.staged b) ∧
    (r.desc.kind = .hi → ∃ t, exec (.hiCommitWrite ini a data) s = .next t ∧ t = { s with regs := t.regs, stage := t.stage } ∧
      t.rg (a.toNat - 4) = s.staged (a.toNat - 4) ∧ t.stage.find (a.toNat - 4) = none ∧
      (∀ i, i < 32 → (t.reg r is).testBit i = writtenBit r.desc (s.writable r is) (s.reg r is) data.toNat i) ∧
      ∀ b, b ≠ a.toNat → b ≠ a.toNat - 4 → t.rg b = s.rg b)

/-- R53: a hold request sets HOLD and no other bit; HELD is set only once no unit that reads the pair is in progress; when the request is cleared HELD clears in
the same cycle. It holds for the windows, the ingest contexts, the image pipe contexts and Press. -/
def Obligations.HoldRequestHeldRelease : Prop :=
  ∀ (ini : Initiator) (u : HoldUnit) (s : State), s.Inv →
    (s.takes ini (holdBit u).1 (holdBit u).2.1 (putBits (s.rwPart (holdBit u).1 (holdBit u).2.1) (holdBit u).2.2 (holdBit u).2.2 1) →
      ∃ t, exec (.holdRequest ini u) s = .next t ∧ t.flag (holdBit u).1 (holdBit u).2.1 (holdBit u).2.2 = true ∧
        (∀ i, i < 32 → i ≠ (holdBit u).2.2 → t.flag (holdBit u).1 (holdBit u).2.1 i = s.flag (holdBit u).1 (holdBit u).2.1 i) ∧
        OnlyRegs s t [(holdBit u).1.adr (holdBit u).2.1]) ∧
    (s.up = true → s.flag (holdBit u).1 (holdBit u).2.1 (holdBit u).2.2 = true → s.unitFree u = true →
      ∃ t, exec (.heldSet u) s = .next t ∧ t.heldBit u = true ∧ t.mem = s.mem ∧ t.tiles = s.tiles ∧ t.swp = s.swp) ∧
    (s.up = true → s.heldBit u = false → (s.flag (holdBit u).1 (holdBit u).2.1 (holdBit u).2.2 = false ∨ s.unitFree u = false) →
      exec (.heldSet u) s = .next s) ∧
    (s.takes ini (holdBit u).1 (holdBit u).2.1 (putBits (s.rwPart (holdBit u).1 (holdBit u).2.1) (holdBit u).2.2 (holdBit u).2.2 0) →
      ∃ t, exec (.holdRelease ini u) s = .next t ∧ t.flag (holdBit u).1 (holdBit u).2.1 (holdBit u).2.2 = false ∧ t.heldBit u = false ∧
        t.mem = s.mem ∧ t.tiles = s.tiles ∧ t.swp = s.swp)

/-- R74: setting EN starts the sweep unit in ACQUIRE with no entry selected; a SYNC_IDX unit counts sweeps from 0, a gPTP unit keeps its count until it starts;
clearing EN stops firing at once, sets IDLE and keeps the count. The deadline store and the miss FIFO stay.
R73 and the table of SWP_CNTCLR: the counters clear together; MISS_POP takes the oldest record out of the miss FIFO. -/
def Obligations.SweepEnableAndRecords : Prop :=
  (∀ (ini : Initiator) (data : Word) (s : State), s.Inv →
    (s.takes ini .SWP_CTRL [] (putBits data.toNat 0 0 1) → s.swpEn = false →
      ∃ t, exec (.swpEnable ini data) s = .next t ∧ t = { s with regs := t.regs, swp := t.swp } ∧ t.swpEn = true ∧ t.swpIdx = data.toNat.testBit 1 ∧
        t.swpFree = data.toNat.testBit 2 ∧ t.swp.st = .acquire ∧ t.swp.running = false ∧ t.swp.due = [] ∧
        t.swp.count = (if data.toNat.testBit 1 then 0 else s.swp.count) ∧ t.swp.store = s.swp.store ∧ t.swp.miss = s.swp.miss ∧
        ∀ a, a ≠ Reg.adr .SWP_CTRL [] → t.rg a = s.rg a) ∧
    (s.takes ini .SWP_CTRL [] (putBits data.toNat 0 0 0) → s.swpEn = true →
      ∃ t, exec (.swpDisable ini data) s = .next t ∧ t = { s with regs := t.regs, swp := t.swp } ∧ t.swpEn = false ∧ t.swp.st = .idle ∧
        t.swp.running = false ∧ t.swp.due = [] ∧ t.swp.left = [] ∧ t.swp.count = s.swp.count ∧ t.swp.store = s.swp.store ∧
        t.swp.miss = s.swp.miss ∧ ∀ a, a ≠ Reg.adr .SWP_CTRL [] → t.rg a = s.rg a)) ∧
  (∀ (ini : Initiator) (s : State), s.Inv →
    (s.takes ini .SWP_CNTCLR [] 1 →
      ∃ t, exec (.swpCntclr ini) s = .next t ∧ t.reg .SWP_CNT0 [] = 0 ∧ t.reg .SWP_CNT1 [] = 0 ∧
        OnlyRegs s t [Reg.adr .SWP_CNTCLR [], Reg.adr .SWP_CNT0 [], Reg.adr .SWP_CNT1 []]) ∧
    (s.takes ini .SWP_MISS_POP [] 1 →
      ∃ t, exec (.swpMissPop ini) s = .next t ∧ t.swp = { s.swp with miss := s.swp.miss.drop 1 } ∧ t = { s with regs := t.regs, swp := t.swp } ∧
        ∀ a, a ≠ Reg.adr .SWP_MISS_POP [] → t.rg a = s.rg a))

/-- R56, R69: at the wrap the phase passes from 65,535 to 0, the count increments modulo 2^64 and the record of fired entries clears; what was reached and not
yet selected stays to be selected. Before the wrap PHASE_WRAP changes nothing.
One sweep cycle of 4 ns: the cycle count and, while the timebase runs, vehicle time advance; a disabled unit does nothing else. In HOLDOVER the phase goes on at
the rate of the last period (R61): one sweep per that many ns, the remainder kept (log 12).
R60: a pulse shorter than 100 ns, of the other edge, or while the unit is off or follows gPTP, is ignored; the first one starts the sweep in ACQUIRE at its
own time; a later one whose interval lies within the limits and within TOL of the reference is accepted: the unit locks to it at that interval's rate. -/
def Obligations.SweepCyclesWrapsAndPulses : Prop :=
  (∀ s : State, s.up = true →
    (s.swp.running = true → 2 ^ 32 ≤ s.swp.pos →
      ∃ t, exec .phaseWrap s = .next t ∧ t.swp.pos = s.swp.pos - 2 ^ 32 ∧ t.swp.count = (s.swp.count + 1) % 2 ^ 64 ∧ t.swp.fired = [] ∧ t.swp.late = [] ∧
        t.swp.left = s.swp.left ++ s.openEntries.map (s.leftOf s.swp.count) ∧ t.swp.rem = s.swp.rem ∧ t.mem = s.mem ∧ t.tiles = s.tiles) ∧
    (s.swp.running = false ∨ s.swp.pos < 2 ^ 32 → exec .phaseWrap s = .next s)) ∧
  (∀ s : State, s.up = true →
    (s.swpEn = false → ∃ t, exec .sweepCycle s = .next t ∧ t.swp = { s.swp with cycle := s.swp.cycle + 1 } ∧
      t.net = { s.net with time := if s.net.tb = .disabled then s.net.time else s.net.time + 4 } ∧ t = { s with swp := t.swp, net := t.net }) ∧
    (s.swpEn = true → s.swpIdx = false → s.swp.running = true → s.swp.st = .holdover → s.net.tb ≠ .sync → s.swp.pos < 2 ^ 32 → s.swp.left = [] →
      s.openEntries = [] → ∃ t, exec .sweepCycle s = .next t ∧ t.swp.st = .holdover ∧ t.swp.count = s.swp.count ∧
        t.swp.pos * s.swp.rate + t.swp.rem = s.swp.pos * s.swp.rate + s.swp.rem + 2 ^ 34 ∧ t.regs = s.regs ∧ t.mem = s.mem ∧ t.tiles = s.tiles)) ∧
  (∀ (stamp width : Nat) (falling : Bool) (s : State), s.up = true →
    (s.swpEn = false ∨ s.swpIdx = false ∨ width < 100 ∨ falling ≠ s.flag .SWP_IDX [] 0 → exec (.syncIdxPulse stamp width falling) s = .next s) ∧
    (s.swpEn = true → s.swpIdx = true → 100 ≤ width → falling = s.flag .SWP_IDX [] 0 →
      (s.swp.lastAcc = none → ∃ t, exec (.syncIdxPulse stamp width falling) s = .next t ∧ t.swp.st = .acquire ∧ t.swp.running = true ∧
        t.swp.pos = (s.swp.cycle - stamp) * 2 ^ 34 / s.period ∧ t.swp.lastAcc = some stamp ∧ t = { s with swp := t.swp }) ∧
      (∀ last, s.swp.lastAcc = some last → 10000000 ≤ (stamp - last) * 4 → (stamp - last) * 4 ≤ 1000000000 →
        agrees (s.fld .SWP_IDX [] 23 8) ((stamp - last) * 4) (s.swp.lastI.getD s.period) = true →
        ∃ t, exec (.syncIdxPulse stamp width falling) s = .next t ∧ t.swp.rate = (stamp - last) * 4 ∧ t.swp.lastAcc = some stamp ∧ t.swp.wraps = 0 ∧
          (s.swp.st = .acquire ∨ s.swp.st = .holdover → t.swp.st = .locked) ∧ t = { s with swp := t.swp })))

/-- R66, R67: what an entry does in the cycle of its effect, for the actions that touch registers: NONE nothing, an unlisted action a count in BADACT, REFRESH the
permissions of the eight channels, PSTATE the permitted states of the masked clusters (3 only where all four are masked). The entry leaves the queue of effects.
R66, R256, R257, R273, R326: TRIG makes the masked FSYNC balls active while the output gate is open; I3C copies a write-list entry into the controller's queue of
16, or counts QFULL; SCAN asks the masked clusters for a scan unless two wait there; STATWIN gives every masked enabled context a publication for this point. -/
def Obligations.PhaseTableRegisterAndVisionActions : Prop :=
  (∀ (n : Fin 1024) (s : State) (d : Due) (rest : List Due), s.Inv → s.up = true → d.held = false →
    (s.dueEntry n.val (· == 0) = some (d, rest) → exec (.ptNone n) s = .next { s with swp := { s.swp with due := rest } }) ∧
    (s.dueEntry n.val (fun a => decide (10 ≤ a)) = some (d, rest) →
      ∃ t, exec (.badAct n) s = .next t ∧ t.fld .SWP_CNT1 [] 15 0 = min (s.fld .SWP_CNT1 [] 15 0 + 1) 65535 ∧ t.swp = { s.swp with due := rest } ∧
        OnlyRegs { s with swp := { s.swp with due := rest } } t [Reg.adr .SWP_CNT1 []]) ∧
    (s.dueEntry n.val (· == 7) = some (d, rest) → s.prs.cave = false →
      ∃ t, exec (.refresh n) s = .next t ∧ (∀ k, k < 8 → t.flag .LPX_REFk [k] 0 = d.hi.toNat.testBit k) ∧ t.swp = { s.swp with due := rest } ∧
        t = { s with regs := t.regs, swp := t.swp }) ∧
    (s.dueEntry n.val (· == 8) = some (d, rest) →
      ∃ t, exec (.pstate n) s = .next t ∧ t.swp = { s.swp with due := rest } ∧ OnlyRegs { s with swp := { s.swp with due := rest } } t [Reg.adr .PRS_PERM []] ∧
        ∀ c, c < 4 → t.fld .PRS_PERM [] (2 * c + 1) (2 * c) =
          if d.hi.toNat.testBit (4 + c) = false then s.fld .PRS_PERM [] (2 * c + 1) (2 * c)
          else if bits d.hi.toNat 1 0 = 3 ∧ bits d.hi.toNat 7 4 ≠ 15 then 2 else bits d.hi.toNat 1 0)) ∧
  (∀ (n : Fin 1024) (s : State) (d : Due) (rest : List Due), s.Inv → s.up = true → d.held = false → s.prs.cave = false →
    (s.dueEntry n.val (· == 1) = some (d, rest) → s.flag .SEC_GATE [] 0 = true →
      ∃ t, exec (.trig n) s = .next t ∧ (∀ i, i < 16 → (i ∈ t.vis.fsync ↔ d.hi.toNat.testBit i = true ∨ i ∈ s.vis.fsync)) ∧
        t = { s with swp := { s.swp with due := rest }, vis := { s.vis with fsync := t.vis.fsync } }) ∧
    (s.dueEntry n.val (· == 2) = some (d, rest) → s.flag .PAD_I3Cc_CTRL [bits d.hi.toNat 1 0] 0 = true →
      ((s.i3cQueue (bits d.hi.toNat 1 0)).length < 16 →
        ∃ t, exec (.i3c n) s = .next t ∧ t.i3cQueue (bits d.hi.toNat 1 0) = s.i3cQueue (bits d.hi.toNat 1 0) ++
            [⟨s.reg .PAD_I3Cc_WLe_A [bits d.hi.toNat 1 0, bits d.hi.toNat 9 2], s.reg .PAD_I3Cc_WLe_R [bits d.hi.toNat 1 0, bits d.hi.toNat 9 2],
              s.reg .PAD_I3Cc_WLe_D0 [bits d.hi.toNat 1 0, bits d.hi.toNat 9 2], s.reg .PAD_I3Cc_WLe_D1 [bits d.hi.toNat 1 0, bits d.hi.toNat 9 2],
              d.hi.toNat.testBit 31⟩] ∧
          t = { s with swp := { s.swp with due := rest }, vis := { s.vis with i3c := t.vis.i3c } }) ∧
      (16 ≤ (s.i3cQueue (bits d.hi.toNat 1 0)).length →
        ∃ t, exec (.i3c n) s = .next t ∧
          t.fld .PAD_I3Cc_STAT [bits d.hi.toNat 1 0] 23 16 = min (s.fld .PAD_I3Cc_STAT [bits d.hi.toNat 1 0] 23 16 + 1) 255 ∧ t.vis = s.vis)) ∧
    (s.dueEntry n.val (· == 4) = some (d, rest) → s.events = [] →
      ∃ t, exec (.scan n) s = .next t ∧ (∀ c, c < 4 → (SchEv.scan c 0 ∈ t.events ↔ d.hi.toNat.testBit c = true)) ∧
        t = { s with swp := { s.swp with due := rest }, events := t.events }) ∧
    (s.dueEntry n.val (· == 5) = some (d, rest) →
      ∃ t, exec (.statwin n) s = .next t ∧ t.swp = { s.swp with due := rest } ∧
        ∀ c, c < 32 → d.hi.toNat.testBit c = true → s.ingEn c = true →
          ∃ p, (t.cam c).pub = some p ∧ p.sweep = d.sweep % 2 ^ 32 ∧ p.phase = d.phase))

/-- R66, R68, R69, R377, R378: RELEASE releases every job of its queue that is picked up, with its deadline point in the deadline store; OPSET writes PREF of the masked
domains and clears their BREQ; DEADLINE finds nothing to miss in an empty store.
R69, R72, R73: a DEADLINE entry finds an open deadline of its queue at or before its point missed. The miss is counted in its queue's MISSES, sets EVT.MISS, goes into
the miss FIFO (or sets MISS_OVF where 64 wait) and is signalled as class DEADLINE; under FLAG the job stays and is not missed again, under DROP its deadline leaves the
store and its JID is killed. A deadline of another queue, or behind the point, stays as it is. -/
def Obligations.PhaseTableJobsAndDeadlines : Prop :=
  (∀ (n : Fin 1024) (s : State) (d : Due) (rest : List Due), s.Inv → s.up = true → d.held = false →
    (s.dueEntry n.val (· == 3) = some (d, rest) → s.prs.cave = false → ∀ j, s.fw.jobs = [j] → j.q = bits d.hi.toNat 7 0 → j.st = .admitted → j.killed = false →
      s.swp.store.length < 4096 → 1 ≤ j.dlSweeps →
      ∃ t, exec (.release n) s = .next t ∧ t.fw.jobs = [{ j with st := .released, rel := (d.sweep, d.phase), launch := j.clusters }] ∧
        t.swp.store = s.swp.store ++ [⟨j.jid, j.q, j.tag, d.sweep + j.dlSweeps, j.dlPhase, false⟩] ∧ t.regs = s.regs ∧ t.mem = s.mem ∧ t.tiles = s.tiles) ∧
    (s.dueEntry n.val (· == 6) = some (d, rest) → s.opsetReady d.hi.toNat = true →
      ∃ t, exec (.opset n) s = .next t ∧ t.swp = { s.swp with due := rest } ∧ t.mem = s.mem ∧ t.tiles = s.tiles ∧
        ∀ c, c < 6 → (d.hi.toNat.testBit (4 + c) = true → t.fld .PRS_DOMd [c] 3 0 = bits d.hi.toNat 3 0 ∧ t.flag .PRS_DOMd [c] 8 = false) ∧
          (d.hi.toNat.testBit (4 + c) = false → t.reg .PRS_DOMd [c] = s.reg .PRS_DOMd [c])) ∧
    (s.dueEntry n.val (· == 9) = some (d, rest) → s.swp.store = [] →
      ∃ t, exec (.deadline n) s = .next t ∧ t.swp = { s.swp with due := rest } ∧ t.mem = s.mem ∧ t.tiles = s.tiles)) ∧
  (∀ (n : Fin 1024) (s : State) (d : Due) (rest : List Due) (e : DlEnt), s.Inv → s.up = true → d.held = false → s.dueEntry n.val (· == 9) = some (d, rest) →
    s.swp.store = [e] → e.missed = false → e.queue < 256 →
    (e.queue = bits d.hi.toNat 7 0 → pointLe (e.sweep, e.phase) (d.sweep, d.phase) = true →
      ∃ t, exec (.deadline n) s = .next t ∧ t.swp.due = rest ∧ t.fld .SWP_QCFGq [e.queue] 31 16 = min (s.fld .SWP_QCFGq [e.queue] 31 16 + 1) 65535 ∧
        t.flag .SWP_EVT [] 2 = true ∧ t.mem = s.mem ∧ t.tiles = s.tiles ∧
        (s.swp.miss.length < 64 → ∃ m, t.swp.miss = s.swp.miss ++ [m] ∧ m.queue = e.queue ∧ m.tag = e.tag ∧ m.sweep = d.sweep ∧ m.phase = d.phase) ∧
        (64 ≤ s.swp.miss.length → t.swp.miss = s.swp.miss ∧ t.flag .SWP_EVT [] 3 = true) ∧
        (∃ r, r ∈ t.mgt.inflight ∧ r.cls = 1 ∧ r.inst = e.queue) ∧
        (s.fld .SWP_QCFGq [e.queue] 1 0 = 0 → t.swp.store = [{ e with missed := true }]) ∧
        (s.fld .SWP_QCFGq [e.queue] 1 0 = 1 → t.swp.store = [] ∧ (s.fab.kill.map (·.jid) ≠ some e.jid → e.jid ∈ t.fab.killPend))) ∧
    (e.queue ≠ bits d.hi.toNat 7 0 ∨ pointLe (e.sweep, e.phase) (d.sweep, d.phase) = false →
      ∃ t, exec (.deadline n) s = .next t ∧ t.swp = { s.swp with due := rest } ∧ t.mem = s.mem ∧ t.tiles = s.tiles))

/-- R94: EN from 0 to 1 starts the tile up where the cluster's bindings are distinct (R24), and leaves EN at 0 where they are not; the start-up ends with every byte of
the scratchpad 0, every landing flag set, no poison, every context idle with its registers 0, every slice free, and READY. -/
def Obligations.TileEnableStartsUp : Prop :=
  ∀ (ini : Initiator) (t : TileId) (s : State), s.Inv →
    (s.takes ini .TILE_CTRL (tix t.val) (putBits (s.rwPart .TILE_CTRL (tix t.val)) 0 0 1) → s.flag .TILE_CTRL (tix t.val) 0 = false →
      (s.bindingsDistinct (clusterOf t.val) = true →
        ∃ u, exec (.tileEnable ini t) s = .next u ∧ u.flag .TILE_CTRL (tix t.val) 0 = true ∧ u = { s with regs := u.regs, tiles := u.tiles } ∧
          u.tile t.val = { s.tile t.val with brining := true, ready := false, everOn := true } ∧ (∀ x, x ≠ t.val → u.tile x = s.tile x) ∧
          ∀ a, a ≠ Reg.adr .TILE_CTRL (tix t.val) → u.rg a = s.rg a) ∧
      (s.bindingsDistinct (clusterOf t.val) = false →
        ∃ u, exec (.tileEnable ini t) s = .next u ∧ u.flag .TILE_CTRL (tix t.val) 0 = false ∧ u.tiles = s.tiles ∧ u.mem = s.mem)) ∧
    (s.clocked t.val → (s.tile t.val).brining = true →
      ∃ u, exec (.tileReady t) s = .next u ∧ (u.tile t.val).ready = true ∧ (u.tile t.val).brining = false ∧ (u.tile t.val).unlanded = [] ∧
        (u.tile t.val).poison = [] ∧ (∀ k, u.ctxOf t.val k = Ctx.zero) ∧ (u.tile t.val).slices = .empty ∧ (u.tile t.val).sets = .empty ∧
        (u.tile t.val).banks = .empty ∧ (u.tile t.val).clk = (s.tile t.val).clk ∧ (∀ a, a < 0x100000 → u.mem.rd (spadBase t.val + a) = 0) ∧
        SameOutside s u (spadBase t.val) 0x100000 ∧ (∀ x, x ≠ t.val → u.tile x = s.tile x))

/-- R95, R105: EN from 1 to 0 stops every context as STOP does and clears READY; START sets an idle, halted or faulted context to READY at ENTRY with empty stacks and
leaves its registers; STOP moves a context to IDLE and invalidates its descriptor slots. The tile's other contexts stay.
R89, R90: LOCKSTEP is set or cleared; as it is set, the other contexts in RUN return to READY; STALLCLR zeroes the tile's eight stall counters. -/
def Obligations.ContextStartStopLockstep : Prop :=
  (∀ (ini : Initiator) (t : TileId) (k : CtxId) (s : State), s.Inv →
    (s.takes ini .TILE_CTRL (tix t.val) (putBits (s.rwPart .TILE_CTRL (tix t.val)) 0 0 0) → s.flag .TILE_CTRL (tix t.val) 0 = true →
      ∃ u, exec (.tileDisable ini t) s = .next u ∧ u.flag .TILE_CTRL (tix t.val) 0 = false ∧ (u.tile t.val).ready = false ∧
        (u.tile t.val).brining = false ∧ (u.tile t.val).load = none ∧ (∀ j, j < 4 → (u.ctxOf t.val j).st = .idle) ∧
        (∀ x, x ≠ t.val → u.tile x = s.tile x) ∧ ((s.tile t.val).reqs = [] → u.mem = s.mem)) ∧
    (s.takes ini .TILE_CTXk_CMD (tix t.val ++ [k.val]) 1 → (s.tile t.val).ready = true → (s.tile t.val).killed = false →
      ((s.ctxOf t.val k.val).st = .idle ∨ (s.ctxOf t.val k.val).st = .halted ∨ (s.ctxOf t.val k.val).st = .fault →
        ∃ u, exec (.start ini t k) s = .next u ∧ (u.ctxOf t.val k.val).st = .ready ∧
          (u.ctxOf t.val k.val).pc = s.reg64 .TILE_CTXk_ENTRY_LO .TILE_CTXk_ENTRY_HI (tix t.val ++ [k.val]) ∧ (u.ctxOf t.val k.val).loops = [] ∧
          (u.ctxOf t.val k.val).rets = [] ∧ (u.ctxOf t.val k.val).s = (s.ctxOf t.val k.val).s ∧ (u.ctxOf t.val k.val).a = (s.ctxOf t.val k.val).a ∧
          (u.ctxOf t.val k.val).v = (s.ctxOf t.val k.val).v ∧ (u.ctxOf t.val k.val).p = (s.ctxOf t.val k.val).p ∧
          (∀ j, j ≠ k.val → u.ctxOf t.val j = s.ctxOf t.val j) ∧ u = { s with regs := u.regs, tiles := u.tiles }) ∧
      ((s.ctxOf t.val k.val).st = .ready ∨ (s.ctxOf t.val k.val).st = .run ∨ (s.ctxOf t.val k.val).st = .wait ∨ (s.ctxOf t.val k.val).st = .park →
        ∃ u, exec (.start ini t k) s = .next u ∧ u = { s with regs := u.regs })) ∧
    (s.takes ini .TILE_CTXk_CMD (tix t.val ++ [k.val]) 2 → (s.tile t.val).ready = true → (s.tile t.val).killed = false → (s.ctxOf t.val k.val).st ≠ .idle →
      ∃ u, exec (.stop ini t k) s = .next u ∧ (u.ctxOf t.val k.val).st = .idle ∧ (u.ctxOf t.val k.val).d = .empty ∧ (u.ctxOf t.val k.val).bar = .no ∧
        (u.ctxOf t.val k.val).s = (s.ctxOf t.val k.val).s ∧ (u.ctxOf t.val k.val).a = (s.ctxOf t.val k.val).a ∧
        (u.ctxOf t.val k.val).v = (s.ctxOf t.val k.val).v ∧ (u.ctxOf t.val k.val).p = (s.ctxOf t.val k.val).p ∧
        (∀ j, j ≠ k.val → u.ctxOf t.val j = s.ctxOf t.val j) ∧ (∀ x, x ≠ t.val → u.tile x = s.tile x))) ∧
  (∀ (ini : Initiator) (t : TileId) (on : Bool) (s : State), s.Inv →
    (s.takes ini .TILE_CTRL (tix t.val) (putBits (s.rwPart .TILE_CTRL (tix t.val)) 1 1 (b2n on)) →
      ∃ u, exec (.lockstep ini t on) s = .next u ∧ u.flag .TILE_CTRL (tix t.val) 1 = on ∧ u.flag .TILE_CTRL (tix t.val) 0 = s.flag .TILE_CTRL (tix t.val) 0 ∧
        u = { s with regs := u.regs, tiles := u.tiles } ∧ (∀ x, x ≠ t.val → u.tile x = s.tile x) ∧ u.ctxOf t.val 0 = s.ctxOf t.val 0 ∧
        (on = true → s.flag .TILE_CTRL (tix t.val) 1 = false → OthersYield s u t.val 0) ∧
        (on = false ∨ s.flag .TILE_CTRL (tix t.val) 1 = true → u.tiles = s.tiles)) ∧
    (s.takes ini .TILE_STALLCLR (tix t.val) 1 →
      ∃ u, exec (.stallCountersClear ini t) s = .next u ∧ u = { s with regs := u.regs } ∧
        ∀ c, c < 8 → u.reg64 .TILE_STALLc_LO .TILE_STALLc_HI (tix t.val ++ [c]) = 0))

/-- R86, R106, R134: a tile that is off has no clocks; one that starts up only counts them; in a READY tile a result whose clock has come lands in its register and
one whose clock has not stays on its way. A context that waits for nothing any more becomes READY, and so does a parked one that has been woken. -/
def Obligations.TileClockAndContextReady : Prop :=
  ∀ (t : TileId) (k : CtxId) (s : State), s.clocked t.val →
    (s.flag .TILE_CTRL (tix t.val) 0 = false → exec (.tileClock t) s = .next s) ∧
    (s.flag .TILE_CTRL (tix t.val) 0 = true → (s.tile t.val).ready = false →
      ∃ u, exec (.tileClock t) s = .next u ∧ OnlyTile s u t.val ∧ u.tile t.val = { s.tile t.val with clk := (s.tile t.val).clk + 1 }) ∧
    (s.flag .TILE_CTRL (tix t.val) 0 = true → (s.tile t.val).ready = true → s.dbgHold t.val = true → (s.tile t.val).mq = [] → (s.tile t.val).reqs = [] →
      ∀ i v due, (∀ j, j ≠ k.val → (s.ctxOf t.val j).pend = []) → (s.ctxOf t.val k.val).pend = [⟨due, none, .s i v⟩] → (s.ctxOf t.val k.val).s.wf = true →
      ∃ u, exec (.tileClock t) s = .next u ∧ (u.tile t.val).clk = (s.tile t.val).clk + 1 ∧ u.mem = s.mem ∧
        (due ≤ (s.tile t.val).clk + 1 → (u.ctxOf t.val k.val).pend = [] ∧ (u.ctxOf t.val k.val).rdS i = if i = 0 then 0 else v) ∧
        ((s.tile t.val).clk + 1 < due → (u.ctxOf t.val k.val).pend = [⟨due, none, .s i v⟩] ∧ (u.ctxOf t.val k.val).s = (s.ctxOf t.val k.val).s)) ∧
    ((s.ctxOf t.val k.val).st = .wait → (∃ ws, (s.ctxOf t.val k.val).held = some ws ∧ s.holdOf t.val k.val ws = none) →
      ∃ u, exec (.contextReady t k) s = .next u ∧ OnlyTile s u t.val ∧ u.ctxOf t.val k.val = { s.ctxOf t.val k.val with st := .ready } ∧
        ∀ j, j ≠ k.val → u.ctxOf t.val j = s.ctxOf t.val j) ∧
    ((s.ctxOf t.val k.val).st = .park →
      ((s.ctxOf t.val k.val).woken = true ∨ (s.ctxOf t.val k.val).bar = .woken →
        ∃ u, exec (.contextReady t k) s = .next u ∧ OnlyTile s u t.val ∧ u.ctxOf t.val k.val = { s.ctxOf t.val k.val with st := .ready }) ∧
      ((s.ctxOf t.val k.val).woken = false → (s.ctxOf t.val k.val).bar ≠ .woken → exec (.contextReady t k) s = .next s)) ∧
    ((s.ctxOf t.val k.val).st ≠ .wait → (s.ctxOf t.val k.val).st ≠ .park → exec (.contextReady t k) s = .next s)

/-- R99, R124, R125: an instruction whose guard disables it does nothing but that its context moves on: to the next word, or at the end bundle of the innermost loop
back to the loop's start while its count lasts.
R97, R101, R114 to R116: an illegal word raises ILL, and a word that nothing holds and that has a precise fault raises the fault of lowest code. FAULT and FPC record it,
the context is in FAULT with its registers as they were and its descriptor slots invalid, and the scheduler core is told.
R81, R82, R107, R131, R133, R134: what holds a legal word decides where its context goes. An old value or a row that has not come, a full stream queue, a used bank or an
unmet fence leaves it in WAIT; an unmet RNWAIT and a BAR whose completion has not come park it; a BAR whose fences are met sends its arrival; a full matrix queue
leaves it where it is. Nothing of the word takes effect. -/
def Obligations.GuardedOffHeldAndFaultingWords : Prop :=
  (∀ (i : Instr) (t : TileId) (k : CtxId) (w : RWord) (s : State), i.ralok = some (t, k, w) → s.issues t.val k.val w →
    (s.ctxOf t.val k.val).enables w = false →
    ∃ u, exec i s = .next u ∧ IssuedOnly s u t.val k.val w [] ∧
      ((s.ctxOf t.val k.val).loops = [] → (u.ctxOf t.val k.val).pc = ((s.ctxOf t.val k.val).pc + 8) % 2 ^ 48 ∧ (u.ctxOf t.val k.val).loops = []) ∧
      (∀ e es, (s.ctxOf t.val k.val).loops = e :: es →
        (e.fin ≠ (s.ctxOf t.val k.val).pc → (u.ctxOf t.val k.val).pc = ((s.ctxOf t.val k.val).pc + 8) % 2 ^ 48 ∧ (u.ctxOf t.val k.val).loops = e :: es) ∧
        (e.fin = (s.ctxOf t.val k.val).pc → 1 < e.count →
          (u.ctxOf t.val k.val).pc = e.start ∧ (u.ctxOf t.val k.val).loops = ⟨e.start, e.fin, e.count - 1⟩ :: es) ∧
        (e.fin = (s.ctxOf t.val k.val).pc → e.count ≤ 1 → es = [] →
          (u.ctxOf t.val k.val).pc = ((s.ctxOf t.val k.val).pc + 8) % 2 ^ 48 ∧ (u.ctxOf t.val k.val).loops = []))) ∧
  (∀ (i : Instr) (t : TileId) (k : CtxId) (w : RWord) (code : Nat) (s : State), s.Inv → i.ralok = some (t, k, w) → s.tries t.val k.val →
    (bundleLegal [w] = false ∧ code = 0x01) ∨
      (bundleLegal [w] = true ∧ s.holdOf t.val k.val [w] = none ∧ s.bundleFault t.val k.val [w] = some code) →
    (s.tile t.val).reqs = [] →
    ∃ u, exec i s = .next u ∧ u.reg .TILE_CTXk_FAULT (tix t.val ++ [k.val]) = (2 ^ 31 + code * 2 ^ 16) % 2 ^ 32 ∧
      u.reg64 .TILE_CTXk_FPC_LO .TILE_CTXk_FPC_HI (tix t.val ++ [k.val]) = (s.ctxOf t.val k.val).pc % 2 ^ 48 ∧
      u.ctxOf t.val k.val = { s.ctxOf t.val k.val with st := .fault, d := .empty, held := none, woken := false, bar := .no, skip := none, miss := none, ffail := none } ∧
      u.events = s.events ++ [.fault t.val k.val] ∧ u.mem = s.mem ∧ (∀ j, j ≠ k.val → u.ctxOf t.val j = s.ctxOf t.val j) ∧
      (∀ x, x ≠ t.val → u.tile x = s.tile x) ∧
      ∀ a, a ≠ Reg.adr .TILE_CTXk_FAULT (tix t.val ++ [k.val]) → a ≠ Reg.adr .TILE_CTXk_FPC_LO (tix t.val ++ [k.val]) →
        a ≠ Reg.adr .TILE_CTXk_FPC_HI (tix t.val ++ [k.val]) → (∀ j, s.jobOf t.val = some j → a ≠ Reg.adr .FAB_BARj_STAT [j]) → u.rg a = s.rg a) ∧
  (∀ (i : Instr) (t : TileId) (k : CtxId) (w : RWord) (h : Hold) (s : State), i.ralok = some (t, k, w) → s.tries t.val k.val → bundleLegal [w] = true →
    s.holdOf t.val k.val [w] = some h →
    (h = .mqueue → exec i s = .next s) ∧
    (h = .oldVal ∨ h = .rows ∨ h = .grant ∨ h = .full ∨ h = .fence ∨ h = .barFence →
      exec i s = .next (s.updCtx t.val k.val (fun c => { c with st := .wait, held := some [w] }))) ∧
    (h = .rnt → (s.ctxOf t.val k.val).st ≠ .park →
      exec i s = .next (s.updCtx t.val k.val (fun c => { c with st := .park, held := some [w], woken := false }))) ∧
    (h = .barWait → exec i s = .next (s.updCtx t.val k.val (fun c => { c with st := .park, held := some [w] }))) ∧
    (h = .barArrive →
      ∃ u, exec i s = .next u ∧ u = { s with tiles := u.tiles, fab := u.fab } ∧
        u.fab = { s.fab with bars := s.fab.bars ++ [⟨s.fld .TILE_JOB (tix t.val) 7 0, t.val, k.val⟩] } ∧
        u.ctxOf t.val k.val = { s.ctxOf t.val k.val with st := .park, held := some [w], bar := .sent } ∧
        (∀ j, j ≠ k.val → u.ctxOf t.val j = s.ctxOf t.val j) ∧ ∀ x, x ≠ t.val → u.tile x = s.tile x))

/-- R122: ADD, SUB, AND, OR, XOR, SHL and SHR write x operated with y modulo 2^64, or in the W forms the low 32 bits of the result, sign-extended; the result lands
after one clock, and nothing else changes.
R113, R123: LDN writes the 1 to 8 bytes at its address, zero- or sign-extended, after four clocks, and changes no memory; STN stores the low bytes of its register at its
address, and no other byte changes. The post-increment forms use the a register alone as the address and advance it. -/
def Obligations.ScalarArithmeticAndMemory : Prop :=
  (∀ (t : TileId) (k : CtxId) (g : Guard) (f : SA) (x y : DWord) (s : State), (s.ctxOf t.val k.val).guardS g = true →
    x = (s.ctxOf t.val k.val).rdSA (saRs1IsA f) f.rs1.toNat → y = (s.ctxOf t.val k.val).rdSrc2 f.src2 →
    (s.issues t.val k.val ⟨.ADD, g, .sa f⟩ → ∃ u, exec (.add t k g f) s = .next u ∧ IssuedOnly s u t.val k.val ⟨.ADD, g, .sa f⟩
      [⟨(s.tile t.val).clk + 1, none, saDst f (if f.fn.getLsbD 0 then ((x + y).truncate 32).signExtend 64 else x + y)⟩]) ∧
    (s.issues t.val k.val ⟨.SUB, g, .sa f⟩ → ∃ u, exec (.sub t k g f) s = .next u ∧ IssuedOnly s u t.val k.val ⟨.SUB, g, .sa f⟩
      [⟨(s.tile t.val).clk + 1, none, saDst f (if f.fn.getLsbD 0 then ((x - y).truncate 32).signExtend 64 else x - y)⟩]) ∧
    (s.issues t.val k.val ⟨.AND, g, .sa f⟩ → ∃ u, exec (.and t k g f) s = .next u ∧
      IssuedOnly s u t.val k.val ⟨.AND, g, .sa f⟩ [⟨(s.tile t.val).clk + 1, none, saDst f (x &&& y)⟩]) ∧
    (s.issues t.val k.val ⟨.OR, g, .sa f⟩ → ∃ u, exec (.or t k g f) s = .next u ∧
      IssuedOnly s u t.val k.val ⟨.OR, g, .sa f⟩ [⟨(s.tile t.val).clk + 1, none, saDst f (x ||| y)⟩]) ∧
    (s.issues t.val k.val ⟨.XOR, g, .sa f⟩ → ∃ u, exec (.xor t k g f) s = .next u ∧
      IssuedOnly s u t.val k.val ⟨.XOR, g, .sa f⟩ [⟨(s.tile t.val).clk + 1, none, saDst f (x ^^^ y)⟩]) ∧
    (s.issues t.val k.val ⟨.SHL, g, .sa f⟩ → ∃ u, exec (.shl t k g f) s = .next u ∧ IssuedOnly s u t.val k.val ⟨.SHL, g, .sa f⟩
      [⟨(s.tile t.val).clk + 1, none, saDst f (if f.fn.getLsbD 0 then ((x.truncate 32 : Word) <<< (y.toNat % 32)).signExtend 64 else x <<< (y.toNat % 64))⟩]) ∧
    (s.issues t.val k.val ⟨.SHR, g, .sa f⟩ → ∃ u, exec (.shr t k g f) s = .next u ∧ IssuedOnly s u t.val k.val ⟨.SHR, g, .sa f⟩
      [⟨(s.tile t.val).clk + 1, none, saDst f
        (if f.fn.getLsbD 0 then
          (if f.fn.getLsbD 1 then (x.truncate 32 : Word).sshiftRight (y.toNat % 32) else (x.truncate 32 : Word) >>> (y.toNat % 32)).signExtend 64
        else if f.fn.getLsbD 1 then x.sshiftRight (y.toNat % 64) else x >>> (y.toNat % 64))⟩])) ∧
  (∀ (t : TileId) (k : CtxId) (g : Guard) (f : SM) (s : State) (a n : Nat), (s.ctxOf t.val k.val).guardS g = true →
    a = (if f.fn.getLsbD 4 then ((s.ctxOf t.val k.val).rdA f.ab.toNat).toNat else ((s.ctxOf t.val k.val).rdA f.ab.toNat + f.imm.signExtend 64).toNat) →
    n = 2 ^ (f.fn.toNat % 4) →
    (s.issues t.val k.val ⟨.LDN, g, .sm f⟩ →
      ∃ u v, exec (.ldn t k g f) s = .next u ∧ u.mem = s.mem ∧
        (∀ i, i < 64 → v.getLsbD i = if i < 8 * n then (s.mem.rd (spadBase t.val + a + i / 8)).getLsbD (i % 8)
          else f.fn.getLsbD 2 && (s.mem.rd (spadBase t.val + a + n - 1)).getLsbD 7) ∧
        IssuedOnly s u t.val k.val ⟨.LDN, g, .sm f⟩
          ([⟨(s.tile t.val).clk + 4, none, if f.fn.getLsbD 7 then .a f.rd.toNat v else .s f.rd.toNat v⟩] ++
            (if f.fn.getLsbD 4 then [⟨(s.tile t.val).clk + 4, none, .a f.ab.toNat ((s.ctxOf t.val k.val).postInc f.ab.toNat f.imm.toInt)⟩] else []))) ∧
    (s.Inv → s.issues t.val k.val ⟨.STN, g, .sm f⟩ →
      ∃ u, exec (.stn t k g f) s = .next u ∧
        IssuedOnly { s with mem := u.mem } u t.val k.val ⟨.STN, g, .sm f⟩
          (if f.fn.getLsbD 4 then [⟨(s.tile t.val).clk + 1, none, .a f.ab.toNat ((s.ctxOf t.val k.val).postInc f.ab.toNat f.imm.toInt)⟩] else []) ∧
        (∀ i, i < n → (u.mem.rd (spadBase t.val + a + i)).toNat =
          (if f.fn.getLsbD 7 then (s.ctxOf t.val k.val).rdA f.rd.toNat else (s.ctxOf t.val k.val).rdS f.rd.toNat).toNat / 256 ^ i % 256) ∧
        SameOutside s u (spadBase t.val + a) n))

/-- R108, R109, R126: CSRRD writes the CSR's value after two clocks; CSRWR writes the old value the same way, clears the FFLAGS bits that are written 1 (but for flags of
this clock) or stores the wrap window.
R133 to R135, R161, R437: a FENCE whose kinds are complete and a BAR whose completion has come go on; MSEST counts the samples of this clock, then sets the enables of its
channels and with CLR their sums and counts to 0, and drops the samples of the next clock on them. -/
def Obligations.ControlRegistersFencesStatistics : Prop :=
  (∀ (t : TileId) (k : CtxId) (g : Guard) (f : SC) (v : Nat) (s : State), (s.ctxOf t.val k.val).guardS g = true → s.csrValue t.val k.val f.csr.toNat = some v →
    (s.issues t.val k.val ⟨.CSRRD, g, .sc f⟩ →
      ∃ u, exec (.csrrd t k g f) s = .next u ∧
        IssuedOnly s u t.val k.val ⟨.CSRRD, g, .sc f⟩ [⟨(s.tile t.val).clk + 2, none, .s f.rd.toNat (BitVec.ofNat 64 v)⟩]) ∧
    (s.issues t.val k.val ⟨.CSRWR, g, .sc f⟩ →
      (f.csr.toNat = 3 →
        ∃ u fl, exec (.csrwr t k g f) s = .next u ∧
          (∀ i, i < 6 → fl.testBit i = (((s.ctxOf t.val k.val).fflags.testBit i && !((s.ctxOf t.val k.val).rdS f.rs1.toNat).getLsbD i) ||
            (s.ctxOf t.val k.val).newFl.testBit i)) ∧
          IssuedOnly (s.updCtx t.val k.val (fun c => { c with fflags := fl })) u t.val k.val ⟨.CSRWR, g, .sc f⟩
            [⟨(s.tile t.val).clk + 2, none, .s f.rd.toNat (BitVec.ofNat 64 v)⟩]) ∧
      (f.csr.toNat ≠ 3 →
        ∃ u w, exec (.csrwr t k g f) s = .next u ∧
          (∀ i, i < 64 → w.getLsbD i = (((s.ctxOf t.val k.val).rdS f.rs1.toNat).getLsbD i && (decide (i < 12) || (decide (16 ≤ i) && decide (i < 29))))) ∧
          IssuedOnly (s.updCtx t.val k.val (fun c => { c with awrap := c.awrap.set 0 (f.csr.toNat - 16) w })) u t.val k.val ⟨.CSRWR, g, .sc f⟩
            [⟨(s.tile t.val).clk + 2, none, .s f.rd.toNat (BitVec.ofNat 64 v)⟩]))) ∧
  (∀ (t : TileId) (k : CtxId) (g : Guard) (f : TB) (s : State), (s.ctxOf t.val k.val).guardS g = true →
    (s.issues t.val k.val ⟨.FENCE, g, .tb f⟩ → ∃ u, exec (.fence t k g f) s = .next u ∧ IssuedOnly s u t.val k.val ⟨.FENCE, g, .tb f⟩ []) ∧
    (s.issues t.val k.val ⟨.BAR, g, .tb f⟩ → (s.ctxOf t.val k.val).bar = .woken ∧
      ∃ u, exec (.bar t k g f) s = .next u ∧ IssuedOnly s u t.val k.val ⟨.BAR, g, .tb f⟩ [] ∧ (u.ctxOf t.val k.val).bar = .no) ∧
    (s.issues t.val k.val ⟨.MSEST, g, .tb f⟩ →
      ∃ u x, exec (.msest t k g f) s = .next u ∧ IssuedOnly (s.setTile t.val x) u t.val k.val ⟨.MSEST, g, .tb f⟩ [] ∧
        x = { s.tile t.val with stat := x.stat, samples := [], drop := x.drop } ∧
        (∀ j, (f.ch0.toNat ≤ j ∧ j < f.ch0.toNat + f.nch.toNat →
            x.stat.get StatCh.zero j = if f.clr then ⟨0, 0, f.en⟩ else { (s.tile t.val).flushSamples.stat.get StatCh.zero j with en := f.en }) ∧
          (j < f.ch0.toNat ∨ f.ch0.toNat + f.nch.toNat ≤ j → x.stat.get StatCh.zero j = (s.tile t.val).flushSamples.stat.get StatCh.zero j)) ∧
        (f.clr = true → ∀ j, f.ch0.toNat ≤ j → j < f.ch0.toNat + f.nch.toNat → ((s.tile t.val).clk + 1, j) ∈ x.drop)))

/-- R124, R125: BR, CALL and a BRC whose condition holds go to the bundle's own address + OFF, a BRC whose condition fails goes on; CALL pushes the address behind it and RET
goes to the address on top and pops it; LOOP pushes its body's start, end and count, and a LOOP of 0 goes to the end of its body, which it skips.
R85, R87, R110, R111: YIELD leaves its context READY in native mode and has no effect in lockstep mode; HALT leaves it HALTED with its registers as they were and its
descriptor slots invalid, begins the release of its slices, and tells the scheduler core. -/
def Obligations.ControlFlowYieldHalt : Prop :=
  (∀ (t : TileId) (k : CtxId) (g : Guard) (f : SB) (x y : DWord) (s : State) (tgt seq : Nat), (s.ctxOf t.val k.val).guardS g = true →
    (tgt : Int) = (((s.ctxOf t.val k.val).pc : Int) + f.off.toInt) % 2 ^ 48 → seq = ((s.ctxOf t.val k.val).pc + 8) % 2 ^ 48 →
    x = (s.ctxOf t.val k.val).rdS f.rs1.toNat → y = (s.ctxOf t.val k.val).rdS f.rs2.toNat →
    (s.issues t.val k.val ⟨.BR, g, .sb f⟩ →
      ∃ u, exec (.br t k g f) s = .next u ∧ IssuedOnly s u t.val k.val ⟨.BR, g, .sb f⟩ [] ∧ (u.ctxOf t.val k.val).pc = tgt ∧
        (u.ctxOf t.val k.val).loops = (s.ctxOf t.val k.val).loops ∧ (u.ctxOf t.val k.val).rets = (s.ctxOf t.val k.val).rets) ∧
    (s.issues t.val k.val ⟨.BRC, g, .sb f⟩ →
      ∃ u, exec (.brc t k g f) s = .next u ∧ IssuedOnly s u t.val k.val ⟨.BRC, g, .sb f⟩ [] ∧ (u.ctxOf t.val k.val).rets = (s.ctxOf t.val k.val).rets ∧
        ((f.fn = 0 ∧ x = y) ∨ (f.fn = 1 ∧ x ≠ y) ∨ (f.fn = 2 ∧ x.toInt < y.toInt) ∨ (f.fn = 3 ∧ y.toInt ≤ x.toInt) ∨ (f.fn = 4 ∧ x.toNat < y.toNat) ∨
            (f.fn = 5 ∧ y.toNat ≤ x.toNat) →
          (u.ctxOf t.val k.val).pc = tgt ∧ (u.ctxOf t.val k.val).loops = (s.ctxOf t.val k.val).loops) ∧
        ((f.fn = 0 ∧ x ≠ y) ∨ (f.fn = 1 ∧ x = y) ∨ (f.fn = 2 ∧ y.toInt ≤ x.toInt) ∨ (f.fn = 3 ∧ x.toInt < y.toInt) ∨ (f.fn = 4 ∧ y.toNat ≤ x.toNat) ∨
            (f.fn = 5 ∧ x.toNat < y.toNat) →
          (u.ctxOf t.val k.val).pc = (loopEnd (s.ctxOf t.val k.val).pc (s.ctxOf t.val k.val).loops).2.getD seq ∧
          (u.ctxOf t.val k.val).loops = (loopEnd (s.ctxOf t.val k.val).pc (s.ctxOf t.val k.val).loops).1)) ∧
    (s.issues t.val k.val ⟨.CALL, g, .sb f⟩ →
      ∃ u, exec (.call t k g f) s = .next u ∧ IssuedOnly s u t.val k.val ⟨.CALL, g, .sb f⟩ [] ∧ (u.ctxOf t.val k.val).pc = tgt ∧
        (u.ctxOf t.val k.val).rets = seq :: (s.ctxOf t.val k.val).rets) ∧
    (s.issues t.val k.val ⟨.RET, g, .sn⟩ →
      ∃ u r rs, exec (.ret t k g) s = .next u ∧ (s.ctxOf t.val k.val).rets = r :: rs ∧ IssuedOnly s u t.val k.val ⟨.RET, g, .sn⟩ [] ∧
        (u.ctxOf t.val k.val).pc = r ∧ (u.ctxOf t.val k.val).rets = rs) ∧
    (s.issues t.val k.val ⟨.LOOP, g, .sb f⟩ →
      ∃ u, exec (.loop t k g f) s = .next u ∧ IssuedOnly s u t.val k.val ⟨.LOOP, g, .sb f⟩ [] ∧
        (x ≠ 0 → (u.ctxOf t.val k.val).loops = ⟨seq, tgt, x.toNat⟩ :: (loopEnd (s.ctxOf t.val k.val).pc (s.ctxOf t.val k.val).loops).1 ∧
          (u.ctxOf t.val k.val).pc = (loopEnd (s.ctxOf t.val k.val).pc (s.ctxOf t.val k.val).loops).2.getD seq) ∧
        (∀ b, x = 0 → (loopEnd (s.ctxOf t.val k.val).pc (s.ctxOf t.val k.val).loops).2 = some b → (u.ctxOf t.val k.val).pc = b) ∧
        (x = 0 → (loopEnd (s.ctxOf t.val k.val).pc (s.ctxOf t.val k.val).loops).2 = none →
          (u.ctxOf t.val k.val).pc = tgt ∧ (u.ctxOf t.val k.val).skip = some tgt ∧
          (u.ctxOf t.val k.val).loops = (loopEnd (s.ctxOf t.val k.val).pc (s.ctxOf t.val k.val).loops).1))) ∧
  (∀ (t : TileId) (k : CtxId) (g : Guard) (s : State), (s.ctxOf t.val k.val).guardS g = true →
    (s.issues t.val k.val ⟨.YIELD, g, .sn⟩ →
      ∃ u, exec (.yield t k g) s = .next u ∧ OnlyTile s u t.val ∧ SameTileButContexts s u t.val k.val ∧ OthersYield s u t.val k.val ∧
        u.ctxOf t.val k.val = { (s.ctxOf t.val k.val).issued ⟨.YIELD, g, .sn⟩ [] with
                                st := if s.flag .TILE_CTRL (tix t.val) 1 then .run else .ready }) ∧
    (s.issues t.val k.val ⟨.HALT, g, .sn⟩ → (s.tile t.val).reqs = [] →
      ∃ u, exec (.halt t k g) s = .next u ∧ u = { s with tiles := u.tiles, events := u.events } ∧ u.events = s.events ++ [.halted t.val k.val] ∧
        OthersYield s u t.val k.val ∧ (∀ x, x ≠ t.val → u.tile x = s.tile x) ∧ (u.ctxOf t.val k.val).st = .halted ∧ (u.ctxOf t.val k.val).d = .empty ∧
        (u.ctxOf t.val k.val).s = (s.ctxOf t.val k.val).s ∧ (u.ctxOf t.val k.val).a = (s.ctxOf t.val k.val).a ∧
        (u.ctxOf t.val k.val).v = (s.ctxOf t.val k.val).v ∧ (u.ctxOf t.val k.val).p = (s.ctxOf t.val k.val).p ∧
        ∀ j, j < 4 → ((s.tile t.val).slice j).owner = some k.val → ((u.tile t.val).slice j).releasing = true))

/-- R127 to R129, R192 to R195: SOPEN loads a descriptor, its BASE increased by s[RS1], into its slot; an SIDX or SBLK of the slot's kind puts a request with its count and
first element into the context's queue, and a read clears the landing flags of its rows; one of 0 entries, or on a slot of another kind, does nothing; SLAND clears the flags of its rows. -/
def Obligations.StreamInstructions : Prop :=
  ∀ (t : TileId) (k : CtxId) (g : Guard) (f : TS) (s : State) (a : Nat), (s.ctxOf t.val k.val).guardS g = true →
    a = ((s.ctxOf t.val k.val).rdA f.ar.toNat + f.imm.signExtend 64).toNat →
    (s.issues t.val k.val ⟨.SOPEN, g, .ts f⟩ →
      ∃ u d, exec (.sopen t k g f) s = .next u ∧ descOf (s.spRd t.val a 64) ((s.ctxOf t.val k.val).rdS f.rs1.toNat).toInt = some d ∧
        (d.base : Int) = leNat (s.spRd t.val a 8) + ((s.ctxOf t.val k.val).rdS f.rs1.toNat).toInt ∧
        IssuedOnly (s.updCtx t.val k.val (fun c => { c with d := c.d.put f.d.toNat d })) u t.val k.val ⟨.SOPEN, g, .ts f⟩ []) ∧
    (∀ (i : Instr) (mn : Mn), (i = .sidx t k g f ∧ mn = .SIDX) ∨ (i = .sblk t k g f ∧ mn = .SBLK) → s.issues t.val k.val ⟨mn, g, .ts f⟩ →
      ((s.ctxOf t.val k.val).requestOf mn f = none → ∃ u, exec i s = .next u ∧ IssuedOnly s u t.val k.val ⟨mn, g, .ts f⟩ []) ∧
      (∀ d n first, (s.ctxOf t.val k.val).requestOf mn f = some (d, n, first) →
        ∃ u x r, exec i s = .next u ∧ IssuedOnly (s.setTile t.val x) u t.val k.val ⟨mn, g, .ts f⟩ [] ∧
          x = { s.tile t.val with nid := x.nid, reqs := (s.tile t.val).reqs ++ [r], unlanded := x.unlanded } ∧
          r.ctx = k.val ∧ r.pc = (s.ctxOf t.val k.val).pc ∧ r.mctx = s.fld .TILE_CTXk_CFG (tix t.val ++ [k.val]) 13 8 ∧ r.d = d ∧ r.addr = a ∧ r.c = n ∧
          r.f = first ∧ r.iss = (s.tile t.val).clk ∧ r.next = 0 ∧ r.queued = true ∧
          (d.isWrite = true → x.unlanded = (s.tile t.val).unlanded) ∧
          (d.isWrite = false → ∀ row, row < 4096 → (row ∈ x.unlanded ↔
            row ∈ (s.tile t.val).unlanded ∨ (0 < d.total n ∧ a < 256 * row + 256 ∧ 256 * row < a + d.total n))))) ∧
    (s.issues t.val k.val ⟨.SLAND, g, .ts f⟩ →
      ∃ u x, exec (.sland t k g f) s = .next u ∧ IssuedOnly (s.setTile t.val x) u t.val k.val ⟨.SLAND, g, .ts f⟩ [] ∧
        x = { s.tile t.val with unlanded := x.unlanded } ∧
        ∀ row, row < 4096 → (row ∈ x.unlanded ↔ row ∈ (s.tile t.val).unlanded ∨
          (a ≤ 256 * row ∧ 256 * row < a + 256 * ((s.ctxOf t.val k.val).rdS f.rs1.toNat).toNat)))

/-- R130 to R132: SEND starts a copy of NROW rows to a tile of its cluster, behind which CNT is counted; RNADD and RNSET send their operation to the counter CNT, or CNT + s[RC],
and one that names a register waits for the counter's old value; an RNWAIT whose threshold is met goes on. -/
def Obligations.SendAndCounterInstructions : Prop :=
  ∀ (t : TileId) (k : CtxId) (g : Guard) (f : TX) (h : TR) (s : State) (n v : Nat), (s.ctxOf t.val k.val).guardS g = true →
    n = h.cnt.toNat + (if h.xc then ((s.ctxOf t.val k.val).rdS h.rc.toNat).toNat else 0) →
    v = (if h.i then h.uimm.toNat else ((s.ctxOf t.val k.val).rdS h.rv.toNat).toNat % 2 ^ 32) →
    (s.issues t.val k.val ⟨.SEND, g, .tx f⟩ →
      ∃ u, exec (.send t k g f) s = .next u ∧ IssuedOnly (s.updTile t.val (fun x => { x with sends := x.sends ++
          [SendJob.mk k.val (s.fld .TILE_JOB (tix t.val) 7 0) ((s.ctxOf t.val k.val).rdA f.as_.toNat).toNat
            (clusterOf t.val * 34 + s.fld .CLU_REMAPl [clusterOf t.val, ((s.ctxOf t.val k.val).rdS f.rt.toNat).toNat] 5 0)
            ((s.ctxOf t.val k.val).rdA f.ad.toNat).toNat f.nrow.toNat f.cnt.toNat (s.tile t.val).clk] })) u t.val k.val ⟨.SEND, g, .tx f⟩ []) ∧
    (∀ (i : Instr) (mn : Mn) (op : CtrOp), (i = .rnadd t k g h ∧ mn = .RNADD ∧ op = .add v) ∨ (i = .rnset t k g h ∧ mn = .RNSET ∧ op = .set v) →
      s.issues t.val k.val ⟨mn, g, .tr h⟩ →
      (h.i = false ∨ h.rv = 0 → ∃ u, exec i s = .next u ∧
        IssuedOnly { s with fab := { s.fab with ops := s.fab.ops ++ [⟨n, op, t.val, some (t.val, k.val), none⟩] } } u t.val k.val ⟨mn, g, .tr h⟩ []) ∧
      (h.i = true → h.rv ≠ 0 → ∃ u, exec i s = .next u ∧
        IssuedOnly ({ s with fab := { s.fab with ops := s.fab.ops ++ [CtrMsg.mk n op t.val (some (t.val, k.val)) (some (t.val, k.val, h.rv.toNat))] } }.updCtx t.val k.val
          (fun c => { c with oldWait := true })) u t.val k.val ⟨mn, g, .tr h⟩ [])) ∧
    (s.issues t.val k.val ⟨.RNWAIT, g, .tr h⟩ →
      v ≤ s.reg .RNT_VALk [n] ∧ ∃ u, exec (.rnwait t k g h) s = .next u ∧ IssuedOnly s u t.val k.val ⟨.RNWAIT, g, .tr h⟩ [])

/-- R136 to R138: VADD, VSUB, VMUL, VFMA, VMAX, VMIN and the special functions VEXP, VRCP and VRSQ operate lane by lane on the elements of their sources; the lanes the guard
enables, their flags and the post-increments are on their way for the instruction's latency. -/
def Obligations.VectorArithmetic : Prop :=
  ∀ (t : TileId) (k : CtxId) (g : Guard) (f : VR) (s : State) (mask : BitVec 64), mask = (s.ctxOf t.val k.val).guardMask g → mask ≠ 0 →
    (∀ (i : Instr) (mn : Mn), (i = .vadd t k g f ∧ mn = .VADD) ∨ (i = .vsub t k g f ∧ mn = .VSUB) ∨ (i = .vmul t k g f ∧ mn = .VMUL) ∨ (i = .vfma t k g f ∧ mn = .VFMA) →
      s.issues t.val k.val ⟨mn, g, .vr f⟩ →
      ∃ u, exec i s = .next u ∧ VIssued s u t.val k.val ⟨mn, g, .vr f⟩ f mask (fun l => laneArith mn f.ty.toNat (s.src1 t.val k.val mn f l) (s.src2 t.val k.val mn f l)
        ((s.vSrc t.val k.val false f.vs3.toNat (vWidths mn f).1).getD l 0))) ∧
    (s.issues t.val k.val ⟨.VMAX, g, .vr f⟩ → ∃ u, exec (.vmax t k g f) s = .next u ∧ VIssued s u t.val k.val ⟨.VMAX, g, .vr f⟩ f mask
      (fun l => laneMinMax true f.ty.toNat (s.src1 t.val k.val .VMAX f l) (s.src2 t.val k.val .VMAX f l))) ∧
    (s.issues t.val k.val ⟨.VMIN, g, .vr f⟩ → ∃ u, exec (.vmin t k g f) s = .next u ∧ VIssued s u t.val k.val ⟨.VMIN, g, .vr f⟩ f mask
      (fun l => laneMinMax false f.ty.toNat (s.src1 t.val k.val .VMIN f l) (s.src2 t.val k.val .VMIN f l))) ∧
    (∀ (i : Instr) (mn : Mn), (i = .vexp t k g f ∧ mn = .VEXP) ∨ (i = .vrcp t k g f ∧ mn = .VRCP) ∨ (i = .vrsq t k g f ∧ mn = .VRSQ) →
      s.issues t.val k.val ⟨mn, g, .vr f⟩ →
      ∃ u, exec i s = .next u ∧ VIssued s u t.val k.val ⟨mn, g, .vr f⟩ f mask (fun l => laneSpecial mn (f.fn.getLsbD 0) f.ty.toNat (s.src1 t.val k.val mn f l)))

/-- R137, R138, R140, R158 to R160: the conversions VCVT, VQNT and VDQNT between element formats, with the scale entry of each lane's channel; the selections VSEL by a predicate and
VPERM by lane numbers; VRED reduces the active lanes into lane 0; VCMP writes a predicate. -/
def Obligations.VectorConversionsAndSelections : Prop :=
  ∀ (t : TileId) (k : CtxId) (g : Guard) (f : VR) (s : State) (mask : BitVec 64) (chan : Nat → Nat), mask = (s.ctxOf t.val k.val).guardMask g → mask ≠ 0 →
    (∀ l, chan l = bits f.fn.toNat 9 0 + if f.fn.getLsbD 10 then 0 else l) →
    (s.issues t.val k.val ⟨.VCVT, g, .vr f⟩ → ∃ u, exec (.vcvt t k g f) s = .next u ∧ VIssued s u t.val k.val ⟨.VCVT, g, .vr f⟩ f mask
      (fun l => if f.fn.getLsbD 0 then laneCvt f.xf.toNat (tyFmt f.ty.toNat) (s.src1 t.val k.val .VCVT f l)
        else laneCvt (tyFmt f.ty.toNat) f.xf.toNat (s.src1 t.val k.val .VCVT f l))) ∧
    (s.issues t.val k.val ⟨.VDQNT, g, .vr f⟩ → ∃ u, exec (.vdqnt t k g f) s = .next u ∧ VIssued s u t.val k.val ⟨.VDQNT, g, .vr f⟩ f mask
      (fun l => laneDqnt f.xf.toNat (tyFmt f.ty.toNat) (s.sfEntry t.val (chan l)) (s.src1 t.val k.val .VDQNT f l))) ∧
    (s.issues t.val k.val ⟨.VQNT, g, .vr f⟩ → ∃ u p q, exec (.vqnt t k g f) s = .next u ∧ OnlyTile s u t.val ∧ OthersYield s u t.val k.val ∧
      SameTileButContexts s u t.val k.val ∧ u.ctxOf t.val k.val = (s.ctxOf t.val k.val).issued ⟨.VQNT, g, .vr f⟩ (p :: q) ∧
      (∃ lanes : List Word, p.dst = (if f.dm then Dst.row ((s.ctxOf t.val k.val).rdA (f.vd.toNat % 16)).toNat (vWidths .VQNT f).1 mask lanes else .v f.vd.toNat mask lanes) ∧
        ∀ l, l < 64 → mask.getLsbD l = true →
          lanes.getD l 0 = BitVec.ofNat 32 (laneQnt (tyFmt f.ty.toNat) f.xf.toNat (s.sfEntry t.val (chan l)) (s.src1 t.val k.val .VQNT f l)).1.code) ∧
      (∀ c v, (∃ w ∈ q, w.dst = .sample c v) ↔ ∃ l, l < 64 ∧ mask.getLsbD l = true ∧ chan l = c ∧
        (laneQnt (tyFmt f.ty.toNat) f.xf.toNat (s.sfEntry t.val (chan l)) (s.src1 t.val k.val .VQNT f l)).2 = some v) ∧
      ∀ w ∈ p :: q, w.due = (s.tile t.val).clk + (s.ctxOf t.val k.val).vLatency .VQNT f ∧ w.vi = some (s.tile t.val).clk) ∧
    (s.issues t.val k.val ⟨.VSEL, g, .vr f⟩ → ∃ u, exec (.vsel t k g f) s = .next u ∧ VIssued s u t.val k.val ⟨.VSEL, g, .vr f⟩ f mask
      (fun l => LaneRes.mk (if ((s.ctxOf t.val k.val).rdP f.pd.toNat).getLsbD l then s.src1 t.val k.val .VSEL f l else s.src2 t.val k.val .VSEL f l) 0)) ∧
    (s.issues t.val k.val ⟨.VPERM, g, .vr f⟩ → ∃ u, exec (.vperm t k g f) s = .next u ∧ VIssued s u t.val k.val ⟨.VPERM, g, .vr f⟩ f mask
      (fun l => LaneRes.mk (s.src1 t.val k.val .VPERM f (s.src2 t.val k.val .VPERM f l % 64)) 0)) ∧
    (s.issues t.val k.val ⟨.VRED, g, .vr f⟩ → ∃ u r, exec (.vred t k g f) s = .next u ∧
      r = laneRed (bits f.fn.toNat 1 0) f.ty.toNat ((List.range 64).map (fun l => mask.getLsbD l)) ((List.range 64).map (s.src1 t.val k.val .VRED f)) ∧
      IssuedOnly s u t.val k.val ⟨.VRED, g, .vr f⟩
        ([⟨(s.tile t.val).clk + (s.ctxOf t.val k.val).vLatency .VRED f, some (s.tile t.val).clk,
            if f.dm then .row ((s.ctxOf t.val k.val).rdA (f.vd.toNat % 16)).toNat (vWidths .VRED f).1 1 [BitVec.ofNat 32 r.code]
            else .v f.vd.toNat 1 [BitVec.ofNat 32 r.code]⟩] ++
          (if r.fl = 0 then [] else [⟨(s.tile t.val).clk + (s.ctxOf t.val k.val).vLatency .VRED f, some (s.tile t.val).clk, .flags r.fl⟩]) ++
          (vIncs .VRED f).map (fun p =>
            ⟨(s.tile t.val).clk + (s.ctxOf t.val k.val).vLatency .VRED f, some (s.tile t.val).clk, .a p.1 ((s.ctxOf t.val k.val).postInc p.1 p.2)⟩))) ∧
    (s.issues t.val k.val ⟨.VCMP, g, .vr f⟩ → ∃ u p q, exec (.vcmp t k g f) s = .next u ∧ OnlyTile s u t.val ∧ OthersYield s u t.val k.val ∧
      SameTileButContexts s u t.val k.val ∧ u.ctxOf t.val k.val = (s.ctxOf t.val k.val).issued ⟨.VCMP, g, .vr f⟩ (p :: q) ∧
      (∃ b : BitVec 64, p.dst = .p f.pd.toNat mask b ∧ ∀ l, l < 64 → mask.getLsbD l = true →
        b.getLsbD l = (laneCmp (bits f.fn.toNat 2 0) f.ty.toNat (s.src1 t.val k.val .VCMP f l) (s.src2 t.val k.val .VCMP f l)).1) ∧
      ∀ w ∈ p :: q, w.due = (s.tile t.val).clk + (s.ctxOf t.val k.val).vLatency .VCMP f ∧ w.vi = some (s.tile t.val).clk)

/-- R82, R113: MLDI, MSTW, MDRN, MPART and MCLR enter the tile's matrix queue with their operand address; INC advances the a register by the bytes they read or write after
one clock; nothing else changes. -/
def Obligations.MatrixInstructionsQueue : Prop :=
  ∀ (t : TileId) (k : CtxId) (g : Guard) (f : MX) (s : State) (i : Instr) (mn : Mn), (s.ctxOf t.val k.val).guardS g = true →
    (i = .mldi t k g f ∧ mn = .MLDI) ∨ (i = .mstw t k g f ∧ mn = .MSTW) ∨ (i = .mdrn t k g f ∧ mn = .MDRN) ∨ (i = .mpart t k g f ∧ mn = .MPART) ∨
      (i = .mclr t k g f ∧ mn = .MCLR) →
    s.issues t.val k.val ⟨mn, g, .mx f⟩ →
    ∃ u, exec i s = .next u ∧ (s.tile t.val).queued < 8 ∧
      IssuedOnly (s.updTile t.val (fun x => { x with nid := x.nid + 1, mq := x.mq ++
          [⟨x.nid, k.val, (s.ctxOf t.val k.val).pc, mn, f, ((s.ctxOf t.val k.val).rdA f.ar.toNat).toNat, x.clk, none⟩] })) u t.val k.val ⟨mn, g, .mx f⟩
        (if f.inc then [⟨(s.tile t.val).clk + 1, none, .a f.ar.toNat ((s.ctxOf t.val k.val).postInc f.ar.toNat ((s.tile t.val).mxBytes mn f))⟩] else [])

/-- R82, R83, R114, R115, R141 to R146: an engine whose next instruction waits does nothing; a next instruction with a fault is dropped with its context's later ones and the fault is
recorded at its bundle; any other starts in this clock, with what MPART, MCLR and MLDI do at their start. An engine's oldest running instruction leaves the queue
at its latency point, and an MDRN that saturated sets MSAT. -/
def Obligations.MatrixQueueEvents : Prop :=
  ∀ (t : TileId) (eng : Engine) (s : State), s.clocked t.val →
    ((s.tile t.val).startable eng = none → exec (.matrixStart t eng) s = .next s) ∧
    (∀ pre e post, (s.tile t.val).startable eng = some (pre, e, post) →
      (∀ code, (s.tile t.val).startFault e = some code → s.Inv → e.ctx < 4 → (s.ctxOf t.val e.ctx).live = true →
        ∃ u, exec (.matrixStart t eng) s = .next u ∧ (u.tile t.val).mq = pre ++ post.filter (fun p => p.ctx ≠ e.ctx ∨ p.run.isSome) ∧
          (u.ctxOf t.val e.ctx).st = .fault ∧ u.reg .TILE_CTXk_FAULT (tix t.val ++ [e.ctx]) = (2 ^ 31 + code * 2 ^ 16) % 2 ^ 32 ∧
          u.reg64 .TILE_CTXk_FPC_LO .TILE_CTXk_FPC_HI (tix t.val ++ [e.ctx]) = e.pc % 2 ^ 48) ∧
      ((s.tile t.val).startFault e = none → (∀ p ∈ pre, p.id ≠ e.id) →
        ∃ u r, exec (.matrixStart t eng) s = .next u ∧ (u.tile t.val).mq.find? (fun p => p.id == e.id) = some { e with run := some r } ∧
          r.start = (s.tile t.val).clk ∧ u.mem = s.mem ∧ u.regs = s.regs ∧ (u.tile t.val).ctx = (s.tile t.val).ctx ∧ (∀ x, x ≠ t.val → u.tile x = s.tile x) ∧
          (e.mn = .MPART → e.f.acc = false → ∀ j, j < 4 → e.f.slm.getLsbD j = true →
            ((u.tile t.val).slice j).owner = some e.ctx ∧ ((u.tile t.val).slice j).mode = e.f.mode.toNat ∧ ((u.tile t.val).slice j).releasing = false) ∧
          (e.mn = .MPART → e.f.acc = true → ∀ j, j < 4 → e.f.slm.getLsbD j = true → ((s.tile t.val).slice j).owner = some e.ctx →
            ((u.tile t.val).slice j).releasing = true) ∧
          (e.mn = .MCLR → ∀ j, j < 4 → e.f.slm.getLsbD j = true → ((u.tile t.val).bank j e.f.bank.toNat).ent = .empty) ∧
          (e.mn = .MLDI → ∀ j, j < 4 → e.f.slm.getLsbD j = true → ((u.tile t.val).statSet j e.f.set).fmt = some e.f.fmt.toNat))) ∧
    (∀ e rest r c, takeFirst (fun e => decide (e.mn.engine = eng) && e.run.isSome) (s.tile t.val).mq = some (e, rest) → e.run = some r → e.latPoint = some c →
      ((s.tile t.val).clk < c → exec (.matrixComplete t eng) s = .next s) ∧
      (c ≤ (s.tile t.val).clk →
        ∃ u, exec (.matrixComplete t eng) s = .next u ∧ OnlyTile s u t.val ∧ (u.tile t.val).mq = rest ∧ (∀ k, k ≠ e.ctx → u.ctxOf t.val k = s.ctxOf t.val k) ∧
          (r.msat = true → (u.ctxOf t.val e.ctx).fflags = Nat.lor (s.ctxOf t.val e.ctx).fflags 32) ∧
          (r.msat = false → u.ctxOf t.val e.ctx = s.ctxOf t.val e.ctx)))

/-- R87, R114, R117, R118: a slice in release becomes free, its sets and banks zero, in the fourth clock after the last matrix instruction on it. A missed instruction line
comes from an executable page of a sealed region; from any other page the fetch fails with IFETCH. -/
def Obligations.SlicesAndInstructionLines : Prop :=
  ∀ (t : TileId) (j : Fin 4) (k : CtxId) (ecc : Ecc) (s : State), s.clocked t.val →
    (((s.tile t.val).slice j.val).releasing = false → exec (.sliceFree t j) s = .next s) ∧
    ((s.tile t.val).clk < ((s.tile t.val).slice j.val).rel + 4 → exec (.sliceFree t j) s = .next s) ∧
    (((s.tile t.val).slice j.val).releasing = true → ((s.tile t.val).slice j.val).rel + 4 ≤ (s.tile t.val).clk →
      (∀ e ∈ (s.tile t.val).mq, ((s.tile t.val).slice j.val).owner = some e.ctx → e.f.slm.getLsbD j.val = true → e.mn = .MPART ∧ e.f.acc = true) →
      (s.tile t.val).sets.wf = true → (s.tile t.val).banks.wf = true →
      ∃ u, exec (.sliceFree t j) s = .next u ∧ OnlyTile s u t.val ∧ ((u.tile t.val).slice j.val).owner = none ∧ ((u.tile t.val).slice j.val).releasing = false ∧
        (∀ set, (u.tile t.val).statSet j.val set = StatSet.zero) ∧ (∀ b, b < 4 → (u.tile t.val).bank j.val b = Bank.zero) ∧
        (∀ i, i ≠ j.val → (u.tile t.val).slice i = (s.tile t.val).slice i) ∧ (u.tile t.val).ctx = (s.tile t.val).ctx) ∧
    ((s.ctxOf t.val k.val).miss = none → exec (.icacheFill t k ecc) s = .next s) ∧
    (∀ line m, (s.ctxOf t.val k.val).miss = some line → m = s.fld .TILE_CTXk_CFG (tix t.val ++ [k.val]) 13 8 → (s.tile t.val).iline m line = none →
      (lookupTlb (s.tile t.val).tlb m line = none → exec (.icacheFill t k ecc) s = .next s) ∧
      (∀ e, lookupTlb (s.tile t.val).tlb m line = some e →
        (e.x = false ∨ s.sealedAt (e.map line) = none →
          ∃ u, exec (.icacheFill t k ecc) s = .next u ∧ (u.ctxOf t.val k.val).miss = none ∧ (u.ctxOf t.val k.val).ffail = some (line, 0x02) ∧
            (u.tile t.val).icache = (s.tile t.val).icache ∧ u.mem = s.mem) ∧
        (e.x = true → s.sealedAt (e.map line) ≠ none →
          ∃ u l, exec (.icacheFill t k ecc) s = .next u ∧ (u.ctxOf t.val k.val).miss = none ∧ u.mem = s.mem ∧
            (u.tile t.val).icache = (if 256 ≤ (s.tile t.val).icache.length then (s.tile t.val).icache.drop 1 else (s.tile t.val).icache) ++ [l] ∧
            l.mctx = m ∧ l.va = line ∧ l.pa = e.map line ∧
            ((∀ i, i < 256 → s.inTags (e.map line + i) = false) → l.bytes = s.mem.rdBytes (e.map line) 256) ∧
            (∀ i, i < 4 → (i ∈ l.bad ↔ ecc = .uncorrectable ∨ s.poisoned (e.map line + 64 * i) 64 = true ∨ s.badLines (e.map line + 64 * i) 64 ≠ [])))))

/-- R194, R198: the stream engine sends nothing while 256 fetches are outstanding, while nothing is to send, or while a bucket lacks tokens; else one group of a request's pieces
goes into flight in a clock, and the engine's turn passes on. The landing of a fetch's bytes is another command's. -/
def Obligations.StreamFetchSends : Prop :=
  ∀ (t : TileId) (s : State), s.clocked t.val →
    ((s.tile t.val).ready = false ∨ 256 ≤ (s.tile t.val).fetches.length ∨ (s.tile t.val).nextRequester (s.tile t.val).rrq = none →
      exec (.streamFetchSend t) s = .next s) ∧
    (∀ i r g gs rest, (s.tile t.val).ready = true → (s.tile t.val).fetches.length < 256 → (s.tile t.val).nextRequester (s.tile t.val).rrq = some i → i < 4 →
      (s.tile t.val).headReq i = some r → r.plan = (g :: gs) :: rest →
      (s.regulate t.val g.pa ((g :: gs).map (·.len)).sum = none →
        ∃ u, exec (.streamFetchSend t) s = .next u ∧ (u.tile t.val).fetches = (s.tile t.val).fetches ∧ (u.tile t.val).rrq = i) ∧
      ((s.regulate t.val g.pa ((g :: gs).map (·.len)).sum).isSome = true →
        ∃ u f, exec (.streamFetchSend t) s = .next u ∧ (u.tile t.val).fetches = (s.tile t.val).fetches ++ [f] ∧ (u.tile t.val).rrq = i ∧
          f.req = r.id ∧ f.ctx = r.ctx ∧ f.write = r.d.isWrite ∧ f.kind = .data ∧ f.segs = g :: gs ∧ f.fail = false ∧
          (r.d.isWrite = true → f.bytes = ((g :: gs).map (fun p => s.mem.rdBytes (spadBase t.val + p.sp) p.len)).flatten) ∧
          ∀ x, x ≠ t.val → u.tile x = s.tile x))

/-- R195 to R197, R306: a data fetch lands from the 16th clock after its request's issue: its bytes stand in the scratchpad, and a row that is then whole has its landing flag set and
no poison; a failed one lands as poisoned zeros and raises XLAT at the bundle that issued the request. A write's bytes reach memory before its acknowledgement. A discarded
row lands as poisoned zeros, with its flag set, and is counted. -/
def Obligations.StreamRowsLand : Prop :=
  ∀ (t : TileId) (n : Nat) (ecc : Ecc) (s : State), s.clocked t.val →
    (∀ f rest r, takeNth (fun (f : Fetch) => !f.write && !f.isScale) n (s.tile t.val).fetches = some (f, rest) → (s.tile t.val).reqOf f.req = some r → f.kind = .data →
      ((s.tile t.val).clk < r.iss + 16 → exec (.rowLanding t n ecc) s = .next s) ∧
      (∀ g, r.iss + 16 ≤ (s.tile t.val).clk → f.fail = false → f.poison = false → f.bytes = [] → r.d.local = false → f.segs = [g] → 0 < g.len → r.disc = [] →
        s.poisoned g.pa g.len = false → s.blockedRegions = [] → ecc ≠ .uncorrectable →
        ∃ u, exec (.rowLanding t n ecc) s = .next u ∧ u.mem = s.mem.wrBytes (spadBase t.val + g.sp) (s.mem.rdBytes g.pa g.len) ∧
          (u.tile t.val).fetches = rest ∧ (u.tile t.val).ctx = (s.tile t.val).ctx ∧ (∀ x, x ≠ t.val → u.tile x = s.tile x) ∧
          (g.len = 256 → g.sp % 256 = 0 → g.sp < 0x100000 → r.landed.get 0 (g.sp / 256) = 0 → r.rowBytes (g.sp / 256) = 256 → r.badRows = [] →
            g.sp / 256 ∉ (u.tile t.val).unlanded ∧ g.sp / 256 ∉ (u.tile t.val).poison)) ∧
      (∀ g, r.iss + 16 ≤ (s.tile t.val).clk → f.fail = true → f.segs = [g] → s.Inv → r.disc = [] → r.ctx < 4 → (s.ctxOf t.val r.ctx).live = true →
        ∃ u, exec (.rowLanding t n ecc) s = .next u ∧ (u.ctxOf t.val r.ctx).st = .fault ∧
          u.reg .TILE_CTXk_FAULT (tix t.val ++ [r.ctx]) = 2 ^ 31 + 0x07 * 2 ^ 16 ∧
          u.reg64 .TILE_CTXk_FPC_LO .TILE_CTXk_FPC_HI (tix t.val ++ [r.ctx]) = r.pc % 2 ^ 48 ∧
          ∀ i, i < g.len → u.mem.rd (spadBase t.val + g.sp + i) = 0)) ∧
    (∀ f rest g, takeNth (fun (f : Fetch) => f.write) n (s.tile t.val).fetches = some (f, rest) → f.fail = false → f.segs = [g] → s.region g.pa ≠ .spad t.val →
      s.blockedRegions = [] →
      ∃ u, exec (.streamWriteAck t n) s = .next u ∧ u.mem = s.mem.wrBytes g.pa (f.bytes.take g.len) ∧ (u.tile t.val).fetches = rest ∧ u.regs = s.regs ∧
        (u.tile t.val).ctx = (s.tile t.val).ctx ∧ ∀ x, x ≠ t.val → u.tile x = s.tile x) ∧
    ((∀ d ∈ (s.tile t.val).disc, (s.tile t.val).clk < d.clk) → exec (.discardedRowLanding t) s = .next s) ∧
    (∀ d rest, takeFirst (fun (d : DiscRow) => decide (d.clk ≤ (s.tile t.val).clk)) (s.tile t.val).disc = some (d, rest) → s.Inv →
      ∃ u, exec (.discardedRowLanding t) s = .next u ∧ (u.tile t.val).disc = rest ∧ d.row ∉ (u.tile t.val).unlanded ∧ d.row ∈ (u.tile t.val).poison ∧
        u.fld .TILE_STRM_ERR (tix t.val) 31 16 = min (s.fld .TILE_STRM_ERR (tix t.val) 31 16 + 1) 65535 ∧ (u.tile t.val).ctx = (s.tile t.val).ctx ∧
        ∀ x, x ≠ t.val → u.tile x = s.tile x)

/-- R130, R168: the next row of a SEND is copied to its target, its landing flag set, and the SEND's counter incremented, where the target is READY, carries the job and is not being
killed; anywhere else the row is dropped and counted in SENDDROP, and no byte changes.
R198, R199: in a refill every bucket of the cluster gains its RATE and is full at its BURST; no other level changes. -/
def Obligations.SendRowsAndRegulators : Prop :=
  (∀ (t : TileId) (s : State) (j : SendJob) (rest : List SendJob), s.clocked t.val → s.Inv → s.hoopsSound → (s.tile t.val).sends = j :: rest →
    s.spareHolds j.tgt = false →
    ((s.tile t.val).clk ≤ j.iss → exec (.sendRowArrival t) s = .next s) ∧
    (j.iss < (s.tile t.val).clk → (s.tile j.tgt).ready = true → s.jobOf j.tgt = some j.jid → (s.tile j.tgt).killed = false → j.cnt < 16384 →
      ∃ u, exec (.sendRowArrival t) s = .next u ∧ u.mem = s.mem.wrBytes (spadBase j.tgt + j.dst) (s.mem.rdBytes (spadBase t.val + j.src) 256) ∧
        u.reg .RNT_VALk [j.cnt] = (s.reg .RNT_VALk [j.cnt] + 1) % 2 ^ 32 ∧ j.dst / 256 ∉ (u.tile j.tgt).unlanded ∧
        (j.dst / 256 ∈ (u.tile j.tgt).poison ↔ j.src / 256 ∈ (s.tile t.val).poison) ∧
        (j.left ≤ 1 → (u.tile t.val).sends = rest) ∧
        (1 < j.left → (u.tile t.val).sends = { j with src := j.src + 256, dst := j.dst + 256, left := j.left - 1 } :: rest)) ∧
    (j.iss < (s.tile t.val).clk → (s.tile j.tgt).ready = false ∨ s.jobOf j.tgt ≠ some j.jid ∨ (s.tile j.tgt).killed = true →
      ∃ u, exec (.sendRowArrival t) s = .next u ∧ u.mem = s.mem ∧
        u.reg .CLU_SENDDROP [clusterOf j.tgt] = min (s.reg .CLU_SENDDROP [clusterOf j.tgt] + 1) (2 ^ 32 - 1) ∧
        (∀ a, a ≠ Reg.adr .CLU_SENDDROP [clusterOf j.tgt] → u.rg a = s.rg a) ∧ ∀ x, x ≠ t.val → u.tile x = s.tile x)) ∧
  (∀ (c : Fin 4) (s : State), s.up = true → s.Inv →
    ∃ u, exec (.regulatorRefill c) s = .next u ∧ u = { s with regs := u.regs } ∧
      (∀ l, l < 32 → u.reg .FAB_TLVLg [32 * c.val + l] = min (s.reg .FAB_TLVLg [32 * c.val + l] + (s.fld .FAB_TREGg [32 * c.val + l] 7 0 + 1) * 512)
        ((s.fld .FAB_TREGg [32 * c.val + l] 15 8 + 1) * 512)) ∧
      u.reg .FAB_CLVLc [c.val] = min (s.reg .FAB_CLVLc [c.val] + (s.fld .FAB_CREGc [c.val] 7 0 + 1) * 16384) ((s.fld .FAB_CREGc [c.val] 15 8 + 1) * 16384) ∧
      ∀ a, (∀ l, l < 32 → a ≠ Reg.adr .FAB_TLVLg [32 * c.val + l]) → a ≠ Reg.adr .FAB_CLVLc [c.val] → a ≠ Reg.adr .FAB_REGMIS [] → u.rg a = s.rg a)

/-- R151, R152, R162: a GO with a count of 0 or past entry 1,023 sets ERR; any other starts a load and sets BUSY; one while BUSY starts nothing. Returned bytes change scale entries whole
and in order, and the last one ends the load. SNAP copies every live channel, CLR zeroes the live sums and counts. -/
def Obligations.ScaleLoadsAndStatistics : Prop :=
  ∀ (ini : Initiator) (t : TileId) (data : Word) (s : State), s.Inv →
    (s.takes ini .TILE_SFLD_CTL (tix t.val) (putBits data.toNat 31 31 1) →
      (s.flag .TILE_SFLD_CTL (tix t.val) 30 = true → ∃ u, exec (.scaleLoadGo ini t data) s = .next u ∧ u.tiles = s.tiles ∧ u.mem = s.mem) ∧
      (s.flag .TILE_SFLD_CTL (tix t.val) 30 = false → bits data.toNat 20 10 = 0 ∨ 1024 < bits data.toNat 9 0 + bits data.toNat 20 10 →
        ∃ u, exec (.scaleLoadGo ini t data) s = .next u ∧ u.flag .TILE_SFLD_CTL (tix t.val) 29 = true ∧ u.flag .TILE_SFLD_CTL (tix t.val) 30 = false ∧
          u = { s with regs := u.regs }) ∧
      (s.flag .TILE_SFLD_CTL (tix t.val) 30 = false → bits data.toNat 20 10 ≠ 0 → bits data.toNat 9 0 + bits data.toNat 20 10 ≤ 1024 →
        ∃ u, exec (.scaleLoadGo ini t data) s = .next u ∧ u.flag .TILE_SFLD_CTL (tix t.val) 30 = true ∧ u = { s with regs := u.regs, tiles := u.tiles } ∧
          u.tile t.val = { s.tile t.val with load := some ⟨bits data.toNat 26 21, s.reg64 .TILE_SFLD_LO .TILE_SFLD_HI (tix t.val), bits data.toNat 9 0,
            bits data.toNat 20 10, 0, 0, []⟩ } ∧ ∀ x, x ≠ t.val → u.tile x = s.tile x)) ∧
    (∀ f g l ecc, s.clocked t.val → (s.tile t.val).fetches = [f] → (s.tile t.val).load = some l → f.kind = .scale 0 → f.bytes = [] → f.ctx = 4 → f.segs = [g] → f.fail = false →
      g.len = 8 → l.first < 1024 → l.count = 1 → l.done = 0 → s.blockedRegions = [] → s.poisoned g.pa 8 = false → ecc = .clean →
      ∃ u, exec (.scaleLoadData t 0 ecc) s = .next u ∧
        u.reg64 .TILE_SFj_LO .TILE_SFj_HI (tix t.val ++ [l.first]) = s.mem.rdLE g.pa 8 % 2 ^ 56 ∧ u.flag .TILE_SFLD_CTL (tix t.val) 30 = false ∧
        (u.tile t.val).load = none ∧ u.mem = s.mem) ∧
    (∀ f ecc, s.clocked t.val → (s.tile t.val).fetches = [f] → f.isScale = true → f.bytes = [] → f.fail = true →
      ∃ u, exec (.scaleLoadData t 0 ecc) s = .next u ∧ u.flag .TILE_SFLD_CTL (tix t.val) 29 = true ∧ u.flag .TILE_SFLD_CTL (tix t.val) 30 = false ∧
        (u.tile t.val).load = none ∧ ∀ j, j < 1024 → s.sfEntry t.val j = u.sfEntry t.val j) ∧
    (s.takes ini .TILE_STATCTL (tix t.val) 1 →
      ∃ u, exec (.statSnap ini t) s = .next u ∧ u = { s with regs := u.regs } ∧
        ∀ j h, j < 1024 → (s.tile t.val).stat.wf = true → (s.tile t.val).stat.find j = some h → (∀ e ∈ (s.tile t.val).stat.entries, e.1 < 1024) →
          u.reg .TILE_STATj_SUM (tix t.val ++ [j]) = h.sum % 2 ^ 32 ∧ u.reg .TILE_STATj_CNT (tix t.val ++ [j]) = h.cnt % 2 ^ 32) ∧
    (s.takes ini .TILE_STATCTL (tix t.val) 2 →
      ∃ u, exec (.statClr ini t) s = .next u ∧ (∀ j, (u.tile t.val).stat.get StatCh.zero j = { (s.tile t.val).stat.get StatCh.zero j with sum := 0, cnt := 0 }) ∧
        (∀ x, x ≠ t.val → u.tile x = s.tile x) ∧ ∀ a, u.rg a = s.rg a)

/-- R25, R131, R132, R170: operations in flight reach their counter together, in ascending order of initiator, each modulo 2^32, and a context parked on the counter whose threshold the
new value meets is woken; an operation that a register waits for sends the counter's old value back, which then stands in that register; a write of VAL sets the counter, a write of
ADD adds to it, at once. -/
def Obligations.CountersCountAndWake : Prop :=
  ∀ (ini : Initiator) (k : BitVec 14) (n : Nat) (data : Word) (t : TileId) (c : CtxId) (s : State), s.up = true → s.Inv → s.hoopsSound →
    ((takeOps k.toNat n s.fab.ops).1 = [] → exec (.counterOpEffect k n) s = .next s) ∧
    (∀ now rest, takeOps k.toNat n s.fab.ops = (now, rest) → now ≠ [] → 14336 ≤ k.toNat ∨ s.clusterRuns (k.toNat / 3584) = true →
      ∃ u v, exec (.counterOpEffect k n) s = .next u ∧ u.reg .RNT_VALk [k.toNat] = v ∧ u.mem = s.mem ∧ u.fab.ops = rest ∧
        v = (sortBy (fun (m : CtrMsg) => m.order) now).foldl (fun v m => match m.op with | .add x => (v + x) % 2 ^ 32 | .set x => x % 2 ^ 32)
          (s.reg .RNT_VALk [k.toNat]) ∧
        (∀ m, now = [m] → u.fab.olds = s.fab.olds ++ (match m.back with | some (b, i, r) => [⟨b, i, r, s.reg .RNT_VALk [k.toNat]⟩] | none => [])) ∧
        (∀ ws th, (s.ctxOf t.val c.val).st = .park → (s.ctxOf t.val c.val).held = some ws → (s.ctxOf t.val c.val).rnWait ws = some (k.toNat, th) → th ≤ v →
          (u.ctxOf t.val c.val).woken = true) ∧
        ∀ a, a < 0x2000000 → a ≠ Reg.adr .RNT_VALk [k.toNat] → u.rg a = s.rg a) ∧
    (∀ o rest, takeFirst (fun (o : OldVal) => o.tile == t.val && o.ctx == c.val) s.fab.olds = some (o, rest) →
      ∃ u, exec (.rnOldValueReturn t c) s = .next u ∧ u.fab = { s.fab with olds := rest } ∧
        u.ctxOf t.val c.val = { (s.ctxOf t.val c.val).wrS o.rv (BitVec.ofNat 64 o.val) with oldWait := false } ∧
        u = { s with fab := u.fab, tiles := u.tiles } ∧ ∀ x, x ≠ t.val → u.tile x = s.tile x) ∧
    (s.takes ini .RNT_VALk [k.toNat] data.toNat →
      ∃ u, exec (.rntValWrite ini k data) s = .next u ∧ u.reg .RNT_VALk [k.toNat] = data.toNat ∧ u.mem = s.mem ∧
        ∀ a, a < 0x2000000 → a ≠ Reg.adr .RNT_VALk [k.toNat] → u.rg a = s.rg a) ∧
    (s.takes ini .RNT_ADDk [k.toNat] data.toNat →
      ∃ u, exec (.rntAddWrite ini k data) s = .next u ∧ u.reg .RNT_VALk [k.toNat] = (s.reg .RNT_VALk [k.toNat] + data.toNat) % 2 ^ 32 ∧ u.mem = s.mem ∧
        ∀ a, a < 0x2000000 → a ≠ Reg.adr .RNT_VALk [k.toNat] → u.rg a = s.rg a)

/-- R172, R173, R55: a message or a read that does not match an open, sound window of its peer, or one whose window is held, is dropped and counted; one past LIMIT or without the
window's permission is refused and counted; the bytes of a write that is taken stand at BASE + offset, in a scratchpad only while its aperture is open, and then the
window's counter is incremented; a read changes no memory. -/
def Obligations.WindowMessages : Prop :=
  ∀ (w : Fin 256) (p : Fin 256) (off len : Nat) (data : List Byte) (s : State) (base limit : Nat), s.up = true → s.Inv → s.hoopsSound →
    base = s.reg64 .FAB_WINw_BASE_LO .FAB_WINw_BASE_HI [w.val] → limit = s.reg64 .FAB_WINw_LIMIT_LO .FAB_WINw_LIMIT_HI [w.val] →
    (∀ peer, peer ≠ some p ∨ p.val ≠ s.fld .FAB_WINw_CFG [w.val] 23 16 ∨ s.flag .FAB_WINw_CTRL [w.val] 0 = false ∨ s.fab.winHeld.contains w.val = true ∨
        s.winSound w.val = false → peer = none ∨ peer = some p →
      ∃ u, exec (.windowMessage w peer off data) s = .next u ∧ exec (.windowRead w peer off len) s = .next u ∧ OnlyRegs s u [Reg.adr .FAB_WINw_CNTS [w.val]] ∧
        u.fld .FAB_WINw_CNTS [w.val] 31 16 = min (s.fld .FAB_WINw_CNTS [w.val] 31 16 + 1) 65535 ∧
        u.fld .FAB_WINw_CNTS [w.val] 15 0 = s.fld .FAB_WINw_CNTS [w.val] 15 0) ∧
    (p.val = s.fld .FAB_WINw_CFG [w.val] 23 16 → s.flag .FAB_WINw_CTRL [w.val] 0 = true → s.fab.winHeld.contains w.val = false → s.winSound w.val = true →
      (limit < base + off ∨ limit + 1 < base + off + data.length ∨ s.flag .FAB_WINw_CFG [w.val] 14 = false →
        ∃ u, exec (.windowMessage w (some p) off data) s = .next u ∧ OnlyRegs s u [Reg.adr .FAB_WINw_CNTS [w.val]] ∧
          u.fld .FAB_WINw_CNTS [w.val] 15 0 = min (s.fld .FAB_WINw_CNTS [w.val] 15 0 + 1) 65535 ∧
          u.fld .FAB_WINw_CNTS [w.val] 31 16 = s.fld .FAB_WINw_CNTS [w.val] 31 16) ∧
      (base + off ≤ limit → base + off + data.length ≤ limit + 1 → s.flag .FAB_WINw_CFG [w.val] 14 = true → s.sleeping (base + off) = none →
        (∀ c, s.region (base + off) = .vat c → s.blockedRegions = [] →
          ∃ u, exec (.windowMessage w (some p) off data) s = .next u ∧ u.mem = s.mem.wrBytes (base + off) data ∧
            u.reg .RNT_VALk [s.fld .FAB_WINw_CFG [w.val] 13 0] = (s.reg .RNT_VALk [s.fld .FAB_WINw_CFG [w.val] 13 0] + 1) % 2 ^ 32) ∧
        (∀ t, s.region (base + off) = .spad t → s.spareHolds t = false →
          ∃ u, exec (.windowMessage w (some p) off data) s = .next u ∧
            u.mem = (if s.apertureOpen t then s.mem.wrBytes (base + off) data else s.mem) ∧
            u.reg .RNT_VALk [s.fld .FAB_WINw_CFG [w.val] 13 0] = (s.reg .RNT_VALk [s.fld .FAB_WINw_CFG [w.val] 13 0] + 1) % 2 ^ 32 ∧
            (s.apertureOpen t = true → ∀ row ∈ rowsOf (base + off - spadBase t) data.length, row ∉ (u.tile t).unlanded))) ∧
      (base + off ≤ limit → base + off + len ≤ limit + 1 → s.flag .FAB_WINw_CFG [w.val] 15 = true →
        ∃ u, exec (.windowRead w (some p) off len) s = .next u ∧ u.mem = s.mem ∧ u.tiles = s.tiles))

/-- R177 to R182: ARM set on counters of the cluster's own range takes their bases and clears the record; on others it stays 0. A latched error is logged once its barrier has completed, with
class HOOP, and the record no longer watches. An arrival counts toward EXPECT; the last one completes the barrier, whose members go on; a write of EXPECT keeps a nonzero
ARRIVED, which a 0 in its place clears. -/
def Obligations.HoopsAndBarriers : Prop :=
  ∀ (ini : Initiator) (c : Fin 4) (h : Fin 64) (data : Word) (t : TileId) (k : CtxId) (j : BitVec 8) (s : State), s.up = true → s.Inv →
    (s.takes ini .CLU_HOOPh_CFG [c.val, h.val] (putBits data.toNat 31 31 1) → s.flag .CLU_HOOPh_CFG [c.val, h.val] 31 = false →
      (∀ f d, f = s.fld .CLU_HOOPh_FILL [c.val, h.val] 13 0 → d = s.fld .CLU_HOOPh_DRAIN [c.val, h.val] 13 0 →
        (c.val * 3584 ≤ f ∧ f < c.val * 3584 + 3584 ∧ c.val * 3584 ≤ d ∧ d < c.val * 3584 + 3584 →
          ∃ u, exec (.hoopArm ini c h data) s = .next u ∧ u.flag .CLU_HOOPh_CFG [c.val, h.val] 31 = true ∧ u.reg .CLU_HOOPh_LOG [c.val, h.val] = 0 ∧
            u.reg .CLU_HOOPh_TALLY [c.val, h.val] = 0 ∧ u.fab.hoops.find (64 * c.val + h.val) = some ⟨s.reg .RNT_VALk [f], s.reg .RNT_VALk [d]⟩ ∧
            u = { s with regs := u.regs, fab := u.fab }) ∧
        (¬ (c.val * 3584 ≤ f ∧ f < c.val * 3584 + 3584 ∧ c.val * 3584 ≤ d ∧ d < c.val * 3584 + 3584) →
          ∃ u, exec (.hoopArm ini c h data) s = .next u ∧ u.flag .CLU_HOOPh_CFG [c.val, h.val] 31 = false ∧ u = { s with regs := u.regs }))) ∧
    (∀ e rest, takeFirst (fun (e : Nat × Nat) => e.1 == c.val && e.2 == h.val) s.fab.hoopLogs = some (e, rest) →
      (s.flag .CLU_HOOPh_CFG [c.val, h.val] 31 = true → s.fld .CLU_HOOPh_LOG [c.val, h.val] 30 29 ≠ 0 →
        ∃ u g, exec (.hoopLog c h) s = .next u ∧ u.flag .CLU_HOOPh_LOG [c.val, h.val] 31 = true ∧ u.flag .CLU_HOOPh_CFG [c.val, h.val] 31 = false ∧
          u.mgt.inflight = s.mgt.inflight ++ [g] ∧ g.cls = 2 ∧ g.code = s.fld .CLU_HOOPh_LOG [c.val, h.val] 30 29 ∧ g.inst = h.val ∧
          u.fab.hoopLogs = rest ∧ u.mem = s.mem ∧ u.tiles = s.tiles) ∧
      (s.flag .CLU_HOOPh_CFG [c.val, h.val] 31 = false ∨ s.fld .CLU_HOOPh_LOG [c.val, h.val] 30 29 = 0 →
        exec (.hoopLog c h) s = .next { s with fab := { s.fab with hoopLogs := rest } })) ∧
    (∀ m rest, takeFirst (fun (m : BarMsg) => m.tile == t.val && m.ctx == k.val) s.fab.bars = some (m, rest) → m.jid < 256 → s.barArrived m.jid < 65535 →
      (s.barBroken m.jid = true ∨ s.barArrived m.jid + 1 < s.barExpect m.jid →
        ∃ u, exec (.barrierArrival t k) s = .next u ∧ u.barArrived m.jid = s.barArrived m.jid + 1 ∧ u.tiles = s.tiles ∧ u.fab.bars = rest ∧
          ∀ a, a ≠ Reg.adr .FAB_BARj [m.jid] → u.rg a = s.rg a) ∧
      (s.barBroken m.jid = false → s.barExpect m.jid ≤ s.barArrived m.jid + 1 →
        ∃ u, exec (.barrierArrival t k) s = .next u ∧ u.barArrived m.jid = 0 ∧ u.barExpect m.jid = s.barExpect m.jid ∧
          u.fld .FAB_BARj_STAT [m.jid] 15 0 = (s.fld .FAB_BARj_STAT [m.jid] 15 0 + 1) % 65536 ∧ u.fab.bars = rest ∧ u.mem = s.mem ∧
          (s.spares = .empty → ∀ x i, s.jobOf x = some m.jid → (s.ctxOf x i).bar = .sent → (u.ctxOf x i).bar = .woken) ∧
          ∀ x i, (s.ctxOf x i).bar ≠ .sent → u.ctxOf x i = s.ctxOf x i)) ∧
    (s.takes ini .FAB_BARj [j.toNat] data.toNat →
      (bits data.toNat 31 16 = 0 →
        ∃ u, exec (.fabBarWrite ini j data) s = .next u ∧ u.barExpect j.toNat = bits data.toNat 15 0 ∧ u.barArrived j.toNat = 0 ∧ u.barBroken j.toNat = false ∧
          OnlyRegs s u [Reg.adr .FAB_BARj [j.toNat], Reg.adr .FAB_BARj_STAT [j.toNat]]) ∧
      (bits data.toNat 31 16 ≠ 0 → s.barArrived j.toNat = 0 ∨ s.barArrived j.toNat < bits data.toNat 15 0 →
        ∃ u, exec (.fabBarWrite ini j data) s = .next u ∧ u.barExpect j.toNat = bits data.toNat 15 0 ∧ u.barArrived j.toNat = s.barArrived j.toNat ∧
          OnlyRegs s u [Reg.adr .FAB_BARj [j.toNat]]))

/-- R183 to R188: a kill is asked for by a write of FAB_KILL or by the sweep unit, once for a JID; the lowest pending JID is taken: its windows close, its contexts are idle, its counters are
0 and unowned, its barrier is reset. The kill ends, unless a debug hold keeps it, with every tile of the job zeroed and free. -/
def Obligations.KillsOfJobs : Prop :=
  ∀ (ini : Initiator) (j : BitVec 8) (s : State), s.up = true → s.Inv →
    (j.toNat ∉ s.fab.killPend → s.fab.kill.map (·.jid) ≠ some j.toNat →
      ∃ u, exec (.killRequest none j) s = .next u ∧ u = { s with fab := { s.fab with killPend := u.fab.killPend } } ∧
        ∀ i, i ∈ u.fab.killPend ↔ i = j.toNat ∨ i ∈ s.fab.killPend) ∧
    (j.toNat ∈ s.fab.killPend ∨ s.fab.kill.map (·.jid) = some j.toNat → exec (.killRequest none j) s = .next s) ∧
    (s.takes ini .FAB_KILL [] (2 ^ 31 + j.toNat) →
      ∃ u, exec (.killRequest (some ini) j) s = .next u ∧ u.fld .FAB_KILL [] 7 0 = j.toNat ∧
        (j.toNat ∈ u.fab.killPend ∨ s.fab.kill.map (·.jid) = some j.toNat) ∧ u.tiles = s.tiles ∧ u.mem = s.mem) ∧
    (s.fab.kill ≠ none ∨ s.fab.killPend = [] → exec .killStart s = .next s) ∧
    (∀ i rest, s.fab.kill = none → s.fab.killPend = i :: rest → i < 256 → (∀ t ∈ s.tilesOf i, s.clusterRuns (clusterOf t) = true) →
      ∃ u, exec .killStart s = .next u ∧ u.fab.kill = some ⟨i, false⟩ ∧ u.fab.killPend = rest ∧ u.barArrived i = 0 ∧ u.barExpect i = 0 ∧ u.barBroken i = false ∧
        (∀ t : TileId, s.jobOf t.val = some i → (u.tile t.val).killed = true ∧ (u.tile t.val).mq = [] ∧ (u.tile t.val).sends = [] ∧
          (u.tile t.val).reqs = [] ∧ ∀ k, (u.ctxOf t.val k).live = false) ∧
        (∀ w, w < 256 → s.fld .FAB_WINw_CFG [w] 31 24 = i → u.flag .FAB_WINw_CTRL [w] 0 = false) ∧
        (∀ n, n < 16384 → s.flag .RNT_CFGk [n] 8 = true → s.fld .RNT_CFGk [n] 7 0 = i → u.reg .RNT_VALk [n] = 0 ∧ u.reg .RNT_CFGk [n] = 0)) ∧
    (s.fab.kill = none → exec .killComplete s = .next s) ∧
    (∀ r, s.fab.kill = some r → (∃ t ∈ s.killedTiles, s.dbgHold t = true) →
      exec .killComplete s = .next { s with fab := { s.fab with kill := some ⟨r.jid, true⟩ } }) ∧
    (∀ r, s.fab.kill = some r → (∀ t ∈ s.killedTiles, s.dbgHold t = false) → s.spares = .empty →
      ∃ u, exec .killComplete s = .next u ∧ u.fab.kill = none ∧ u.events = s.events ++ [.killed r.jid] ∧
        ∀ t : TileId, (s.tile t.val).killed = true → (u.tile t.val).killed = false ∧ (u.tile t.val).slices = .empty ∧ s.clusterRuns (clusterOf t.val) = u.clusterRuns (clusterOf t.val) ∧
          (∀ k, (u.ctxOf t.val k).st = .idle) ∧ u.flag .TILE_JOB (tix t.val) 8 = false ∧
          ((s.tile t.val).ready = true → (∀ a, a < 0x100000 → u.mem.rd (spadBase t.val + a) = 0) ∧ (u.tile t.val).unlanded = [] ∧ (u.tile t.val).poison = []))

/-- R223, R225, R239, R241: a GO queues the pass address, and sets ERR bit 0 where four wait; a fence waits until it is acknowledged; EN = 0 drops the queue and stops
the running pass with ABORT. The epoch ends once every sequence is written: the counts are published, DONE's counter takes 1, the fences' counter their number, and
ATT_EPOCH counts. With no pass running a pending fence is acknowledged at once. -/
def Obligations.AttentionQueueAndFences : Prop :=
  ∀ (ini : Initiator) (c : Fin 4) (s : State), s.up = true → s.Inv → s.hoopsSound →
    (s.takes ini .ATT_GO [c.val] 1 →
      ((s.attn c.val).queue.length < 4 →
        ∃ u, exec (.attGo ini c) s = .next u ∧ u.attn c.val = { s.attn c.val with queue := (s.attn c.val).queue ++ [s.reg64 .ATT_PASS_LO .ATT_PASS_HI [c.val]] } ∧
          u = { s with regs := u.regs, att := u.att } ∧ (∀ x, x ≠ c.val → u.attn x = s.attn x) ∧ ∀ a, a ≠ Reg.adr .ATT_GO [c.val] → u.rg a = s.rg a) ∧
      (4 ≤ (s.attn c.val).queue.length →
        ∃ u, exec (.attGo ini c) s = .next u ∧ u.flag .ATT_ERR [c.val] 0 = true ∧ OnlyRegs s u [Reg.adr .ATT_GO [c.val], Reg.adr .ATT_ERR [c.val]])) ∧
    (s.takes ini .ATT_TFENCE [c.val] 1 →
      ∃ u, exec (.attTfence ini c) s = .next u ∧ u.attn c.val = { s.attn c.val with fences := (s.attn c.val).fences + 1 } ∧
        u = { s with regs := u.regs, att := u.att } ∧ (∀ x, x ≠ c.val → u.attn x = s.attn x) ∧ ∀ a, a ≠ Reg.adr .ATT_TFENCE [c.val] → u.rg a = s.rg a) ∧
    (s.takes ini .ATT_CTRL [c.val] (putBits (s.rwPart .ATT_CTRL [c.val]) 0 0 0) →
      ∃ u, exec (.attStop ini c) s = .next u ∧ u.flag .ATT_CTRL [c.val] 0 = false ∧ (u.attn c.val).queue = [] ∧ (u.attn c.val).run = none ∧ u.mem = s.mem ∧
        ((s.attn c.val).run.isSome = true → u.flag .ATT_ERR [c.val] 4 = true) ∧ ∀ x, x ≠ c.val → u.attn x = s.attn x) ∧
    (s.clusterRuns c.val = true →
      ((s.attn c.val).run = none → exec (.attEpochEnd c) s = .next s) ∧
      (∀ r, (s.attn c.val).run = some r →
        exec (.attFenceAckIdle c) s = .next s ∧
        (r.seqs.all (·.merged) = false → exec (.attEpochEnd c) s = .next s) ∧
        (r.seqs.all (·.merged) = true →
          ∃ u, exec (.attEpochEnd c) s = .next u ∧ (u.attn c.val).run = none ∧ (u.attn c.val).fences = 0 ∧ (u.attn c.val).queue = (s.attn c.val).queue ∧
            u.reg .ATT_LAST [c.val] = (min r.ovr 65535 * 65536 + r.items) % 2 ^ 32 ∧
            u.reg .ATT_XLAT [c.val] = min r.preload 65535 * 65536 + min r.misses 65535 ∧
            u.reg .ATT_EPOCH [c.val] = (s.reg .ATT_EPOCH [c.val] + 1) % 2 ^ 32 ∧ u.mem = s.mem ∧
            (∀ k m, k = s.fld .ATT_CNT [c.val] 13 0 → m = s.fld .ATT_CNT [c.val] 29 16 → k ≠ m →
              u.reg .RNT_VALk [k] = (s.reg .RNT_VALk [k] + 1) % 2 ^ 32 ∧ u.reg .RNT_VALk [m] = (s.reg .RNT_VALk [m] + (s.attn c.val).fences) % 2 ^ 32))) ∧
      ((s.attn c.val).run = none → (s.attn c.val).fences = 0 → exec (.attFenceAckIdle c) s = .next s) ∧
      ((s.attn c.val).run = none → 0 < (s.attn c.val).fences →
        ∃ u, exec (.attFenceAckIdle c) s = .next u ∧ u.attn c.val = { s.attn c.val with fences := 0 } ∧ u.mem = s.mem ∧
          ∀ m, m = s.fld .ATT_CNT [c.val] 29 16 → u.reg .RNT_VALk [m] = (s.reg .RNT_VALk [m] + (s.attn c.val).fences) % 2 ^ 32))

/-- R222 to R224, R228, R232, R235, R237: the next pass starts when none runs and EN is 1, with the descriptor as memory holds it, and an invalid one sets DESC. A page that a
waiting line needs is walked, and its entry held, or every line of it fails. A line returns to the first sequence that waits for it. A bucket item starts once the reads of
the one before are done. A finished sequence is written once; a status of 2 to 5 sets ERR bit 3. -/
def Obligations.AttentionPassWork : Prop :=
  ∀ (c : Fin 4) (s : State), s.up = true → s.clusterRuns c.val = true → s.Inv →
    ((s.attn c.val).run.isSome = true ∨ (s.attn c.val).queue = [] ∨ s.flag .ATT_CTRL [c.val] 0 = false → exec (.attPassStart c) s = .next s) ∧
    (∀ va rest, (s.attn c.val).run = none → (s.attn c.val).queue = va :: rest → s.flag .ATT_CTRL [c.val] 0 = true →
      ∃ u r, exec (.attPassStart c) s = .next u ∧ (u.attn c.val).queue = rest ∧ (u.attn c.val).run = some r ∧ u.mem = s.mem ∧ u.tiles = s.tiles ∧
        (r.valid = false → u.flag .ATT_ERR [c.val] 1 = true ∧ r.seqs = []) ∧
        (∀ e, s.attWalk c.val va false = .ok e → e.r = true → va % 65536 + 64 ≤ 65536 → (∀ i, i < 64 → s.inTags (e.map va + i) = false) →
          r.desc = s.mem.rdBytes (e.map va) 64)) ∧
    (∀ r, (s.attn c.val).run = some r →
      (∀ page : BitVec 32,
        ((∀ line, line / 512 = page.toNat → r.waiter line = none) ∨ (lookupTlb r.tlb (s.attMctx c.val) (page.toNat * 65536)).isSome = true →
          ∀ ecc, exec (.attTranslationMiss c page ecc) s = .next s) ∧
        ((∃ line, line / 512 = page.toNat ∧ r.waiter line ≠ none) → lookupTlb r.tlb (s.attMctx c.val) (page.toNat * 65536) = none →
          (∀ e, s.attWalk c.val (page.toNat * 65536) false = .ok e →
            ∃ u, exec (.attTranslationMiss c page .clean) s = .next u ∧ u = { s with att := u.att } ∧
              u.attn c.val = { s.attn c.val with run := some { r with misses := r.misses + 1, tlb := attFill r.tlb e } } ∧ ∀ x, x ≠ c.val → u.attn x = s.attn x) ∧
          (∀ k, s.attWalk c.val (page.toNat * 65536) false = .error k →
            ∃ u r', exec (.attTranslationMiss c page .clean) s = .next u ∧ (u.attn c.val).run = some r' ∧ r'.misses = r.misses + 1 ∧ r'.tlb = r.tlb ∧
              (∀ line, line / 512 = page.toNat → r'.waiter line = none) ∧ u.flag .MMU_FLOG_HI [] 31 = true ∧ u.mem = s.mem ∧ u.tiles = s.tiles))) ∧
      (∀ line : BitVec 41, r.waiter line.toNat = none ∨ lookupTlb r.tlb (s.attMctx c.val) (line.toNat * 128) = none → ∀ ecc, exec (.attReadReturn c line ecc) s = .next s) ∧
      (∀ (line : BitVec 41) i q e, r.waiter line.toNat = some (i, q) → lookupTlb r.tlb (s.attMctx c.val) (line.toNat * 128) = some e → e.r = true →
        s.blockedRegions = [] →
        ∃ u r', exec (.attReadReturn c line .clean) s = .next u ∧ (u.attn c.val).run = some r' ∧
          r'.lines.find (lineKey i line.toNat) = some (s.mem.rdBytes (e.map (line.toNat * 128)) 128) ∧ u = { s with att := u.att } ∧
          ∀ key, key ≠ lineKey i line.toNat → r'.lines.find key = r.lines.find key) ∧
      (∀ overran,
        (r.bucket = false ∨ r.items = 0 ∨ r.items < r.started → exec (.attBucketItem c overran) s = .next s) ∧
        (r.bucket = true → 0 < r.items → r.started ≤ r.items →
          (r.started = 0 ∨ (∀ i q, r.seqs[i]? = some q → q.reads = true → q.item0 ≤ r.started - 1 → r.started - 1 < q.item0 + q.items →
              r.itemDone i q (r.started - 1 - q.item0) = true) →
            ∃ u, exec (.attBucketItem c overran) s = .next u ∧ u = { s with att := u.att } ∧
              (u.attn c.val).run = some { r with started := r.started + 1, ovr := r.ovr + (if overran ∧ 0 < r.started then 1 else 0) }) ∧
          (∀ i q, 0 < r.started → r.seqs[i]? = some q → q.reads = true → q.item0 ≤ r.started - 1 → r.started - 1 < q.item0 + q.items →
            r.itemDone i q (r.started - 1 - q.item0) = false → exec (.attBucketItem c overran) s = .next s))) ∧
      (∀ i q, r.seqs[i]? = some q →
        (q.merged = true ∨ r.seqDone i q = false → exec (.attSequenceMerge c i) s = .next s) ∧
        (q.merged = false → r.seqDone i q = true →
          ∃ u r', exec (.attSequenceMerge c i) s = .next u ∧ (u.attn c.val).run = some r' ∧ r'.seqs[i]? = some { q with merged := true } ∧
            (∀ j, j ≠ i → r'.seqs[j]? = r.seqs[j]?) ∧ (2 ≤ q.code → q.code ≤ 5 → u.flag .ATT_ERR [c.val] 3 = true) ∧ u.tiles = s.tiles ∧
            (6 ≤ q.code → ∀ e, lookupTlb r.tlb (s.attMctx c.val) (r.sbase + 4 * i) = some e → e.w = true → (r.sbase + 4 * i) % 65536 + 4 ≤ 65536 → s.blockedRegions = [] →
              SameOutside s u (e.map (r.sbase + 4 * i)) 4 ∧ u.mem.rdLE (e.map (r.sbase + 4 * i)) 4 = (q.code + q.items * 65536) % 2 ^ 32))))

/-- R242 to R249, R255, R276: the packet interface. A port that is off or has lost lock takes nothing; a packet whose header is beyond repair counts and reaches no buffer; one that
no context takes counts as unmatched; a frame start waits in the buffer with the point at which it was decoded. A stop state regains lock. A taken frame start opens a frame at
its point with the geometry of that time, in the first unclaimed window that contains its phase, else marked OUTWIN; an open frame ends with NO_FE first; under HELD the frame is
dropped and counted. A frame end, a timeout and the context's disable end the open frame, and rows that never came make it SHORT. Enabling a context starts it afresh. -/
def Obligations.CameraPacketsAndFrames : Prop :=
  ∀ (ini : Initiator) (p : Fin 8) (n : Fin 32) (s : State), s.up = true → s.Inv →
    (∀ k, s.flag .ING_PORTp_CFG [p.val] 0 = false ∨ (s.port p.val).lost = true → exec (.csiPacket p k) s = .next s) ∧
    (∀ k : CsiPkt, s.flag .ING_PORTp_CFG [p.val] 0 = true → (s.port p.val).lost = false →
      (k.hdr = .bad →
        ∃ u, exec (.csiPacket p k) s = .next u ∧ u.fld .ING_PORTp_ERR [p.val] 15 8 = min (s.fld .ING_PORTp_ERR [p.val] 15 8 + 1) 255 ∧
          u.port p.val = { s.port p.val with stop := false } ∧ u.mem = s.mem) ∧
      (k.hdr = .good → k.kind = .frameStart → k.vc.toNat ≤ 3 →
        (s.routed p.val k.vc.toNat = none →
          ∃ u, exec (.csiPacket p k) s = .next u ∧ u.fld .ING_PORTp_STAT [p.val] 31 16 = min (s.fld .ING_PORTp_STAT [p.val] 31 16 + 1) 65535 ∧
            u.port p.val = { s.port p.val with sync := true, stop := false } ∧ u.mem = s.mem) ∧
        (∀ m, s.routed p.val k.vc.toNat = some m → ((s.port p.val).buf.map (·.bytes)).sum ≤ 131072 →
          ∃ u, exec (.csiPacket p k) s = .next u ∧ u = { s with vis := u.vis } ∧ (∀ x, u.cam x = s.cam x) ∧
            u.port p.val = { s.port p.val with
              buf := (s.port p.val).buf ++ [IngPkt.mk m .frameStart k.data 0 false s.swp.count s.phase s.swp.cycle 0], sync := true, stop := false }))) ∧
    (∃ u, exec (.csiStopState p) s = .next u ∧ u = { s with vis := u.vis } ∧ u.port p.val = { s.port p.val with lost := false, stop := true } ∧
      (∀ q, q ≠ p.val → u.port q = s.port q) ∧ ∀ x, u.cam x = s.cam x) ∧
    (∀ k rest, (s.port p.val).buf = k :: rest →
      (k.kind ≠ .frameStart → exec (.frameStart p) s = .next s) ∧ (k.kind ≠ .frameEnd → exec (.frameEnd p) s = .next s) ∧
      (k.kind = .frameStart → s.ingEn k.ctx = true → s.vis.ingHeld.contains k.ctx = false →
        ((s.cam k.ctx).openFrame = none →
          ∃ u f, exec (.frameStart p) s = .next u ∧ (u.port p.val).buf = rest ∧ (u.cam k.ctx).openFrame = some f ∧ f.fsSweep = k.sweep % 2 ^ 32 ∧
            f.fsPhase = k.phase ∧ f.row = 0 ∧ f.lines = 0 ∧ f.width = s.camWidth k.ctx ∧ f.height = s.camHeight k.ctx ∧ u.mem = s.mem ∧ u.regs = s.regs ∧
            ((∀ w, w < 4 → s.inWindow k.ctx w k.phase = false ∨ (s.cam k.ctx).claimed.contains w = true) → f.win = 255 ∧ f.status.testBit 9 = true) ∧
            (∀ w, w < 4 → s.inWindow k.ctx w k.phase = true → (s.cam k.ctx).claimed.contains w = false →
              (∀ v, v < w → s.inWindow k.ctx v k.phase = false ∨ (s.cam k.ctx).claimed.contains v = true) →
              f.win = w ∧ (u.cam k.ctx).claimed = w :: (s.cam k.ctx).claimed)) ∧
        (∀ f, (s.cam k.ctx).frames = [f] → f.ended = false → s.flag .ING_CTXn_CTRL [k.ctx] 0 = false →
          ∃ u g h, exec (.frameStart p) s = .next u ∧ (u.cam k.ctx).frames = [g, h] ∧ g.ended = true ∧ g.status.testBit 6 = true ∧ g.fePhase = k.phase ∧
            h.ended = false ∧ h.fsPhase = k.phase ∧ u.mem = s.mem ∧ u.regs = s.regs)) ∧
      (k.kind = .frameStart → s.ingEn k.ctx = true → s.vis.ingHeld.contains k.ctx = true → (s.cam k.ctx).openFrame = none → k.ctx < 32 →
        ∃ u, exec (.frameStart p) s = .next u ∧ (u.cam k.ctx).frames = (s.cam k.ctx).frames ∧ (u.cam k.ctx).dropping = true ∧
          u.fld .ING_CTXn_CNT [k.ctx] 31 16 = min (s.fld .ING_CTXn_CNT [k.ctx] 31 16 + 1) 65535 ∧ u.mem = s.mem) ∧
      (∀ f, k.kind = .frameEnd → (s.cam k.ctx).frames = [f] → f.ended = false →
        ∃ u g, exec (.frameEnd p) s = .next u ∧ (u.port p.val).buf = rest ∧ (u.cam k.ctx).frames = [g] ∧ g.ended = true ∧ g.fePhase = k.phase ∧
          g.fillRows = f.fillRows + (f.height - f.row) ∧ (f.row < f.height → g.status.testBit 3 = true) ∧ (f.height ≤ f.row → g.status = f.status) ∧
          u.mem = s.mem ∧ u.regs = s.regs)) ∧
    (s.fld .ING_CTXn_CTRL [n.val] 15 4 = 0 → exec (.frameTimeout n) s = .next s) ∧
    (∀ f, (s.cam n.val).frames = [f] → f.ended = false →
      (s.fld .ING_CTXn_CTRL [n.val] 15 4 ≠ 0 →
        ∃ u g, exec (.frameTimeout n) s = .next u ∧ (u.cam n.val).frames = [g] ∧ g.ended = true ∧ g.fePhase = s.phase ∧ g.status.testBit 6 = true ∧
          u.mem = s.mem ∧ u.regs = s.regs) ∧
      (s.takes ini .ING_CTXn_SRC [n.val] (putBits (s.rwPart .ING_CTXn_SRC [n.val]) 0 0 0) → s.ingEn n.val = true →
        ∃ u g, exec (.ingContextDisable ini n) s = .next u ∧ u.ingEn n.val = false ∧ (u.cam n.val).frames = [g] ∧ g.ended = true ∧ g.status.testBit 6 = true ∧
          u.mem = s.mem ∧ ∀ a, a ≠ Reg.adr .ING_CTXn_SRC [n.val] → u.rg a = s.rg a)) ∧
    (s.takes ini .ING_CTXn_SRC [n.val] (putBits (s.rwPart .ING_CTXn_SRC [n.val]) 0 0 1) → s.ingEn n.val = false →
      ∃ u, exec (.ingContextEnable ini n) s = .next u ∧ u.ingEn n.val = true ∧ (u.cam n.val).recs = 0 ∧ (u.cam n.val).claimed = [] ∧ (u.cam n.val).epoch = 0 ∧
        (u.cam n.val).waits = [] ∧ (u.cam n.val).statSeq = 0 ∧ (u.cam n.val).pub = none ∧ (∀ x, x ≠ n.val → u.cam x = s.cam x) ∧
        u = { s with regs := u.regs, vis := u.vis } ∧ ∀ a, a ≠ Reg.adr .ING_CTXn_SRC [n.val] → u.rg a = s.rg a)

/-- R245, R247, R249 to R252, R261, R262: a line of a context with one exposure, padded with the fill code or cut to WIDTH, is written to its ring line as merged pixels, and row and line
counts rise. An embedded line gives its enabled extracts their values. An unclaimed window that closes writes a record with MISSING, the frame number and the window;
a claimed one is free for its next pass. -/
def Obligations.CameraLinesAndRecords : Prop :=
  ∀ (p : Fin 8) (n : Fin 32) (k : Fin 4) (s : State), s.up = true → s.Inv → s.blockedRegions = [] →
    (∀ q rest, (s.port p.val).buf = q :: rest →
      ((∀ dt, q.kind ≠ .long dt) → exec (.linePacket p) s = .next s ∧ exec (.embeddedLine p) s = .next s) ∧
      (∀ f dt, q.kind = .long dt → (s.cam q.ctx).frames = [f] → f.ended = false →
        (dt = 0x12 →
          exec (.linePacket p) s = .next s ∧
          ∃ u g, exec (.embeddedLine p) s = .next u ∧ (u.port p.val).buf = rest ∧ (u.cam q.ctx).frames = [g] ∧ g.embLines = f.embLines + 1 ∧ u.mem = s.mem ∧
            u.regs = s.regs ∧
            (∀ j h, j < 16 → s.flag .ING_CTXn_EMBj [q.ctx, j] 2 = true → s.fld .ING_CTXn_EMBj [q.ctx, j] 1 0 = f.embLines →
              s.flag .ING_CTXn_EMBj [q.ctx, j] 3 = false → q.data[s.fld .ING_CTXn_EMBj [q.ctx, j] 15 4]? = some h → g.embVals.find j = some (h % 256)) ∧
            (∀ j, j < 16 → s.flag .ING_CTXn_EMBj [q.ctx, j] 2 = false → g.embVals.find j = f.embVals.find j)) ∧
        (dt ≠ 0x12 →
          exec (.embeddedLine p) s = .next s ∧
          (s.exposureOf q.ctx dt.toNat = some 0 → s.ingExps q.ctx = 1 → f.overrun = false → f.row < f.height → f.cnt = [f.row, 0, 0, 0] → f.part = .empty →
            (∀ t, t < 4 → s.flag .ISP_CTXn_TAPt_CFG [q.ctx, t] 0 = false) →
            ∀ slot a, slot = (f.s0 + f.row) % s.ringSlots q.ctx → a = s.reg64 .ING_CTXn_RBASE_LO .ING_CTXn_RBASE_HI [q.ctx] + slot * s.ringPitch q.ctx →
              (s.cam q.ctx).slotBusy (s.ringSlots q.ctx) slot = false → (s.region a).isVatOrLpx = true →
              ∃ u g, exec (.linePacket p) s = .next u ∧ (u.port p.val).buf = rest ∧ (u.cam q.ctx).frames = [g] ∧ g.row = f.row + 1 ∧ g.lines = f.lines + 1 ∧
                g.stored = f.stored + 1 ∧ (q.data.length < f.width → g.status.testBit 1 = true) ∧ (f.width < q.data.length → g.status.testBit 2 = true) ∧
                (q.crcBad = true → g.status.testBit 7 = true) ∧ u.regs = s.regs ∧ u.tiles = s.tiles ∧
                u.mem = s.mem.wrBytes a ((pixelBytes (s.ringBytes q.ctx) ((List.range f.width).map (fun i => s.mergePixel q.ctx
                  [s.decompand q.ctx (if i < q.data.length then q.data.getD i 0 % 2 ^ s.ingDepth q.ctx else s.fillCode q.ctx)]))).take (s.ringPitch q.ctx)))))) ∧
    (s.ingEn n.val = false ∨ s.fld .ING_CTXn_WINk [n.val, k.val] 15 0 = s.fld .ING_CTXn_WINk [n.val, k.val] 31 16 →
      exec (.phaseWindowClose n k) s = .next s) ∧
    (s.ingEn n.val = true → s.fld .ING_CTXn_WINk [n.val, k.val] 15 0 ≠ s.fld .ING_CTXn_WINk [n.val, k.val] 31 16 →
      ((s.cam n.val).claimed.contains k.val = true →
        ∃ u, exec (.phaseWindowClose n k) s = .next u ∧ u = { s with vis := u.vis } ∧ (u.cam n.val).recs = (s.cam n.val).recs ∧
          ∀ w, w ∈ (u.cam n.val).claimed ↔ w ≠ k.val ∧ w ∈ (s.cam n.val).claimed) ∧
      (∀ rn a, (s.cam n.val).claimed.contains k.val = false → rn = s.fld .ING_CTXn_RECN [n.val] 7 0 →
        a = s.reg64 .ING_CTXn_REC_LO .ING_CTXn_REC_HI [n.val] + (s.cam n.val).recs % (if rn = 0 then 256 else rn) * 128 → (s.region a).isVatOrLpx = true →
        ∃ u, exec (.phaseWindowClose n k) s = .next u ∧ (u.cam n.val).recs = ((s.cam n.val).recs + 1) % 2 ^ 32 ∧
          u.reg .ING_CTXn_FRAME [n.val] = (s.cam n.val).recs % 2 ^ 32 ∧ SameOutside s u a 128 ∧ u.tiles = s.tiles ∧
          u.mem.rdLE a 4 = 1025 + (if (s.cam n.val).epovf then 2 ^ 23 else 0) ∧ u.mem.rdLE (a + 4) 4 = (s.cam n.val).recs % 2 ^ 32 ∧
          u.mem.rdLE (a + 12) 2 = s.fld .ING_CTXn_WINk [n.val, k.val] 31 16 ∧ u.mem.rdLE (a + 18) 1 = k.val ∧
          ∀ x, x ≠ Reg.adr .ING_CTXn_FRAME [n.val] → u.rg x = s.rg x))

/-- R253, R256 to R259, R273, R274, R355: a free pipe takes the ready strip of the smallest key, of equal keys that of the lowest context; a strip that is done leaves its pipe, and the last one of
an ended frame writes its record. A publication is written once, with its sweep, and counted. A pulse's end drives one ball back. The oldest queued I3C write leaves the queue while the
outputs are not gated: refused, it counts; acknowledged with EPOCH, it opens an epoch. A direct read's data stand in DDATA; a missing acknowledgement sets ERR. -/
def Obligations.StripsStatisticsAndSensors : Prop :=
  ∀ (ini : Initiator) (q : Fin 4) (n : Fin 32) (i : Fin 16) (s : State), s.up = true → s.Inv → s.vis.pipes.wf = true →
    ((s.vis.pipes.find q.val).isSome = true ∨ (∀ m, m < 32 → s.readyStrip m = none) → exec (.stripSelect q) s = .next s) ∧
    (∀ m uid k, s.vis.pipes.find q.val = none → m < 32 → s.readyStrip m = some (uid, k) →
      (∀ x, x < 32 → x ≠ m → s.readyStrip x ≠ none → s.stripKey m < s.stripKey x ∨ (s.stripKey m = s.stripKey x ∧ m < x)) →
      ∃ u, exec (.stripSelect q) s = .next u ∧ u.vis.pipes.find q.val = some ⟨m, uid, k⟩ ∧ u.mem = s.mem ∧ u.regs = s.regs ∧ u.tiles = s.tiles) ∧
    (s.vis.pipes.find q.val = none → exec (.stripComplete q) s = .next s) ∧
    (∀ job f, s.vis.pipes.find q.val = some job → (s.cam job.ctx).frames.find? (fun g => g.uid == job.uid) = some f →
      (job.k + 1 = f.strips → f.ended = false → exec (.stripComplete q) s = .next s) ∧
      (job.k + 1 ≠ f.strips →
        ∃ u g, exec (.stripComplete q) s = .next u ∧ u.vis.pipes.find q.val = none ∧ (u.cam job.ctx).frames.find? (fun g => g.uid == job.uid) = some g ∧
          g.done = job.k + 1 ∧ (u.cam job.ctx).recs = (s.cam job.ctx).recs) ∧
      (job.k + 1 = f.strips → f.ended = true →
        ∃ u, exec (.stripComplete q) s = .next u ∧ u.vis.pipes.find q.val = none ∧ (u.cam job.ctx).frames.find? (fun g => g.uid == job.uid) = none ∧
          (u.cam job.ctx).recs = ((s.cam job.ctx).recs + 1) % 2 ^ 32)) ∧
    ((s.cam n.val).pub = none → exec (.statRecordDone n) s = .next s) ∧
    (∀ p, (s.cam n.val).pub = some p →
      ∃ u, exec (.statRecordDone n) s = .next u ∧ u.cam n.val = { s.cam n.val with pub := none, statSeq := ((s.cam n.val).statSeq + 1) % 65536 } ∧
        (∀ a, s.fld .ISP_CTXn_STAT_CFG [n.val] 7 0 = 1 → a = s.reg .ISP_CTXn_STAT_BASE [n.val] * 4096 → (s.region a).isVatOrLpx = true → s.blockedRegions = [] →
          u.mem.rdLE (a + 8) 4 = p.sweep % 2 ^ 32 ∧ u.mem.rdLE (a + 12) 2 = p.phase % 65536 ∧ u.regs = s.regs)) ∧
    (∃ u, exec (.fsyncPulseEnd i) s = .next u ∧ u = { s with vis := { s.vis with fsync := u.vis.fsync } } ∧
      ∀ j, j ∈ u.vis.fsync ↔ j ≠ i.val ∧ j ∈ s.vis.fsync) ∧
    (∀ ack, s.i3cQueue q.val = [] ∨ s.flag .SEC_GATE [] 0 = false → exec (.i3cWrite q ack) s = .next s) ∧
    (∀ j rest, s.i3cQueue q.val = j :: rest → s.flag .SEC_GATE [] 0 = true →
      (∃ u, exec (.i3cWrite q false) s = .next u ∧ u.i3cQueue q.val = rest ∧
        u.fld .PAD_I3Cc_STAT [q.val] 15 8 = min (s.fld .PAD_I3Cc_STAT [q.val] 15 8 + 1) 255 ∧ ∀ x, u.cam x = s.cam x) ∧
      (∃ u, exec (.i3cWrite q true) s = .next u ∧ u.i3cQueue q.val = rest ∧ u = { s with vis := u.vis } ∧
        (j.epoch = false → ∀ x, u.cam x = s.cam x) ∧
        (j.epoch = true → (u.cam (bits j.a 20 16)).epoch = ((s.cam (bits j.a 20 16)).epoch + 1) % 65536 ∧ ∀ x, x ≠ bits j.a 20 16 → u.cam x = s.cam x))) ∧
    (∀ data rdata : Word, s.takes ini .PAD_I3Cc_DCMD [q.val] (putBits data.toNat 31 31 0) → s.flag .PAD_I3Cc_CTRL [q.val] 0 = true → s.flag .SEC_GATE [] 0 = true →
      (∃ u, exec (.i3cDcmd ini q data false rdata) s = .next u ∧ u.flag .PAD_I3Cc_DCMD [q.val] 29 = true ∧ OnlyRegs s u [Reg.adr .PAD_I3Cc_DCMD [q.val]]) ∧
      (∃ u, exec (.i3cDcmd ini q data true rdata) s = .next u ∧
        OnlyRegs s u [Reg.adr .PAD_I3Cc_DCMD [q.val], Reg.adr .PAD_I3Cc_DDATA [q.val]] ∧
        (data.toNat.testBit 3 = true → 4 ≤ bits data.toNat 22 20 → u.reg .PAD_I3Cc_DDATA [q.val] = rdata.toNat) ∧
        (data.toNat.testBit 3 = false → u.reg .PAD_I3Cc_DDATA [q.val] = s.reg .PAD_I3Cc_DDATA [q.val])))

/-- R280, R281, R283 to R285: a GO queues the descriptor's address, and sets QFULL where eight wait. A job leaves the queue when the core is free and enabled, with the descriptor as memory
holds it then; one that waits for a stream context starts once no earlier job holds it. A refused job ends with its code in the status record, its counter incremented and JOBERR set, and
writes nothing else. EN = 0 ends every job, with ABORT where there was one. -/
def Obligations.CodecJobs : Prop :=
  ∀ (ini : Initiator) (k : Fin 3) (s : State), s.up = true → s.Inv → s.hoopsSound →
    (s.takes ini .COD_COREk_GO [k.val] 1 →
      ((s.codec k.val).queue.length < 8 →
        ∃ u, exec (.codGo ini k) s = .next u ∧
          u.codec k.val = { s.codec k.val with queue := (s.codec k.val).queue ++ [s.reg64 .COD_COREk_JOB_LO .COD_COREk_JOB_HI [k.val]] } ∧
          u = { s with regs := u.regs, cod := u.cod } ∧ (∀ x, x ≠ k.val → u.codec x = s.codec x) ∧ ∀ a, a ≠ Reg.adr .COD_COREk_GO [k.val] → u.rg a = s.rg a) ∧
      (8 ≤ (s.codec k.val).queue.length →
        ∃ u, exec (.codGo ini k) s = .next u ∧ u.flag .COD_COREk_ERR [k.val] 0 = true ∧ OnlyRegs s u [Reg.adr .COD_COREk_GO [k.val], Reg.adr .COD_COREk_ERR [k.val]])) ∧
    (s.takes ini .COD_COREk_CTRL [k.val] (putBits (s.rwPart .COD_COREk_CTRL [k.val]) 0 0 0) →
      ∃ u, exec (.codecStop ini k) s = .next u ∧ u.flag .COD_COREk_CTRL [k.val] 0 = false ∧ (u.codec k.val).queue = [] ∧ (u.codec k.val).run = none ∧
        ((s.codec k.val).queue ≠ [] ∨ (s.codec k.val).run.isSome = true → u.flag .COD_COREk_ERR [k.val] 2 = true) ∧
        ((s.codec k.val).run = none → u.mem = s.mem) ∧ ∀ x, x ≠ k.val → u.codec x = s.codec x) ∧
    ((s.codec k.val).run = none → (s.codec k.val).queue = [] ∨ s.flag .COD_COREk_CTRL [k.val] 0 = false → exec (.codecJobStart k) s = .next s) ∧
    ((s.codec k.val).run = none → exec (.codecJobComplete k) s = .next s) ∧
    (∀ va rest, (s.codec k.val).run = none → (s.codec k.val).queue = va :: rest → s.flag .COD_COREk_CTRL [k.val] 0 = true →
      (2 ^ 48 ≤ va →
        ∃ u, exec (.codecJobStart k) s = .next u ∧ (u.codec k.val).run = none ∧ (u.codec k.val).queue = rest ∧ u.flag .COD_COREk_ERR [k.val] 1 = true ∧
          u.flag .MMU_FLOG_HI [] 31 = true ∧ u.mem = s.mem) ∧
      (∀ e, va < 2 ^ 48 → va % 65536 + 64 ≤ 65536 → lookupTlb (s.codec k.val).tlb (s.codMctx k.val) va = some e → e.r = true → s.blockedRegions = [] → s.poison = [] →
        ∃ u j, exec (.codecJobStart k) s = .next u ∧ (u.codec k.val).run = some j ∧ (u.codec k.val).queue = rest ∧ j.desc = s.mem.rdBytes (e.map va) 64 ∧
          j.code = (if j.badDesc then 1 else if j.unsup k.val then 2 else 0) ∧ u = { s with cod := u.cod } ∧ ∀ x, x ≠ k.val → u.codec x = s.codec x)) ∧
    (∀ j, (s.codec k.val).run = some j →
      (j.waiting = false ∨ s.codConflict k.val j = true → exec (.codecJobStart k) s = .next s) ∧
      (j.waiting = true → s.codConflict k.val j = false →
        ∃ u, exec (.codecJobStart k) s = .next u ∧ u.codec k.val = { s.codec k.val with run := some { j with waiting := false } } ∧ u = { s with cod := u.cod }) ∧
      (j.waiting = true ∨ j.walks ≠ [] → exec (.codecJobComplete k) s = .next s) ∧
      (∀ e, j.waiting = false → j.walks = [] → j.code = 1 ∨ j.code = 2 → j.stat < 2 ^ 48 → j.stat % 65536 + 16 ≤ 65536 →
        lookupTlb (s.codec k.val).tlb (s.codMctx k.val) j.stat = some e → e.w = true → s.blockedRegions = [] →
        ∃ u, exec (.codecJobComplete k) s = .next u ∧ (u.codec k.val).run = none ∧ u.flag .COD_COREk_ERR [k.val] 1 = true ∧
          (u.mem.rd (e.map j.stat)).toNat = j.code ∧ SameOutside s u (e.map j.stat) 16 ∧ (∀ x, x ≠ k.val → u.codec x = s.codec x) ∧
          (j.cnt ≤ 16383 → u.reg .RNT_VALk [j.cnt] = (s.reg .RNT_VALk [j.cnt] + 1) % 2 ^ 32)))

/-- R301 to R305, R307: SEAL set on a region that lies in one memory and meets no other begins its tags under a new generation number; on any other it stays 0 with ERR set. SEALED comes with the
tag of every line written behind the data. Clearing SEAL drops the region's instruction lines and keeps it blocked until the unseal is done. A brine request that the engine
takes waits in its queue, any other sets ERR; done, its pages are zero and its counter has counted. -/
def Obligations.SealedRegionsAndBrine : Prop :=
  ∀ (ini : Initiator) (r : Fin 64) (data : Word) (s : State), s.up = true → s.Inv → s.hoopsSound →
    (s.takes ini .FAB_SEALr_CTRL [r.val] 1 →
      (s.sealBit r.val = false → (s.sealSt r.val).unsealing = false → s.sealable r.val = true →
        ∃ u, exec (.seal ini r) s = .next u ∧ u.sealBit r.val = true ∧ u.sealedBit r.val = s.sealedBit r.val ∧
          u.sealSt r.val = ⟨((s.sealSt r.val).gen + 1) % 2 ^ 32, true, false⟩ ∧ u = { s with regs := u.regs, fab := u.fab } ∧
          (∀ q, q ≠ r.val → u.sealSt q = s.sealSt q) ∧ ∀ a, a ≠ Reg.adr .FAB_SEALr_CTRL [r.val] → u.rg a = s.rg a) ∧
      (s.sealBit r.val = false → (s.sealSt r.val).unsealing = false → s.sealable r.val = false →
        ∃ u, exec (.seal ini r) s = .next u ∧ u.sealBit r.val = false ∧ u.flag .FAB_SEALr_CTRL [r.val] 2 = true ∧ OnlyRegs s u [Reg.adr .FAB_SEALr_CTRL [r.val]])) ∧
    ((s.sealSt r.val).tagging = false → exec (.sealed r) s = .next s) ∧
    (∀ b d t, (s.sealSt r.val).tagging = true → s.sealRange r.val = (b, d, t) →
      ∃ u, exec (.sealed r) s = .next u ∧ u.sealedBit r.val = true ∧ (u.sealSt r.val).tagging = false ∧ SameOutside s u d (t - d) ∧ u.tiles = s.tiles ∧
        ∀ i, i < (d - b) / 64 → u.mem.rdLE (d + 8 * i) 8 = (s.lineTag r.val (b + 64 * i)).toNat) ∧
    (s.takes ini .FAB_SEALr_CTRL [r.val] 0 → s.sealBit r.val = true → ∀ b d t, s.sealRange r.val = (b, d, t) →
      ∃ u, exec (.unseal ini r) s = .next u ∧ u.sealBit r.val = false ∧ u.sealedBit r.val = s.sealedBit r.val ∧ (u.sealSt r.val).unsealing = true ∧
        (u.sealSt r.val).tagging = false ∧ ((s.sealSt r.val).tagging = false → u.mem = s.mem) ∧ SameOutside s u d (t - d) ∧
        ∀ x l, l ∈ (u.tile x).icache ↔ l ∈ (s.tile x).icache ∧ rangesMeet l.pa 256 b (d - b) = false) ∧
    ((s.sealSt r.val).unsealing = false → exec (.unsealDone r) s = .next s) ∧
    ((s.sealSt r.val).unsealing = true → s.sealBit r.val = false →
      ∃ u, exec (.unsealDone r) s = .next u ∧ (u.sealSt r.val).unsealing = false ∧ r.val ∉ u.blockedRegions ∧ u = { s with regs := u.regs, fab := u.fab }) ∧
    (∀ page n, s.takes ini .FAB_BRN_CTL [] (putBits data.toNat 31 31 1) → page = s.fld .FAB_BRN_ADDR [] 27 0 → n = max 1 (min 4096 (bits data.toNat 26 14)) →
      (s.fab.brine.length < 16 → (s.region (page * 65536)).isVatOrLpx = true → s.oneRegion (page * 65536) (n * 65536) = true →
        s.blockedBy (page * 65536) (n * 65536) = none →
        ∃ u, exec (.brineGo ini data) s = .next u ∧ u.fab = { s.fab with brine := s.fab.brine ++ [⟨page, n, bits data.toNat 13 0⟩] } ∧
          u = { s with regs := u.regs, fab := u.fab } ∧ ∀ a, a ≠ Reg.adr .FAB_BRN_CTL [] → u.rg a = s.rg a) ∧
      (16 ≤ s.fab.brine.length ∨ (s.region (page * 65536)).isVatOrLpx = false ∨ s.oneRegion (page * 65536) (n * 65536) = false ∨
        s.blockedBy (page * 65536) (n * 65536) ≠ none →
        ∃ u, exec (.brineGo ini data) s = .next u ∧ u.flag .FAB_BRN_CTL [] 29 = true ∧ OnlyRegs s u [Reg.adr .FAB_BRN_CTL []])) ∧
    (s.fab.brine = [] → exec .brineRequestDone s = .next s) ∧
    (∀ q rest, s.fab.brine = q :: rest → s.blockedBy (q.page * 65536) (q.count * 65536) = none → q.cnt < 16384 →
      ∃ u, exec .brineRequestDone s = .next u ∧ u.fab.brine = rest ∧ (∀ i, i < q.count * 65536 → u.mem.rd (q.page * 65536 + i) = 0) ∧
        SameOutside s u (q.page * 65536) (q.count * 65536) ∧ u.reg .RNT_VALk [q.cnt] = (s.reg .RNT_VALk [q.cnt] + 1) % 2 ^ 32)

/-- R290, R292, R293, R296, R300, R405, R408: a scrub step counts its corrections; after 32,768 steps PASS counts. INIT loses the contents of LPDDR5X and reads the enabled channels; its end
shows the channels and the capacity, or which channels failed, and performs the pending repairs. A refresh tick lowers a channel's debt; a permitted quiet channel pulls
refreshes in, one that is not permitted stays above −8. An invalidation takes out the translations that it names. A vat repair latches its group and sets DONE when its copy ends. -/
def Obligations.MemoryUpkeep : Prop :=
  ∀ (ini : Initiator) (c : Fin 4) (k : Fin 256) (ch : Fin 32) (data fail : Word) (cap ppr : BitVec 8) (s : State), s.up = true → s.Inv →
    (∀ n, ∃ u, exec (.vatScrub c n) s = .next u ∧ u.fld .VAT_ERRc [c.val] 31 16 = min (s.fld .VAT_ERRc [c.val] 31 16 + n) 65535 ∧
      u.fld .VAT_ERRc [c.val] 7 0 = (if s.fab.scrub.get 0 c.val + 1 < 32768 then s.fld .VAT_ERRc [c.val] 7 0 else (s.fld .VAT_ERRc [c.val] 7 0 + 1) % 256) ∧
      u.fab.scrub.get 0 c.val = (if s.fab.scrub.get 0 c.val + 1 < 32768 then s.fab.scrub.get 0 c.val + 1 else 0) ∧
      u.mgt.inflight.length = s.mgt.inflight.length + n ∧ u.mem = s.mem ∧ u.tiles = s.tiles ∧ ∀ a, a ≠ Reg.adr .VAT_ERRc [c.val] → u.rg a = s.rg a) ∧
    (s.takes ini .LPX_GCTRL [] (putBits data.toNat 0 0 1) →
      (s.flag .LPX_GSTAT [] 1 = true → ∃ u, exec (.lpxInit ini data) s = .next u ∧ OnlyRegs s u [Reg.adr .LPX_GCTRL []]) ∧
      (s.flag .LPX_GSTAT [] 1 = false →
        ∃ u, exec (.lpxInit ini data) s = .next u ∧ u.reg .LPX_GSTAT [] = 2 ∧ u.fab.lpxEn = s.reg .LPX_CHEN [] ∧ u.lpxSize = 0 ∧
          (∀ i, i < s.lpxSize → u.mem.rd (lpxBase + i) = 0) ∧ SameOutside s u lpxBase s.lpxSize ∧ u.tiles = s.tiles)) ∧
    (s.flag .LPX_GSTAT [] 1 = false → exec (.lpxInitDone fail cap ppr) s = .next s) ∧
    (s.flag .LPX_GSTAT [] 1 = true → s.fab.lpxEn < 2 ^ 32 →
      ∃ u, exec (.lpxInitDone fail cap ppr) s = .next u ∧ u.mem = s.mem ∧ u.tiles = s.tiles ∧ u.flag .LPX_GSTAT [] 1 = false ∧
        (s.fab.lpxEn ≠ 0 → Nat.land s.fab.lpxEn fail.toNat = 0 →
          u.flag .LPX_GSTAT [] 0 = true ∧ u.fld .LPX_GSTAT [] 13 8 = popCount s.fab.lpxEn ∧ u.fld .LPX_GSTAT [] 23 16 = cap.toNat) ∧
        (s.fab.lpxEn = 0 ∨ Nat.land s.fab.lpxEn fail.toNat ≠ 0 →
          u.flag .LPX_GSTAT [] 0 = false ∧ u.flag .LPX_GSTAT [] 2 = true ∧ u.reg .LPX_CHFAIL [] = Nat.land s.fab.lpxEn fail.toNat) ∧
        ∀ x, x < 8 → s.flag .LPX_PPRk [x] 31 = true → u.flag .LPX_PPRk [x] 31 = false ∧ u.flag .LPX_PPRk [x] 29 = !ppr.getLsbD x ∧
          u.flag .LPX_PPRk [x] 28 = ppr.getLsbD x) ∧
    (∀ quiet, s.flag .LPX_GSTAT [] 0 = false ∨ s.fab.lpxEn.testBit ch.val = false → exec (.refreshTick ch quiet) s = .next s) ∧
    (s.flag .LPX_GSTAT [] 0 = true → s.fab.lpxEn.testBit ch.val = true →
      (s.flag .LPX_REFk [ch.val / 4] 0 = true →
        (∃ u, exec (.refreshTick ch true) s = .next u ∧ u.refDebt ch.val = max (s.refDebt ch.val - 1) (if s.fab.lpxFast then 4 else 8) ∧ u.mem = s.mem ∧
          (∀ x, x ≠ ch.val → u.refDebt x = s.refDebt x) ∧
          u.fld .LPX_REFk [ch.val / 4] 31 16 = min (s.fld .LPX_REFk [ch.val / 4] 31 16 + ((if s.fab.lpxFast then 4 else 8) - (s.refDebt ch.val - 1)).toNat) 65535) ∧
        (∃ u, exec (.refreshTick ch false) s = .next u ∧ u.refDebt ch.val = max (s.refDebt ch.val - 1) (-8) ∧ u = { s with fab := u.fab })) ∧
      (∀ quiet, s.flag .LPX_REFk [ch.val / 4] 0 = false →
        ∃ u, exec (.refreshTick ch quiet) s = .next u ∧ u.refDebt ch.val = max (s.refDebt ch.val - 1) (-8) ∧ u.mem = s.mem ∧
          u.fld .LPX_REFk [ch.val / 4] 15 8 = (if s.refDebt ch.val - 1 < -8 then min (s.fld .LPX_REFk [ch.val / 4] 15 8 + 1) 255 else s.fld .LPX_REFk [ch.val / 4] 15 8))) ∧
    (s.takes ini .MMU_INV_CTL [] (putBits data.toNat 31 31 1) →
      (s.fab.inv = true → ∃ u, exec (.mmuInv ini data) s = .next u ∧ OnlyRegs s u [Reg.adr .MMU_INV_CTL []]) ∧
      (s.fab.inv = false → ∃ u, exec (.mmuInv ini data) s = .next u ∧ u.fab = { s.fab with inv := true } ∧ u.mem = s.mem ∧
        ∀ x e, e ∈ (u.tile x).tlb ↔ e ∈ (s.tile x).tlb ∧ (e.mctx ≠ bits data.toNat 21 16 ∨ (data.toNat.testBit 15 = false ∧
          (s.reg .MMU_INV_VA [] * 65536 + max 1 (min 4096 (bits data.toNat 12 0)) * 65536 ≤ e.va ∨ e.va + e.size ≤ s.reg .MMU_INV_VA [] * 65536))))) ∧
    exec .mmuInvDone s = .next { s with fab := { s.fab with inv := false } } ∧
    (s.takes ini .VAT_RPRc_k [c.val, k.val] (putBits data.toNat 31 31 1) →
      ∃ u, exec (.vatRepair ini c k data) s = .next u ∧ OnlyRegs s u [Reg.adr .VAT_RPRc_k [c.val, k.val]] ∧ u.flag .VAT_RPRc_k [c.val, k.val] 31 = true ∧
        u.flag .VAT_RPRc_k [c.val, k.val] 30 = s.flag .VAT_RPRc_k [c.val, k.val] 30 ∧
        u.fld .VAT_RPRc_k [c.val, k.val] 5 0 = (if s.flag .VAT_RPRc_k [c.val, k.val] 31 then s.fld .VAT_RPRc_k [c.val, k.val] 5 0 else bits data.toNat 5 0)) ∧
    (s.flag .VAT_RPRc_k [c.val, k.val] 31 = false ∨ s.flag .VAT_RPRc_k [c.val, k.val] 30 = true → exec (.vatRepairDone c k) s = .next s) ∧
    (s.flag .VAT_RPRc_k [c.val, k.val] 31 = true → s.flag .VAT_RPRc_k [c.val, k.val] 30 = false →
      ∃ u g, exec (.vatRepairDone c k) s = .next u ∧ u.flag .VAT_RPRc_k [c.val, k.val] 30 = true ∧ u.mgt.inflight = s.mgt.inflight ++ [g] ∧ g.cls = 12 ∧ g.code = 2 ∧
        u.mem = s.mem ∧ ∀ a, a ≠ Reg.adr .VAT_RPRc_k [c.val, k.val] → u.rg a = s.rg a)

/-- R33, R169, R298, R299, R303, R315, R317, R365: a memory write of an initiator that lies in one memory. Denied, it changes no byte and is recorded; in vat or LPDDR5X it stores its bytes, unless a write-blocked
region meets it; at a closed scratchpad aperture it is dropped; in an SRAM it stores its bytes outside the locked range. The oldest walk of a tile or a codec leaves its queue with its
translation, or its failure is logged. -/
def Obligations.InitiatorWritesAndWalks : Prop :=
  ∀ (ini : Initiator) (a : PAddr) (bs : List Byte) (s : State), s.up = true → s.Inv →
    exec (.initiatorMemoryWrite ini a []) s = .next s ∧
    (bs ≠ [] → s.region a.toNat ≠ .control → s.region a.toNat ≠ .none → (∀ i, i < bs.length → s.region (a.toNat + i) = s.region a.toNat) →
      (s.permits ini a.toNat bs.length true = false →
        ∃ u g, exec (.initiatorMemoryWrite ini a bs) s = .next u ∧ u = { s with mgt := { s.mgt with inflight := s.mgt.inflight ++ [g] } } ∧ g.cls = 0 ∧ g.code = 3) ∧
      (s.permits ini a.toNat bs.length true = true → s.sleeping a.toNat = none →
        ((s.region a.toNat).isVatOrLpx = true → s.blockedBy a.toNat bs.length = none →
          ∃ u, exec (.initiatorMemoryWrite ini a bs) s = .next u ∧ u.mem = s.mem.wrBytes a.toNat bs ∧ u = { s with mem := u.mem, poison := u.poison }) ∧
        (∀ q, (s.region a.toNat).isVatOrLpx = true → s.blockedBy a.toNat bs.length = some q → q < 64 →
          ∃ u, exec (.initiatorMemoryWrite ini a bs) s = .next u ∧ u.mem = s.mem ∧
            u.fld .FAB_SEALr_CNT [q] 15 0 = min (s.fld .FAB_SEALr_CNT [q] 15 0 + 1) 65535) ∧
        (∀ t, s.region a.toNat = .spad t →
          (s.apertureOpen t = true →
            ∃ u, exec (.initiatorMemoryWrite ini a bs) s = .next u ∧ u.mem = s.mem.wrBytes a.toNat bs ∧ u = { s with mem := u.mem }) ∧
          (s.apertureOpen t = false → exec (.initiatorMemoryWrite ini a bs) s = .next s)) ∧
        ((s.region a.toNat).isVatOrLpx = false → (∀ t, s.region a.toNat ≠ .spad t) →
          (s.meetsLock a.toNat = true →
            ∃ u g, exec (.initiatorMemoryWrite ini a bs) s = .next u ∧ u = { s with mgt := { s.mgt with inflight := s.mgt.inflight ++ [g] } } ∧ g.cls = 0 ∧ g.code = 3) ∧
          (s.meetsLock a.toNat = false →
            ∃ u, exec (.initiatorMemoryWrite ini a bs) s = .next u ∧ u.mem = s.mem.wrBytes a.toNat bs ∧ u = { s with mem := u.mem, poison := u.poison })))) ∧
    (∀ t : TileId, (s.tile t.val).walks = [] → ∀ ecc, exec (.mmuWalk (.tile t) ecc) s = .next s) ∧
    (∀ (t : TileId) w rest, (s.tile t.val).walks = w :: rest →
      (∀ e, s.walk w.mctx w.va false = .ok e →
        ∃ u, exec (.mmuWalk (.tile t) .clean) s = .next u ∧ OnlyTile s u t.val ∧
          u.tile t.val = { s.tile t.val with walks := rest, tlb := fillTlb (s.tile t.val).tlb e }) ∧
      (∀ kind, s.walk w.mctx w.va false = .bad kind →
        ∃ u, exec (.mmuWalk (.tile t) .clean) s = .next u ∧ (u.tile t.val).walks = rest ∧ (u.tile t.val).tlb = (s.tile t.val).tlb ∧
          u.flag .MMU_FLOG_HI [] 31 = true ∧ u.mem = s.mem ∧ ∀ x, x ≠ t.val → u.tile x = s.tile x)) ∧
    (∀ (k : Fin 3) j p rest, (s.codec k.val).run = some j → j.walks = p :: rest →
      (∀ e, s.walk (s.codMctx k.val) (p * 65536) false = .ok e →
        ∃ u, exec (.mmuWalk (.codec k) .clean) s = .next u ∧ u = { s with cod := u.cod } ∧
          u.codec k.val = { s.codec k.val with run := some { j with walks := rest }, tlb := fillTlb (s.codec k.val).tlb e }) ∧
      (∀ kind, s.walk (s.codMctx k.val) (p * 65536) false = .bad kind →
        ∃ u, exec (.mmuWalk (.codec k) .clean) s = .next u ∧ (u.codec k.val).run = some { j with walks := rest, xlat := true } ∧
          u.flag .MMU_FLOG_HI [] 31 = true ∧ u.mem = s.mem))

/-- R317, R318, R322, R326: RST stops a scheduler core, drops what its firmware held, clears LOCK and starts the brine of its SRAM; LOCK takes the length once; START begins the check of
the locked range unless the core runs, is checked or is brined; a check that passes starts the core with its parameter block, any other sets BADSIG. A scan that was asked for is spent, and takes
the entry that a queue of this core has posted. -/
def Obligations.SchedulerCoresAndScans : Prop :=
  ∀ (ini : Initiator) (c : Fin 4) (lock4k : BitVec 7) (s : State), s.up = true → s.Inv → s.fw.cores.wf = true →
    (s.takes ini .SCH_CTRL [c.val] (s.rwPart .SCH_CTRL [c.val] + 1) →
      ∃ u, exec (.schRst ini c) s = .next u ∧ u.flag .SCH_CTRL [c.val] 2 = false ∧ u.flag .SCH_STATUS [c.val] 3 = true ∧ u.fld .SCH_STATUS [c.val] 1 0 = 0 ∧
        u.fw.cores.find c.val = none ∧ (∀ j, j ∈ u.fw.jobs ↔ j ∈ s.fw.jobs ∧ j.core ≠ c.val) ∧ u = { s with regs := u.regs, fw := u.fw } ∧
        ∀ a, a ≠ Reg.adr .SCH_CTRL [c.val] → a ≠ Reg.adr .SCH_STATUS [c.val] → u.rg a = s.rg a) ∧
    (s.flag .SCH_STATUS [c.val] 3 = false → exec (.schBrineDone c) s = .next s) ∧
    (s.flag .SCH_STATUS [c.val] 3 = true →
      ∃ u, exec (.schBrineDone c) s = .next u ∧ u.flag .SCH_STATUS [c.val] 3 = false ∧ (∀ i, i < 0x40000 → u.mem.rd (schBase c.val + i) = 0) ∧
        SameOutside s u (schBase c.val) 0x40000 ∧ u = { s with mem := u.mem, regs := u.regs }) ∧
    (s.takes ini .SCH_CTRL [c.val] (lock4k.toNat * 256 + 4) →
      ∃ u, exec (.schLock ini c lock4k) s = .next u ∧ OnlyRegs s u [Reg.adr .SCH_CTRL [c.val]] ∧ u.flag .SCH_CTRL [c.val] 2 = true ∧
        u.fld .SCH_CTRL [c.val] 14 8 = (if s.flag .SCH_CTRL [c.val] 2 then s.fld .SCH_CTRL [c.val] 14 8 else lock4k.toNat)) ∧
    (s.takes ini .SCH_CTRL [c.val] (s.rwPart .SCH_CTRL [c.val] + 8) →
      ∃ u, exec (.schStart ini c) s = .next u ∧ OnlyRegs s u [Reg.adr .SCH_CTRL [c.val], Reg.adr .SCH_STATUS [c.val]] ∧
        u.flag .SCH_STATUS [c.val] 0 = s.flag .SCH_STATUS [c.val] 0 ∧
        u.flag .SCH_STATUS [c.val] 1 = (s.flag .SCH_STATUS [c.val] 1 ||
          (s.flag .SCH_CTRL [c.val] 2 && decide (s.fld .SCH_STATUS [c.val] 1 0 = 0) && !s.flag .SCH_STATUS [c.val] 3))) ∧
    (s.flag .SCH_STATUS [c.val] 1 = false → exec (.schCheckDone c) s = .next s) ∧
    (s.flag .SCH_STATUS [c.val] 1 = true →
      (∀ img, (s.runCheck 4 (schBase c.val) (s.schLocked c.val) true).1 = some (true, img) →
        ∃ u k, exec (.schCheckDone c) s = .next u ∧ u.fld .SCH_STATUS [c.val] 1 0 = 1 ∧ u.fw.cores.find c.val = some k ∧
          k.valid = decide (s.mem.rdLE (schBase c.val + 0x3FF00) 4 = 1) ∧ k.rtab = s.mem.rdLE (schBase c.val + 0x3FF08) 8 ∧ u.fw.jobs = s.fw.jobs) ∧
      ((s.runCheck 4 (schBase c.val) (s.schLocked c.val) true).1.map (·.1) ≠ some true →
        ∃ u, exec (.schCheckDone c) s = .next u ∧ u.flag .SCH_STATUS [c.val] 1 = false ∧ u.flag .SCH_STATUS [c.val] 2 = true ∧ u.mem = s.mem ∧ u.fw = s.fw)) ∧
    ((∀ cause, SchEv.scan c.val cause ∉ s.events) → exec (.schedulerScan c) s = .next s) ∧
    (∀ cause rest, s.events = .scan c.val cause :: rest →
      (s.fwRuns c.val = false → exec (.schedulerScan c) s = .next { s with events := rest }) ∧
      (∀ k q g a, s.fw.cores.find c.val = some k → k.valid = true → k.logOk = false →
        (upTo 256).filter (fun x => (s.ring k.rtab x).en && (s.ring k.rtab x).home == c.val) = [q] → g = s.ring k.rtab q → g.sound = true → g.head ≠ 0 → g.pick = 1 →
        a = g.sring + 128 * (g.head % 2 ^ g.slog) → (a + 128 ≤ k.rtab + 64 * q + 24 ∨ k.rtab + 64 * q + 28 ≤ a) →
        (s.schRd a 4 ≠ (g.head + 1) % 2 ^ 32 →
          ∃ u, exec (.schedulerScan c) s = .next u ∧ u.events = rest ∧ u.fw.jobs = s.fw.jobs ∧ u.mem = s.mem ∧ u.tiles = s.tiles ∧ u.regs = s.regs) ∧
        (s.schRd a 4 = (g.head + 1) % 2 ^ 32 → s.schRd (a + 4) 1 = 2 →
          ∃ u j, exec (.schedulerScan c) s = .next u ∧ u.events = rest ∧ u.fw.jobs = s.fw.jobs ++ [j] ∧ j.q = q ∧ j.core = c.val ∧ j.seq = (g.head + 1) % 2 ^ 32 ∧
            j.fence = true ∧ j.tag = s.schRd (a + 6) 2 ∧ j.st = .taken ∧ u.tiles = s.tiles)))

/-- R69, R120, R327 to R332: the firmware of a running core admits a queue's first job that is not admitted: a fence once it is the oldest of its queue, a job with a JID that nothing carries, on tiles
that carry none; a job that must wait stays. A released job's contexts are started. A job all of whose contexts are HALTED is reported once, leaves the deadline
store, and completes: its record is counted, its output is published, its JID is killed. A fault, a kill or a miss ends a job in the same way. -/
def Obligations.JobsOfTheFirmware : Prop :=
  ∀ (c : Fin 4) (q : Fin 256) (jid : BitVec 8) (s : State), s.up = true → s.Inv → s.hoopsSound →
    ((s.fw.jobs.find? (fun j => j.q == q.val && (j.st == .taken || j.st == .loading)) = none) → exec (.jobAdmit q) s = .next s) ∧
    (∀ j, s.fw.jobs.find? (fun j => j.q == q.val && (j.st == .taken || j.st == .loading)) = some j →
      (s.fwRuns j.core = false → exec (.jobAdmit q) s = .next s) ∧
      (s.fwRuns j.core = true → j.st = .taken → (∀ e ∈ j.ents, e.gtile < 128 ∧ e.ctx < 4 ∧ s.clusterRuns (e.gtile / 32) = true) →
        (j.fence = true → s.fw.jobs.find? (fun i => i.q == q.val) = some j →
          ∃ u, exec (.jobAdmit q) s = .next u ∧ u.fw.jobs = s.fw.jobs.filter (fun i => i.q ≠ j.q ∨ i.seq ≠ j.seq) ∧ (u.fwQueue q.val).n = (s.fwQueue q.val).n + 1) ∧
        (j.fence = false → (∃ i ∈ s.fw.jobs, i.q = q.val ∧ i.fence = true ∧ i.seq < j.seq) → exec (.jobAdmit q) s = .next s) ∧
        (j.fence = false → (∀ i ∈ s.fw.jobs, i.q = q.val → i.fence = true → j.seq ≤ i.seq) →
          (∀ why, s.waitsFor j = some why → j.traced = true → exec (.jobAdmit q) s = .next s) ∧
          (∀ why, s.waitsFor j = some why → j.traced = false →
            ∃ u, exec (.jobAdmit q) s = .next u ∧ u.tiles = s.tiles ∧
              u.fw.jobs = updFirst (fun i => i.q == j.q && i.seq == j.seq) (fun i => { i with traced := true }) s.fw.jobs) ∧
          (s.waitsFor j = none → (∀ e ∈ j.ents, s.physG e.gtile < 136 ∧ (s.tile (s.physG e.gtile)).ready = true ∧ s.fwAllows .sch (Reg.adr .TILE_JOB (tix (s.physG e.gtile))) 4 true = true) →
            ∃ u x, exec (.jobAdmit q) s = .next u ∧ x ∈ s.freeJids ∧ ∀ e ∈ j.ents, u.jobOf (s.physG e.gtile) = some x)))) ∧
    (s.fwRuns c.val = false ∨ (∀ j ∈ s.fw.jobs, ¬ (j.q = q.val ∧ j.st = .released ∧ j.launch.contains c.val = true)) → exec (.jobLaunch c q) s = .next s) ∧
    (∀ j e t, s.fwRuns c.val = true → s.clusterRuns c.val = true → s.fw.jobs.filter (fun j => j.q == q.val && j.st == .released && j.launch.contains c.val) = [j] →
      j.ents.filter (fun e => e.gtile / 32 == c.val) = [e] → e.gtile < 128 → e.ctx < 4 → t = s.physG e.gtile → (s.tile t).ready = true → (s.tile t).killed = false →
      s.fwAllows .sch (Reg.adr .TILE_CTXk_CMD (tix t ++ [e.ctx])) 4 true = true → (s.ctxOf t e.ctx).st = .idle →
      ∃ u, exec (.jobLaunch c q) s = .next u ∧ (u.ctxOf t e.ctx).st = .ready ∧
        (s.fwAllows .sch (Reg.adr .TILE_CTXk_ENTRY_HI (tix t ++ [e.ctx])) 4 true = true → (u.ctxOf t e.ctx).pc = e.va % 2 ^ 48 / 8 * 8) ∧
        ∀ x y, x ≠ t ∨ y ≠ e.ctx → u.ctxOf x y = s.ctxOf x y) ∧
    (s.jobOfJid jid.toNat = none → exec (.jobCompletionReport jid) s = .next s ∧ exec (.jobComplete jid) s = .next s ∧ ∀ cause, exec (.jobEnd jid cause) s = .next s) ∧
    (∀ j, s.jobOfJid jid.toNat = some j →
      (j.st ≠ .released ∨ j.launch ≠ [] ∨ j.done.isSome = true ∨ j.miss.isSome = true ∨ j.killed = true ∨ s.allHalted j = false →
        exec (.jobCompletionReport jid) s = .next s ∧ (j.done = none → exec (.jobComplete jid) s = .next s)) ∧
      (j.st = .released → j.launch = [] → j.done = none → j.miss = none → j.killed = false → s.allHalted j = true →
        (∃ u l, exec (.jobCompletionReport jid) s = .next u ∧ u = { s with swp := { s.swp with store := u.swp.store }, fw := { s.fw with jobs := u.fw.jobs } } ∧
          u.fw.jobs = updFirst (fun i => i.q == j.q && i.seq == j.seq) (fun i => { i with done := some l }) s.fw.jobs ∧
          (∀ d, d ∈ u.swp.store ↔ d ∈ s.swp.store ∧ d.jid ≠ jid.toNat) ∧ ((∀ d ∈ s.swp.store, d.jid = jid.toNat → d.missed = false) → l = 0)) ∧
        (s.fwRuns j.core = true → s.fw.jobs = [j] →
          ∃ u, exec (.jobComplete jid) s = .next u ∧ u.fw.jobs = [] ∧ u.published j.q j.tag = some (j.out, j.rel.1) ∧ (u.fwQueue j.q).n = (s.fwQueue j.q).n + 1 ∧
            (∀ d ∈ u.swp.store, d.jid ≠ jid.toNat) ∧
            (s.fwAllows .sch (Reg.adr .FAB_KILL []) 4 true = true → jid.toNat ∈ u.fab.killPend ∨ s.fab.kill.map (·.jid) = some jid.toNat))) ∧
      (s.fwRuns j.core = false → ∀ cause, exec (.jobEnd jid cause) s = .next s) ∧
      (s.firstFault j = none → exec (.jobEnd jid .fault) s = .next s) ∧ (j.killed = false → exec (.jobEnd jid .killEntry) s = .next s) ∧
      (j.miss = none → exec (.jobEnd jid .miss) s = .next s) ∧
      (∀ cause, s.fwRuns j.core = true →
        (cause = .fault ∧ s.firstFault j ≠ none) ∨ (cause = .killEntry ∧ j.killed = true) ∨ (cause = .miss ∧ j.miss ≠ none) →
        ∃ u, exec (.jobEnd jid cause) s = .next u ∧ (∀ i, i ∈ u.fw.jobs ↔ i ∈ s.fw.jobs ∧ (i.q ≠ j.q ∨ i.seq ≠ j.seq)) ∧
          (∀ d ∈ u.swp.store, d.jid ≠ j.jid) ∧ (u.fwQueue j.q).n = (s.fwQueue j.q).n + 1 ∧
          (s.fwAllows .sch (Reg.adr .FAB_KILL []) 4 true = true → jid.toNat ∈ u.fab.killPend ∨ s.fab.kill.map (·.jid) = some jid.toNat)))

/-- R335 to R338, R340 to R344, R410: a frame without a link or above 9,018 bytes is dropped, one that the receive buffer cannot hold is counted, one that fails MACsec is counted, a VWP
datagram that breaks R343 is counted, and a sound one waits with its peer. A port that is enabled takes a link, and a lost one is signalled. The timebase reaches SYNC on the 16th small
offset in a row, leaves it on a large one or a loss, and steps once to the first large offset of HOLDOVER. Gates advance through the list or start it again; a list whose time has come is in force. -/
def Obligations.EthernetAndVehicleTime : Prop :=
  ∀ (p : Fin 3) (i : Fin 256) (off : Int) (s : State), s.up = true → s.Inv →
    (∀ f, s.ethLink p.val = false ∨ 9018 < f.len → exec (.ethFrameRx p f) s = .next s) ∧
    (∀ f, s.ethLink p.val = true → f.len ≤ 9018 →
      (262144 < s.rxBytes p.val + f.len →
        ∃ u, exec (.ethFrameRx p f) s = .next u ∧ u.fld .NET_PORTp_STAT [p.val] 31 16 = min (s.fld .NET_PORTp_STAT [p.val] 31 16 + 1) 65535 ∧
          OnlyRegs s u [Reg.adr .NET_PORTp_STAT [p.val]]) ∧
      (s.rxBytes p.val + f.len ≤ 262144 → s.flag .NET_PORTp_CFG [p.val] 5 = true → f.macsec = .failed →
        ∃ u, exec (.ethFrameRx p f) s = .next u ∧ u.fld .NET_PORTp_STAT [p.val] 15 8 = min (s.fld .NET_PORTp_STAT [p.val] 15 8 + 1) 255 ∧
          OnlyRegs s u [Reg.adr .NET_PORTp_STAT [p.val]]) ∧
      (∀ src dport payload, s.rxBytes p.val + f.len ≤ 262144 → s.flag .NET_PORTp_CFG [p.val] 5 = false → f.macsec = .unprotected →
        f.body = .udp src dport false true payload → s.flag .NET_VWP_CFG [] 0 = true → dport.toNat = s.fld .NET_VWP_CFG [] 31 16 →
        (vwpSound payload = false →
          ∃ u, exec (.ethFrameRx p f) s = .next u ∧ u.fld .NET_VWP_STAT [] 31 16 = min (s.fld .NET_VWP_STAT [] 31 16 + 1) 65535 ∧
            OnlyRegs s u [Reg.adr .NET_VWP_STAT []]) ∧
        (vwpSound payload = true → vwpOp payload ≠ 4 → (∀ j, s.peerOf src false = some j → s.flag .NET_PEERi_CFG [j] 5 = false) →
          exec (.ethFrameRx p f) s = .next { s with net := { s.net with rx := s.net.rx ++ [RxMsg.mk p.val f.len (s.peerOf src false) payload] } }))) ∧
    (s.flag .NET_PORTp_CFG [p.val] 0 = true →
      ∃ u, exec (.ethLinkChange p true) s = .next u ∧ u.ethLink p.val = true ∧ OnlyRegs s u [Reg.adr .NET_PORTp_STAT [p.val]]) ∧
    (s.flag .NET_PORTp_CFG [p.val] 0 = false → exec (.ethLinkChange p true) s = .next s) ∧
    (s.ethLink p.val = false → exec (.ethLinkChange p false) s = .next s) ∧
    (s.ethLink p.val = true →
      ∃ u g, exec (.ethLinkChange p false) s = .next u ∧ u.ethLink p.val = false ∧ u.mgt.inflight = s.mgt.inflight ++ [g] ∧ g.cls = 8 ∧ g.code = 1 ∧
        u.mem = s.mem ∧ ∀ a, a ≠ Reg.adr .NET_PORTp_STAT [p.val] → u.rg a = s.rg a) ∧
    (s.net.tb = .disabled → exec (.gptpSync off) s = .next s) ∧
    (s.net.tb ≠ .disabled → 0 ≤ off → off ≤ 32767 → ∃ u, exec (.gptpSync off) s = .next u ∧ u.fld .NET_TSTAT [] 31 16 = off.toNat ∧ u.mem = s.mem ∧ u.tiles = s.tiles) ∧
    (s.net.tb = .acquire →
      ∃ u, exec (.gptpSync off) s = .next u ∧ (off.natAbs ≤ 100 → 15 ≤ s.net.goods → u.net.tb = .sync) ∧
        (off.natAbs ≤ 100 → s.net.goods < 15 → u.net.tb = .acquire ∧ u.net.goods = s.net.goods + 1) ∧ (100 < off.natAbs → u.net.tb = .acquire ∧ u.net.goods = 0)) ∧
    (s.net.tb = .sync →
      (∃ u, exec (.gptpSync off) s = .next u ∧ (1000 < off.natAbs → u.net.tb = .holdover ∧ u.net.time = s.net.time) ∧
        (off.natAbs ≤ 1000 → u.net.tb = .sync ∧ s.net.time ≤ u.net.time + off.natAbs ∧ u.net.time ≤ s.net.time + off.natAbs)) ∧
      ∃ u, exec .gptpSyncLoss s = .next u ∧ u.net.tb = .holdover ∧ u.net.first = true ∧ u.net.time = s.net.time ∧ u.mem = s.mem ∧ u.tiles = s.tiles) ∧
    (s.net.tb ≠ .sync → exec .gptpSyncLoss s = .next s) ∧
    (s.net.tb = .holdover → s.net.first = true → 1000 < off.natAbs →
      ∃ u, exec (.gptpSync off) s = .next u ∧ u.net.tb = .holdover ∧ u.net.first = false ∧ u.net.time = ((s.net.time : Int) + off).toNat) ∧
    (s.flag .NET_QBVp_CTRL [p.val] 0 = false → exec (.gateInterval p) s = .next s) ∧
    (s.flag .NET_QBVp_CTRL [p.val] 0 = true →
      ∃ u, exec (.gateInterval p) s = .next u ∧ u = { s with net := { s.net with qbv := u.net.qbv } } ∧ (∀ x, x ≠ p.val → u.qbv x = s.qbv x) ∧
        u.qbv p.val = { s.qbv p.val with
          idx := if (s.qbv p.val).idx + 1 < (s.qbv p.val).oper.ents.length ∧ (((s.qbv p.val).oper.ents.take ((s.qbv p.val).idx + 1)).map (·.2)).sum < (s.qbv p.val).oper.cycle
            then (s.qbv p.val).idx + 1 else 0 }) ∧
    ((s.qbv p.val).adm = none → exec (.gateListChange p) s = .next s) ∧
    (∀ g t, (s.qbv p.val).adm = some (g, t) →
      (s.net.time < t → exec (.gateListChange p) s = .next s) ∧
      (t ≤ s.net.time → ∃ u, exec (.gateListChange p) s = .next u ∧ u = { s with net := { s.net with qbv := u.net.qbv } } ∧ u.qbv p.val = ⟨g, 0, none⟩ ∧
        ∀ x, x ≠ p.val → u.qbv x = s.qbv x)) ∧
    (s.flag .NET_PEERi_CFG [i.val] 5 = false → exec (.cbRecoveryReset i) s = .next s) ∧
    (s.flag .NET_PEERi_CFG [i.val] 5 = true →
      ∃ u, exec (.cbRecoveryReset i) s = .next u ∧ u.recovOf i.val = .zero ∧ u = { s with net := { s.net with recov := u.net.recov } } ∧
        ∀ x, x ≠ i.val → u.recovOf x = s.recovOf x)

/-- R173, R344, R347 to R349: the oldest WRITE acts as a message to its window, the oldest READ as a read of it, and its reply carries the bytes or the reason; while the outputs are gated the reply waits. A
PCIe access acts on the window that its address names, while the link is up, windows are enabled and link IDE holds; an IDE failure is signalled and ends the stream. A management step of a
permitted peer is the island's own user-mode access. -/
def Obligations.WindowAccessesFromOutside : Prop :=
  ∀ (peer : Option (Fin 256)) (payload : List Byte) (w : Fin 256) (rid : BitVec 16) (addr : DWord) (data : List Byte) (len : Nat) (s : State), s.up = true → s.Inv →
    (s.net.rx = [] → exec (.vwpWrite peer payload) s = .next s ∧ exec (.vwpRead peer payload) s = .next s) ∧
    (∀ m rest, s.net.rx = m :: rest → vwpOp m.payload = 1 ∨ vwpOp m.payload = 2 →
      (m.payload ≠ payload ∨ m.peer ≠ peer.map (·.val) → exec (.vwpWrite peer payload) s = .next s ∧ exec (.vwpRead peer payload) s = .next s) ∧
      (m.payload = payload → m.peer = peer.map (·.val) → w.val = vwpWin payload →
        (vwpOp payload = 1 → exec (.vwpRead peer payload) s = .next s ∧
          ∃ u, exec (.vwpWrite peer payload) s = .next u ∧
            exec (.windowMessage w peer (vwpOffset payload) (vwpData payload)) { s with net := { s.net with rx := rest } } = .next u) ∧
        (vwpOp payload = 2 → exec (.vwpWrite peer payload) s = .next s ∧
          (s.readWaits w.val peer (vwpOffset payload) (vwpLen payload) ≠ none → ∃ u, exec (.vwpRead peer payload) s = .next u ∧ u.net = s.net ∧ u.mem = s.mem) ∧
          (s.readWaits w.val peer (vwpOffset payload) (vwpLen payload) = none →
            ∃ u v r, exec (.vwpRead peer payload) s = .next u ∧
              exec (.windowRead w peer (vwpOffset payload) (vwpLen payload)) { s with net := { s.net with rx := rest } } = .next v ∧
              (v.gateOpen = true → u = { v with net := { v.net with lastReply := r } }) ∧
              (v.gateOpen = false → u = { v with net := { v.net with replies := v.net.replies ++ [r] } }) ∧
              (s.windowReadValue w.val peer (vwpOffset payload) (vwpLen payload) = .dropped → r = vwpReply payload 4 1 []) ∧
              (s.windowReadValue w.val peer (vwpOffset payload) (vwpLen payload) = .refused → r = vwpReply payload 4 2 []) ∧
              (∀ bs, s.windowReadValue w.val peer (vwpOffset payload) (vwpLen payload) = .data bs → r = vwpReply payload 3 0 bs))))) ∧
    (∀ ide, s.pcieLink = false → exec (.pcieWrite rid addr ide data) s = .next s ∧ exec (.pcieRead rid addr ide len) s = .next s) ∧
    (∀ ide, s.pcieLink = true → s.flag .PCI_CTRL [] 2 = false ∨ (s.net.insecure = false ∧ ide = true) →
      (s.flag .NET_VWP_CFG [] 1 = false ∨ 2 ^ 40 ≤ addr.toNat →
        exec (.pcieWrite rid addr ide data) s = .next s ∧ exec (.pcieRead rid addr ide len) s = .next { s with net := { s.net with cpl := none } }) ∧
      (s.flag .NET_VWP_CFG [] 1 = true → w.val = addr.toNat / 2 ^ 32 →
        (∃ u, exec (.pcieWrite rid addr ide data) s = .next u ∧ exec (.windowMessage w (s.pciePeer rid.toNat) (addr.toNat % 2 ^ 32) data) s = .next u) ∧
        (s.readWaits w.val (s.pciePeer rid.toNat) (addr.toNat % 2 ^ 32) len = none →
          ∃ u v, exec (.pcieRead rid addr ide len) s = .next u ∧ exec (.windowRead w (s.pciePeer rid.toNat) (addr.toNat % 2 ^ 32) len) s = .next v ∧
            u = { v with net := { v.net with cpl := u.net.cpl } } ∧
            (∀ bs, s.windowReadValue w.val (s.pciePeer rid.toNat) (addr.toNat % 2 ^ 32) len = .data bs → u.net.cpl = some bs) ∧
            ((∀ bs, s.windowReadValue w.val (s.pciePeer rid.toNat) (addr.toNat % 2 ^ 32) len ≠ .data bs) → u.net.cpl = none)))) ∧
    (s.pcieLink = true → s.flag .PCI_CTRL [] 2 = true → s.net.insecure = false →
      ∃ u g, exec (.pcieWrite rid addr false data) s = .next u ∧ exec (.pcieRead rid addr false len) s = .next u ∧ u.net.insecure = true ∧
        u.flag .PCI_STAT [] 8 = true ∧ u.mgt.inflight = s.mgt.inflight ++ [g] ∧ g.cls = 8 ∧ g.code = 3 ∧ u.mem = s.mem ∧ u.tiles = s.tiles) ∧
    (∀ ide, s.pcieLink = true → s.flag .PCI_CTRL [] 2 = true → s.net.insecure = true →
      exec (.pcieWrite rid addr ide data) s = .next s ∧ exec (.pcieRead rid addr ide len) s = .next s) ∧
    (∀ req secure, peer = none ∨ secure = false ∨ s.sec.island = none ∨ (∀ x, peer = some x → s.flag .NET_PEERi_CFG [x.val] 6 = false) →
      exec (.mgmtRequest peer secure req) s = .next s) ∧
    (∀ x a d bs, peer = some x → s.sec.island ≠ none → s.peerValid x.val = true → s.flag .NET_PEERi_CFG [x.val] 6 = true →
      (∃ u, exec (.mgmtRequest peer true (.regWrite a d)) s = .next u ∧ exec (.registerWrite ⟨.mgs, 0xA8⟩ a 32 d) s = .next u) ∧
      (∀ v, s.region a.toNat = .vat v →
        ∃ u, exec (.mgmtRequest peer true (.stage a bs)) s = .next u ∧ exec (.initiatorMemoryWrite ⟨.mgs, 0xA8⟩ a bs) s = .next u) ∧
      ((∀ v, s.region a.toNat ≠ .vat v) → exec (.mgmtRequest peer true (.stage a bs)) s = .next s))

/-- R345 to R347, R410, R439: a ring that is disabled, gated or busy polls nothing; a posted entry is taken in order, or dropped with TXDROP where its fields or its link do not allow it. An entry that completes
frees the ring and counts; one whose link is lost is dropped; a READ waits for every byte, takes each reply's bytes to LOCAL, and after its timeout holds poisoned zeros. PCIe links
train, lose lanes and end as R347 says. -/
def Obligations.TransmitRingsAndPcieLink : Prop :=
  ∀ (ini : Initiator) (q : Fin 4) (data : Word) (s : State), s.up = true → s.Inv → s.hoopsSound → s.blockedRegions = [] →
    (s.flag .NET_TXq_CFG [q.val] 31 = false ∨ s.gateOpen = false ∨ (s.txRing q.val).ent.isSome = true → exec (.txRingPoll q) s = .next s) ∧
    (∀ a n e zeros k, s.flag .NET_TXq_CFG [q.val] 31 = true → s.gateOpen = true → (s.txRing q.val).ent = none →
      a = s.reg .NET_TXq_BASE [q.val] * 4096 + (s.txRing q.val).seq % 2 ^ max 3 (min 12 (s.fld .NET_TXq_CFG [q.val] 19 16)) * 32 →
      txEntry (s.mem.rdBytes a 32) = (n, e, zeros) → k = s.fld .NET_TXq_CFG [q.val] 13 0 →
      (s.poisoned a 32 = true ∨ n ≠ ((s.txRing q.val).seq + 1) % 2 ^ 32 → exec (.txRingPoll q) s = .next s) ∧
      (s.poisoned a 32 = false → n = ((s.txRing q.val).seq + 1) % 2 ^ 32 →
        (zeros = true → s.txSound e = true → s.txLink e = true →
          ∃ u, exec (.txRingPoll q) s = .next u ∧ u.txRing q.val = ⟨(s.txRing q.val).seq + 1, some e⟩ ∧ u.fld .NET_TXq_HEAD [q.val] 15 0 = n % 65536 ∧
            u = { s with regs := u.regs, net := { s.net with rings := u.net.rings } } ∧ ∀ x, x ≠ Reg.adr .NET_TXq_HEAD [q.val] → u.rg x = s.rg x) ∧
        (zeros = false ∨ s.txSound e = false ∨ s.txLink e = false →
          ∃ u, exec (.txRingPoll q) s = .next u ∧ u.txRing q.val = ⟨(s.txRing q.val).seq + 1, none⟩ ∧
            u.fld .NET_TXq_HEAD [q.val] 31 16 = min (s.fld .NET_TXq_HEAD [q.val] 31 16 + 1) 65535 ∧
            u.reg .RNT_VALk [k] = (s.reg .RNT_VALk [k] + 1) % 2 ^ 32 ∧ u.mem = s.mem))) ∧
    ((s.txRing q.val).ent = none → exec (.txEntryComplete q) s = .next s ∧ exec (.txReadTimeout q) s = .next s ∧ ∀ payload, exec (.vwpRdata q payload) s = .next s) ∧
    (∀ e k, (s.txRing q.val).ent = some e → k = s.fld .NET_TXq_CFG [q.val] 13 0 →
      (e.op = 2 → missingRuns e.len e.got ≠ [] → exec (.txEntryComplete q) s = .next s) ∧
      ((e.op = 2 ∧ missingRuns e.len e.got = []) ∨ (e.op ≠ 2 ∧ s.txLink e = true ∧ s.gateOpen = true ∧ s.txMayLeave q.val e = true) →
        ∃ u, exec (.txEntryComplete q) s = .next u ∧ (u.txRing q.val).ent = none ∧ u.reg .RNT_VALk [k] = (s.reg .RNT_VALk [k] + 1) % 2 ^ 32 ∧
          (e.op ≠ 4 → e.op ≠ 6 → u.mem = s.mem)) ∧
      (e.op ≠ 2 → s.txLink e = false →
        ∃ u, exec (.txEntryComplete q) s = .next u ∧ (u.txRing q.val).ent = none ∧ u.reg .RNT_VALk [k] = (s.reg .RNT_VALk [k] + 1) % 2 ^ 32 ∧
          u.fld .NET_TXq_HEAD [q.val] 31 16 = min (s.fld .NET_TXq_HEAD [q.val] 31 16 + 1) 65535 ∧ u.mem = s.mem) ∧
      (e.op ≠ 2 → s.txLink e = true → s.gateOpen = false ∨ s.txMayLeave q.val e = false → exec (.txEntryComplete q) s = .next s) ∧
      (e.op % 2 = 1 ∨ missingRuns e.len e.got = [] → exec (.txReadTimeout q) s = .next s) ∧
      (e.op % 2 = 0 → e.got = [] → 0 < e.len → (s.region e.loc).isVatOrLpx = true →
        ∃ u, exec (.txReadTimeout q) s = .next u ∧ (u.txRing q.val).ent = none ∧ u.reg .RNT_VALk [k] = (s.reg .RNT_VALk [k] + 1) % 2 ^ 32 ∧
          u.fld .PCI_STAT [] 31 16 = min (s.fld .PCI_STAT [] 31 16 + 1) 65535 ∧ u.mem = s.mem.wrBytes e.loc (List.replicate e.len 0) ∧ u.poisoned e.loc e.len = true) ∧
      (∀ m payload, s.net.rx = [m] → m.peer = some e.peer → m.payload = payload → vwpOp payload = 3 → e.op = 2 → vwpWin payload = e.win → e.remote ≤ vwpOffset payload →
        vwpOffset payload + (vwpData payload).length ≤ e.remote + e.len → (s.region (e.loc + (vwpOffset payload - e.remote))).isVatOrLpx = true →
        ∃ u, exec (.vwpRdata q payload) s = .next u ∧ u.net.rx = [] ∧ u.mem = s.mem.wrBytes (e.loc + (vwpOffset payload - e.remote)) (vwpData payload) ∧
          (u.txRing q.val).ent = some { e with got := e.got ++ [(vwpOffset payload - e.remote, (vwpData payload).length)] } ∧ u.regs = s.regs ∧ u.tiles = s.tiles)) ∧
    (s.takes ini .PCI_CTRL [] data.toNat →
      ∃ u, exec (.pcieEnable ini data) s = .next u ∧ u.flag .PCI_CTRL [] 0 = data.toNat.testBit 0 ∧ u.mem = s.mem ∧ u.tiles = s.tiles ∧
        (s.flag .PCI_CTRL [] 0 = false → data.toNat.testBit 0 = true → u.net = { s.net with root := data.toNat.testBit 1, dead := false }) ∧
        (s.flag .PCI_CTRL [] 0 = true → data.toNat.testBit 0 = false → u.pcieLink = false ∧ u.net = { s.net with dead := false }) ∧
        (s.flag .PCI_CTRL [] 0 = data.toNat.testBit 0 → OnlyRegs s u [Reg.adr .PCI_CTRL []])) ∧
    (∀ rate width : BitVec 3,
      (∃ u, exec (.pcieLinkChange false rate width) s = .next u ∧ u.pcieLink = false ∧ u.fld .PCI_STAT [] 6 1 = 0 ∧ OnlyRegs s u [Reg.adr .PCI_STAT []]) ∧
      (s.flag .PCI_CTRL [] 0 = true → s.gateOpen = true → s.net.dead = false → 1 ≤ rate.toNat → rate.toNat ≤ 5 → 1 ≤ width.toNat → width.toNat ≤ 4 →
        ∃ u, exec (.pcieLinkChange true rate width) s = .next u ∧ u.pcieLink = true ∧ u.fld .PCI_STAT [] 6 4 = rate.toNat ∧ u.fld .PCI_STAT [] 3 1 = width.toNat ∧
          OnlyRegs s u [Reg.adr .PCI_STAT []]) ∧
      (s.flag .PCI_CTRL [] 0 = false ∨ s.gateOpen = false ∨ s.net.dead = true → exec (.pcieLinkChange true rate width) s = .next s) ∧
      (s.pcieLink = false ∨ s.fld .PCI_STAT [] 3 1 ≤ width.toNat → exec (.pcieLaneLoss width) s = .next s) ∧
      (s.pcieLink = true → s.fld .PCI_STAT [] 3 1 = 4 → 1 ≤ width.toNat → width.toNat < 4 →
        ∃ u g, exec (.pcieLaneLoss width) s = .next u ∧ u.pcieLink = true ∧ u.fld .PCI_STAT [] 3 1 = width.toNat ∧ u.flag .PCI_STAT [] 7 = true ∧
          u.mgt.inflight = s.mgt.inflight ++ [g] ∧ g.cls = 8 ∧ g.code = 2 ∧ u.net = s.net ∧ u.mem = s.mem) ∧
      (s.pcieLink = true → width.toNat < s.fld .PCI_STAT [] 3 1 → s.fld .PCI_STAT [] 3 1 ≠ 4 ∨ width.toNat = 0 →
        ∃ u, exec (.pcieLaneLoss width) s = .next u ∧ u.pcieLink = false ∧ u.net = { s.net with dead := true } ∧ u.mem = s.mem))

/-- R317, R353 to R356, R362, R371, R423, R424: the loader begins a copy once nothing holds the device, unless the part is SCRAPPED. The island starts when its first bytes have landed; a Starter that passes its check is
whole in SRAM, has its keys, and the gate opens unless it was closed; one that fails resets the device and the other slot is tried once. A boot reset records its cause and closes the gate.
Closing is final. An application-core group is locked once, checked on START, run on a pass, and emptied by RST. -/
def Obligations.BootAndLockedGroups : Prop :=
  ∀ (ini : Initiator) (g : Fin 2) (lock4k : BitVec 7) (s : State), s.Inv → s.sec.apps.wf = true →
    (s.rst.porst = true → s.rst.bor = true ∨ s.rst.trip = true → exec .porRelease s = .next { s with rst := { s.rst with porst := false } }) ∧
    (s.rst.porst = true → s.rst.bor = false → s.rst.trip = false →
      ∃ u, exec .porRelease s = .next u ∧ u.up = true ∧ u.sec.booted = true ∧ u.mem = s.mem ∧
        (s.lcState = 4 → u.fld .SEC_BOOT [] 1 0 = 3 ∧ u.sec.boot = s.sec.boot) ∧
        (s.lcState ≠ 4 → ∃ b, u.sec.boot = some b ∧ b.slot = s.choose.slot ∧ b.fallback = s.choose.fallback)) ∧
    (s.up = true →
      (s.sec.booted = true → exec .porRelease s = .next s) ∧
      (s.sec.boot = none → exec .islandStart s = .next s ∧ exec .starterCheck s = .next s ∧ exec (.bootReset .check) s = .next s) ∧
      (∀ b, s.sec.boot = some b →
        (s.sec.island ≠ none → exec .islandStart s = .next s) ∧
        (s.sec.island = none →
          ∃ u, exec .islandStart s = .next u ∧ u.sec = { s.sec with island := some (imgEntry b.img) } ∧ u.fld .SEC_BOOT [] 1 0 = 1 ∧
            u.mem = s.mem.wrBytes islandBase (b.img.take 0x4000) ∧ u.tiles = s.tiles ∧ ∀ a, a ≠ Reg.adr .SEC_BOOT [] → u.rg a = s.rg a) ∧
        (s.imageCheck 1 b.img = 0 →
          exec (.bootReset .check) s = .next s ∧
          ∃ u, exec .starterCheck s = .next u ∧ u.sec.boot = none ∧ u.sec.island ≠ none ∧ u.fld .SEC_BOOT [] 1 0 = 2 ∧
            (∀ i x, b.img[i]? = some x → u.mem.rd (islandBase + i) = x) ∧ SameOutside s u islandBase b.img.length ∧
            u.slot 0 = some ⟨0, s.kdfUds "CDI" (measure b.img)⟩ ∧ u.slot 2 = some ⟨0, s.kdfUds "IDSEED" []⟩ ∧
            (s.flag .SEC_GATE [] 1 = false → u.gateOpen = true) ∧ (s.flag .SEC_GATE [] 1 = true → u.gateOpen = s.gateOpen)) ∧
        (s.imageCheck 1 b.img ≠ 0 →
          ∃ u, exec .starterCheck s = .next u ∧ exec (.bootReset .check) s = .next u ∧ u.reg .GLB_RSTCAUSE [] = 8 ∧ u.gateOpen = false ∧ u.tiles = .empty ∧
            u.pending = s.pending ∧ u.sec.island = none ∧
            (∀ f, b.fallback = some f → f ≠ b.slot → ∃ b', u.sec.boot = some b' ∧ b'.slot = f ∧ b'.fallback = none ∧ u.flag .SEC_BOOT [] 16 = true) ∧
            (b.fallback = none → u.sec.boot = none ∧ u.fld .SEC_BOOT [] 1 0 = 3))) ∧
      (∀ c, c ≠ .check →
        ∃ u, exec (.bootReset c) s = .next u ∧ u.reg .GLB_RSTCAUSE [] = 2 ^ causeBit c ∧ u.gateOpen = false ∧ u.flag .SEC_GATE [] 1 = s.flag .SEC_GATE [] 1 ∧
          u.tiles = .empty ∧ u.pending = s.pending ∧ u.swp.cycle = s.swp.cycle ∧ u.sec.island = none ∧ ∀ a, u.mem.rd a = Mem.blank)) ∧
    (s.takes ini .SEC_GATE [] 2 →
      ∃ u, exec (.secGateClose ini) s = .next u ∧ u.gateOpen = false ∧ u.flag .SEC_GATE [] 1 = true ∧ OnlyRegs s u [Reg.adr .SEC_GATE []]) ∧
    (s.takes ini .SEC_APPg [g.val] (lock4k.toNat + 2 ^ 15) →
      ∃ u, exec (.appLock ini g lock4k) s = .next u ∧ OnlyRegs s u [Reg.adr .SEC_APPg [g.val]] ∧ u.flag .SEC_APPg [g.val] 15 = true ∧
        u.fld .SEC_APPg [g.val] 6 0 = (if s.flag .SEC_APPg [g.val] 15 then s.fld .SEC_APPg [g.val] 6 0 else lock4k.toNat)) ∧
    (s.takes ini .SEC_APPg [g.val] (s.rwPart .SEC_APPg [g.val] + 2 ^ 16) →
      ∃ u, exec (.appStart ini g) s = .next u ∧ OnlyRegs s u [Reg.adr .SEC_APPg [g.val]] ∧ u.flag .SEC_APPg [g.val] 19 = s.flag .SEC_APPg [g.val] 19 ∧
        u.flag .SEC_APPg [g.val] 17 = (s.flag .SEC_APPg [g.val] 17 || (s.flag .SEC_APPg [g.val] 15 && !s.flag .SEC_APPg [g.val] 19))) ∧
    (s.takes ini .SEC_APPg [g.val] (s.rwPart .SEC_APPg [g.val] + 2 ^ 14) →
      ∃ u, exec (.appRst ini g) s = .next u ∧ u.flag .SEC_APPg [g.val] 15 = false ∧ u.flag .SEC_APPg [g.val] 17 = false ∧ u.flag .SEC_APPg [g.val] 19 = false ∧
        u.sec.apps.find g.val = none ∧ (∀ i, i < 0x80000 → u.mem.rd (appBase g.val + i) = 0) ∧ SameOutside s u (appBase g.val) 0x80000 ∧ u.tiles = s.tiles) ∧
    (s.up = true →
      (s.flag .SEC_APPg [g.val] 17 = false → exec (.appCheckDone g) s = .next s) ∧
      (s.flag .SEC_APPg [g.val] 17 = true →
        (∀ img, (s.runCheck 3 (appBase g.val) (s.appLocked g.val) true).1 = some (true, img) →
          ∃ u, exec (.appCheckDone g) s = .next u ∧ u.flag .SEC_APPg [g.val] 17 = false ∧ u.flag .SEC_APPg [g.val] 19 = true ∧
            u.sec.apps.find g.val = some (imgEntry img) ∧ u.mem = s.mem ∧ ∀ a, a ≠ Reg.adr .SEC_APPg [g.val] → u.rg a = s.rg a) ∧
        ((s.runCheck 3 (appBase g.val) (s.appLocked g.val) true).1.map (·.1) ≠ some true →
          ∃ u, exec (.appCheckDone g) s = .next u ∧ u.flag .SEC_APPg [g.val] 17 = false ∧ u.flag .SEC_APPg [g.val] 18 = true ∧ u.sec.apps = s.sec.apps ∧ u.mem = s.mem ∧
            ∀ a, a ≠ Reg.adr .SEC_APPg [g.val] → u.rg a = s.rg a)))

/-- R364 to R373: a key command sets BUSY and takes its descriptor; done, its STATUS stands and BUSY is clear: GATED before the gate opens but for CHECK; a derivation fills its slot with the key of its label and context; an
erased slot is empty; a signature and a public key go to B. A fuse advance that is allowed starts programming, one that is not sets ERR; programmed and verified, the count or the state stands. A
challenge is fresh; a response that verifies unlocks the scope and erases the slots, any other counts, and after three none counts. A locked MPU region or firewall entry takes no write. -/
def Obligations.KeysFusesAndDebug : Prop :=
  ∀ (ini : Initiator) (desc : BitVec 14) (goal : BitVec 7) (lc : BitVec 3) (r : Fin 8) (e : Fin 32) (data : Word) (code : BitVec 8) (s : State), s.up = true → s.Inv → s.sec.slots.wf = true →
    (∀ p ∈ [((1 : Nat), Instr.check ini desc), (2, .derive ini desc), (3, .sign ini desc), (4, .pubkey ini desc), (5, .erase ini desc)],
      ((s.mem.rdLE (islandBase + desc.toNat * 64) 1 ≠ p.1 → exec p.2 s = .next s) ∧
      (s.mem.rdLE (islandBase + desc.toNat * 64) 1 = p.1 → s.takes ini .SEC_KCMD [] (desc.toNat * 64) → s.reg .SEC_KCMD [] = 0 →
        ∃ u, exec p.2 s = .next u ∧ u.reg .SEC_KCMD [] = 2 ^ 31 ∧ u.sec = { s.sec with kcmd := some (s.mem.rdBytes (islandBase + desc.toNat * 64) 64) } ∧
          u = { s with regs := u.regs, sec := u.sec } ∧ ∀ a, a ≠ Reg.adr .SEC_KCMD [] → u.rg a = s.rg a))) ∧
    (s.sec.kcmd = none → exec .keyCommandDone s = .next s) ∧
    (∀ d, s.sec.kcmd = some d →
      (fieldAt d 0 1 ≠ 1 → s.gateOpen = false →
        ∃ u, exec .keyCommandDone s = .next u ∧ u.reg .SEC_KCMD [] = 2 * 2 ^ 28 ∧ u.sec = { s.sec with kcmd := none } ∧ u.mem = s.mem) ∧
      (allZero ((d.drop 5).take 3) = true → allZero (d.drop 24) = true → fieldAt d 3 1 ≤ 15 →
        (fieldAt d 0 1 = 1 → 32 ≤ s.sec.log.length → 1 ≤ fieldAt d 1 1 → fieldAt d 1 1 ≤ 5 → fieldAt d 2 1 ≤ 1 → s.region (fieldAt d 8 8) = .island →
          ∃ u, exec .keyCommandDone s = .next u ∧ u.reg .SEC_KCMD [] = 4 * 2 ^ 28 ∧ u.sec = { s.sec with kcmd := none } ∧ u.mem = s.mem) ∧
        (s.gateOpen = true →
          (∀ k usage a n c dst, fieldAt d 0 1 = 2 → s.slot (fieldAt d 3 1) = some k → fieldAt d 2 1 = 2 * usage → usage ≤ 2 → dst = fieldAt d 4 1 → 3 ≤ dst → dst ≤ 15 →
            a = fieldAt d 8 8 → n = fieldAt d 16 4 → c = fieldAt d 20 4 → n ≤ 256 → a + 16 ≤ 0x100000 → c + n ≤ 0x100000 →
            ∃ u, exec .keyCommandDone s = .next u ∧ u.reg .SEC_KCMD [] = 0 ∧ u.mem = s.mem ∧ (∀ i, i ≠ dst → u.slot i = s.slot i) ∧
              u.slot dst = some ⟨usage, beBytes 32 (kdf k.key (labelOf (s.mem.rdBytes (islandBase + a) 16)) (s.mem.rdBytes (islandBase + c) n) 256)⟩) ∧
          (fieldAt d 0 1 = 5 → fieldAt d 2 1 = 0 → 3 ≤ fieldAt d 4 1 → fieldAt d 4 1 ≤ 15 →
            ∃ u, exec .keyCommandDone s = .next u ∧ u.reg .SEC_KCMD [] = 0 ∧ u.mem = s.mem ∧ u.slot (fieldAt d 4 1) = none ∧
              ∀ i, i ≠ fieldAt d 4 1 → u.slot i = s.slot i) ∧
          (∀ key x y, fieldAt d 0 1 = 4 → s.ecdsaKey (fieldAt d 3 1) = some key → fieldAt d 2 1 = 0 → fieldAt d 16 4 + 2 * (curveOf s.sec.algsel).len ≤ 0x100000 →
            (curveOf s.sec.algsel).pub key = (x, y) →
            ∃ u, exec .keyCommandDone s = .next u ∧ u.reg .SEC_KCMD [] = 0 ∧
              u.mem = s.mem.wrBytes (islandBase + fieldAt d 16 4) (beBytes (curveOf s.sec.algsel).len x ++ beBytes (curveOf s.sec.algsel).len y)) ∧
          (∀ key, fieldAt d 0 1 = 3 → s.ecdsaKey (fieldAt d 3 1) = some key → fieldAt d 2 1 = 0 → fieldAt d 8 8 + 48 ≤ 0x100000 →
            fieldAt d 16 4 + 2 * (curveOf s.sec.algsel).len ≤ 0x100000 →
            ∃ u, exec .keyCommandDone s = .next u ∧ u.reg .SEC_KCMD [] = 0 ∧ SameOutside s u (islandBase + fieldAt d 16 4) (2 * (curveOf s.sec.algsel).len))))) ∧
    (s.takes ini .SEC_FUSEADV [] goal.toNat →
      (s.flag .SEC_FUSEADV [] 31 = false → s.gateOpen = true → ones s.minver 64 < goal.toNat → goal.toNat ≤ 64 →
        ∃ u, exec (.minverAdvance ini goal) s = .next u ∧ u.flag .SEC_FUSEADV [] 31 = true ∧ u.sec = { s.sec with fuse := some (.minver goal.toNat) } ∧
          ∀ a, a ≠ Reg.adr .SEC_FUSEADV [] → u.rg a = s.rg a) ∧
      (s.flag .SEC_FUSEADV [] 31 = false → s.gateOpen = false →
        ∃ u, exec (.minverAdvance ini goal) s = .next u ∧ u.flag .SEC_LC [] 31 = true ∧ u.sec = s.sec) ∧
      (s.flag .SEC_FUSEADV [] 31 = true ∨ (s.gateOpen = true ∧ (goal.toNat ≤ ones s.minver 64 ∨ 64 < goal.toNat)) →
        ∃ u, exec (.minverAdvance ini goal) s = .next u ∧ u.sec = s.sec ∧ u.minver = s.minver)) ∧
    (s.takes ini .SEC_LC [] (lc.toNat * 16) → lc ≠ 0 → s.flag .SEC_FUSEADV [] 31 = false →
      (s.gateOpen = true → s.lcAllowed lc.toNat = true →
        ∃ u, exec (.lcAdvance ini lc) s = .next u ∧ u.flag .SEC_FUSEADV [] 31 = true ∧ u.sec = { s.sec with fuse := some (.lc lc.toNat) } ∧ u.lcState = s.lcState) ∧
      (s.gateOpen = false ∨ s.lcAllowed lc.toNat = false →
        ∃ u, exec (.lcAdvance ini lc) s = .next u ∧ u.flag .SEC_LC [] 31 = true ∧ u.sec = s.sec ∧ u.lcState = s.lcState)) ∧
    (∀ ok, s.sec.fuse = none → exec (.fuseProgramDone ok) s = .next s) ∧
    (∀ n, s.sec.fuse = some (.minver n) →
      ∃ u, exec (.fuseProgramDone true) s = .next u ∧ u.minver = fillOnes s.minver n ∧ u.sec = { s.sec with fuse := none } ∧ u.flag .SEC_FUSEADV [] 31 = false) ∧
    (∀ n, s.sec.fuse = some (.lc n) → s.lcState < n → n ≤ 4 →
      (∃ u, exec (.fuseProgramDone true) s = .next u ∧ u.lcState = n ∧ u.sec = { s.sec with fuse := none } ∧ u.flag .SEC_FUSEADV [] 31 = false) ∧
      (∃ u, exec (.fuseProgramDone false) s = .next u ∧ s.lcState ≤ u.lcState ∧ u.lcState < n ∧ u.flag .SEC_LC [] 31 = true ∧ u.flag .SEC_FUSEADV [] 31 = false)) ∧
    (∃ u nonce, exec .dbgChal s = .next u ∧ nonce.length = 32 ∧ u.sec = { s.sec with chal := some (nonce ++ (Config.serial s.sec.uds).take 32) } ∧ u.regs = s.regs ∧ u.mem = s.mem) ∧
    (∀ scope pub sig,
      (3 ≤ s.sec.rejected → exec (.dbgResp scope pub sig) s = .next s) ∧
      (s.sec.rejected < 3 → s.responseGood scope.toNat pub sig = false →
        exec (.dbgResp scope pub sig) s = .next { s with sec := { s.sec with rejected := s.sec.rejected + 1 } }) ∧
      (s.sec.rejected < 3 → s.responseGood scope.toNat pub sig = true →
        ∃ u, exec (.dbgResp scope pub sig) s = .next u ∧ u.flag .SEC_LC [] 7 = true ∧ u.fld .SEC_LC [] 9 8 = bits scope.toNat 1 0 ∧ u.sec.slots = .empty ∧ u.sec.chal = none ∧
          u.mem = s.mem ∧ ∀ a, a ≠ Reg.adr .SEC_LC [] → u.rg a = s.rg a)) ∧
    (s.takes ini .SEC_MPUr_CFG [r.val] (putBits data.toNat 31 31 1) →
      ∃ u, exec (.mpuLock ini r data) s = .next u ∧ OnlyRegs s u [Reg.adr .SEC_MPUr_CFG [r.val]] ∧ u.flag .SEC_MPUr_CFG [r.val] 31 = true ∧
        u.fld .SEC_MPUr_CFG [r.val] 5 0 = (if s.flag .SEC_MPUr_CFG [r.val] 31 then s.fld .SEC_MPUr_CFG [r.val] 5 0 else bits data.toNat 5 0)) ∧
    (s.takes ini .SEC_FWe_PERM [e.val] (putBits data.toNat 31 31 1) →
      ∃ u, exec (.firewallLock ini e data) s = .next u ∧ OnlyRegs s u [Reg.adr .SEC_FWe_PERM [e.val]] ∧ u.flag .SEC_FWe_PERM [e.val] 31 = true ∧
        u.fld .SEC_FWe_PERM [e.val] 9 0 = (if s.flag .SEC_FWe_PERM [e.val] 31 then s.fld .SEC_FWe_PERM [e.val] 9 0 else bits data.toNat 9 0)) ∧
    exec (.debugInstruction code data) s =
      .next { s with sec := { s.sec with ir := if code.toNat = Config.idcode ∨ s.debugUnlocked = true then code.toNat else 0xFF } }

/-- R376 to R385: a control interval records the power and the temperatures, keeps the allowances under the policy hold, steps CAPB and THMB as R381 and R382 say, counts denied boosts, and leaves
every domain but a refused cluster at the lowest of its request, CAPB and THMB; it changes no power state, and no more than begins an entry. A write of a domain's request has its point recomputed. A transition
raises the voltage before the clock and lowers it after. 125 degrees bounds a die at point 0 and throttles it; droop and over-current begin and end as R384 and R385 say. -/
def Obligations.PressPointsAndBounds : Prop :=
  ∀ (ini : Initiator) (m : PressSample) (d : Fin 7) (c : Fin 4) (die : Die) (data : Word) (s : State), s.up = true → s.Inv →
    (∃ u, exec (.controlInterval m) s = .next u ∧
      u.reg .PRS_PWR0 [] = min m.comp 4095 + min m.mem 4095 * 65536 ∧ u.reg .PRS_PWR1 [] = min m.lnk 4095 + min m.uncap 4095 * 65536 ∧
      u.reg .PRS_TEMP [] = tempByte m.cd0 + tempByte m.cd1 * 256 + tempByte m.iod * 65536 ∧
      u.fld .PRS_CNT0 [] 31 16 = min (s.fld .PRS_CNT0 [] 31 16 + ((upTo 7).filter (fun x => s.flag .PRS_DOMd [x] 8 && decide (s.eff x < s.fld .PRS_DOMd [x] 7 4))).length) 65535 ∧
      (s.flag .PRS_CTRL [] 1 = true → u.flag .PRS_CTRL [] 2 = true) ∧
      (s.flag .PRS_CTRL [] 1 = true ∨ s.flag .PRS_CTRL [] 2 = true → u.prs.allow = s.prs.allow) ∧
      (∀ k, k < 3 →
        (u.prs.allow.getD k 0 < [m.comp, m.mem, m.lnk].getD k 0 →
          u.capb ((domainsOf k).headD 0) = min (s.capb ((domainsOf k).headD 0)) (max (s.prs.top.get 0 k) (((domainsOf k).map s.eff).foldl max 0)) - 1) ∧
        (u.prs.allow.getD k 0 ≥ [m.comp, m.mem, m.lnk].getD k 0 → 8 * [m.comp, m.mem, m.lnk].getD k 0 ≤ 7 * u.prs.allow.getD k 0 →
          u.capb ((domainsOf k).headD 0) = min 15 (s.capb ((domainsOf k).headD 0) + 1)) ∧
        (u.prs.allow.getD k 0 ≥ [m.comp, m.mem, m.lnk].getD k 0 → 7 * u.prs.allow.getD k 0 < 8 * [m.comp, m.mem, m.lnk].getD k 0 →
          u.capb ((domainsOf k).headD 0) = s.capb ((domainsOf k).headD 0))) ∧
      u.prs.thrPower = (decide (u.prs.allow.getD 0 0 < m.comp) && (decide (s.capb 0 = 0) || s.prs.thrPower)) ∧
      (∀ t, t = (if dieOf d.val = 0 then m.cd0 else if dieOf d.val = 1 then m.cd1 else m.iod) →
        (s.thr ≤ t → u.thmb d.val = s.thmb d.val - 1) ∧ (t ≤ s.thr - s.hyst → u.thmb d.val = min 15 (s.thmb d.val + 1)) ∧
        (s.thr - s.hyst < t → t < s.thr → u.thmb d.val = s.thmb d.val)) ∧
      u.request d.val = s.request d.val ∧
      (u.eff d.val = min (u.request d.val) (min (u.capb d.val) (u.thmb d.val)) ∨
        (d.val < 4 ∧ u.eff d.val = s.eff d.val ∧
          ∃ k, k = min (u.request d.val) (min (u.capb d.val) (u.thmb d.val)) ∧ u.fmax (u.opPoint k).1 < (u.opPoint k).2)) ∧
      (∀ x, u.pst x = s.pst x) ∧ (∀ x e, u.prs.entry.find x = some e → s.prs.entry.find x = some e ∨ (e.delays = 0 ∧ e.committed = false ∧ e.latched = false ∧ e.target ≠ stRUN)) ∧
      u.mem = s.mem ∧ u.tiles = s.tiles ∧ u.swp = s.swp ∧ u.mgt = s.mgt) ∧
    (s.takes ini .PRS_DOMd [d.val] data.toNat →
      ∃ u k, exec (.domainRequestWrite ini d data) s = .next u ∧ k = min (u.request d.val) (min (s.capb d.val) (s.thmb d.val)) ∧
        u.fld .PRS_DOMd [d.val] 8 0 = (if d.val = 6 then s.fld .PRS_DOMd [d.val] 8 0 else data.toNat % 512) ∧ u.capb d.val = s.capb d.val ∧ u.thmb d.val = s.thmb d.val ∧
        (d.val = 6 → u.eff d.val = s.eff d.val) ∧
        (d.val ≠ 6 → k = s.eff d.val ∨ 4 ≤ d.val ∨ (s.opPoint k).2 ≤ s.fmax (s.opPoint k).1 → u.eff d.val = k ∧ u.fld .PRS_CNT0 [] 15 0 = s.fld .PRS_CNT0 [] 15 0) ∧
        (d.val < 4 → k ≠ s.eff d.val → s.fmax (s.opPoint k).1 < (s.opPoint k).2 →
          u.eff d.val = s.eff d.val ∧ u.fld .PRS_CNT0 [] 15 0 = min (s.fld .PRS_CNT0 [] 15 0 + 1) 65535) ∧
        u.mem = s.mem ∧ u.tiles = s.tiles ∧ u.swp = s.swp ∧ u.mgt = s.mgt ∧
        ∀ a, a ≠ Reg.adr .PRS_DOMd [d.val] → a ≠ Reg.adr .PRS_CNT0 [] → u.rg a = s.rg a) ∧
    (∀ o, o = s.clOp c.val →
      (o.sw = 0 → o.v = o.tv → o.f = o.tf → exec (.opTransitionStep c) s = .next s) ∧
      (o.sw ≠ 0 ∨ o.v ≠ o.tv ∨ o.f ≠ o.tf →
        ∃ u, exec (.opTransitionStep c) s = .next u ∧
          (1 < o.sw → u.clOp c.val = { o with sw := o.sw - 1 }) ∧ (o.sw = 1 → u.clOp c.val = { o with sw := 0, f := o.tf }) ∧
          (o.sw = 0 → o.v < o.tv → u.clOp c.val = { o with v := o.v + 1 }) ∧ (o.sw = 0 → o.tv ≤ o.v → o.f ≠ o.tf → u.clOp c.val = { o with sw := 3 }) ∧
          (o.sw = 0 → o.tv < o.v → o.f = o.tf → u.clOp c.val = { o with v := o.v - 1 }) ∧
          (∀ w, w = u.clOp c.val → u.flag .PRS_DOMd [c.val] 28 = (w.v != w.tv || w.f != w.tf || w.sw != 0)) ∧
          (∀ x, x ≠ c.val → u.clOp x = s.clOp x) ∧ u = { s with regs := u.regs, prs := { s.prs with cl := u.prs.cl } } ∧
          ∀ a, a ≠ Reg.adr .PRS_DOMd [c.val] → u.rg a = s.rg a)) ∧
    (dieNum die ∈ s.prs.thrDie → exec (.thermalLimit die) s = .next s) ∧
    (dieNum die ∉ s.prs.thrDie →
      ∃ u g, exec (.thermalLimit die) s = .next u ∧ u.mgt.inflight = s.mgt.inflight ++ [g] ∧ g.cls = 6 ∧
        (dieOf d.val = dieNum die → u.thmb d.val = 0) ∧ (dieOf d.val ≠ dieNum die → u.thmb d.val = s.thmb d.val) ∧ u.eff d.val = s.eff d.val ∧
        (c.val / 2 = dieNum die → u.throttle c.val = 15) ∧ (c.val / 2 ≠ dieNum die → u.throttle c.val = s.throttle c.val) ∧ u.mem = s.mem ∧ u.tiles = s.tiles) ∧
    (∃ u, exec (.thermalLimitEnd die) s = .next u ∧ dieNum die ∉ u.prs.thrDie ∧ (∀ x, x ≠ dieNum die → (x ∈ u.prs.thrDie ↔ x ∈ s.prs.thrDie)) ∧
      u = { s with prs := { s.prs with thrDie := u.prs.thrDie } }) ∧
    (c.val ∈ s.prs.stretch → exec (.droop c true) s = .next s) ∧
    (c.val ∉ s.prs.stretch →
      ∃ u, exec (.droop c true) s = .next u ∧ c.val ∈ u.prs.stretch ∧ u.fld .PRS_CNT3 [] 31 16 = min (s.fld .PRS_CNT3 [] 31 16 + 1) 65535 ∧
        u = { s with regs := u.regs, prs := { s.prs with stretch := u.prs.stretch } } ∧ ∀ a, a ≠ Reg.adr .PRS_CNT3 [] → u.rg a = s.rg a) ∧
    (∃ u, exec (.droop c false) s = .next u ∧ c.val ∉ u.prs.stretch ∧ u = { s with prs := { s.prs with stretch := u.prs.stretch } }) ∧
    (∃ u, exec (.overcurrent c true) s = .next u ∧ 8 ≤ u.throttle c.val ∧ u.prs.thrSeen = true ∧ u = { s with prs := { s.prs with thrAmp := u.prs.thrAmp, thrSeen := true } }) ∧
    (∃ u, exec (.overcurrent c false) s = .next u ∧ c.val ∉ u.prs.thrAmp ∧ u = { s with prs := { s.prs with thrAmp := u.prs.thrAmp } } ∧
      (s.prs.thrPower = false → c.val / 2 ∉ s.prs.thrDie → u.throttle c.val = 0))

/-- R389 to R392, R430: a refusal, a 16th DELAY or a lost idle condition ends an entry and counts in ENTREF; the last ACK commits it; the sixth cycle after the commit is in the new state, or on its way
out where a wake was latched. A wake before the commit ends the entry and counts in ENTABORT; in the entry window a level is latched and an edge is lost; in the state it starts the exit. An exit
ends in RUN, and the accesses that waited are performed. -/
def Obligations.EntryWakeAndExit : Prop :=
  ∀ (ini : Initiator) (c : Fin 4) (i : Fin 4) (data : Word) (s : State), s.up = true → s.Inv → s.prs.entry.wf = true →
    (∀ p : PDomain,
      (∀ a, s.prs.entry.find (domainNum p) = none ∨ (∃ e, s.prs.entry.find (domainNum p) = some e ∧ e.committed = true) → exec (.entryHandshakeAnswer p a) s = .next s) ∧
      (∀ e, s.prs.entry.find (domainNum p) = some e → e.committed = false →
        (s.idleFor (domainNum p) e.target = true →
          exec (.entryHandshakeAnswer p .ack) s = .next { s with prs := { s.prs with entry := s.prs.entry.put (domainNum p) { e with committed := true } } }) ∧
        (e.delays < 15 →
          exec (.entryHandshakeAnswer p .delay) s = .next { s with prs := { s.prs with entry := s.prs.entry.put (domainNum p) { e with delays := e.delays + 1 } } }) ∧
        (∀ a, a = Answer.refuse ∨ (a = Answer.delay ∧ 15 ≤ e.delays) ∨ (a = Answer.ack ∧ s.idleFor (domainNum p) e.target = false) →
          ∃ u, exec (.entryHandshakeAnswer p a) s = .next u ∧ u.prs.entry.find (domainNum p) = none ∧
            u.fld .PRS_CNT2 [] 31 16 = min (s.fld .PRS_CNT2 [] 31 16 + 1) 65535 ∧ u.fld .PRS_CNT2 [] 15 0 = s.fld .PRS_CNT2 [] 15 0 ∧
            u = { s with regs := u.regs, prs := { s.prs with entry := u.prs.entry } } ∧ ∀ x, x ≠ Reg.adr .PRS_CNT2 [] → u.rg x = s.rg x) ∧
        (∃ u, exec (.wakeEvent (.phase p)) s = .next u ∧ u.prs.entry.find (domainNum p) = none ∧
          u.fld .PRS_CNT2 [] 15 0 = min (s.fld .PRS_CNT2 [] 15 0 + 1) 65535 ∧ u.fld .PRS_CNT2 [] 31 16 = s.fld .PRS_CNT2 [] 31 16 ∧
          u = { s with regs := u.regs, prs := { s.prs with entry := u.prs.entry } } ∧ ∀ x, x ≠ Reg.adr .PRS_CNT2 [] → u.rg x = s.rg x)) ∧
      (s.prs.entry.find (domainNum p) = none ∨ (∃ e, s.prs.entry.find (domainNum p) = some e ∧ e.committed = false) → exec (.entryComplete p) s = .next s) ∧
      (∀ e, s.prs.entry.find (domainNum p) = some e → e.committed = true →
        exec (.wakeEvent (.phase p)) s = .next { s with prs := { s.prs with entry := s.prs.entry.put (domainNum p) { e with latched := true } } })) ∧
    (∀ e, s.prs.entry.find c.val = some e → e.committed = true → e.target = stTRIM ∨ e.target = stREST →
      ∃ u, exec (.entryComplete (.cluster c)) s = .next u ∧ u.pst c.val = (if e.latched then stEXIT else e.target) ∧ (∀ x : Fin 4, x ≠ c → u.pst x.val = s.pst x.val) ∧
        u.prs.entry.find c.val = none ∧ u.mem = s.mem ∧ (e.target = stTRIM → u.tiles = s.tiles) ∧ ∀ x, x ≠ Reg.adr .PRS_STATE [] → u.rg x = s.rg x) ∧
    (∀ e, s.prs.entry.find 4 = some e → e.committed = true →
      exec (.wakeEvent .frame) s = .next s ∧
      ∃ u, exec (.entryComplete .device) s = .next u ∧ u.prs.cave = true ∧ u.prs.caveExit = (e.latched || s.prs.caveExit) ∧ u.pst c.val = stREST ∧ u.prs.entry.find 4 = none ∧
        u.mem = s.mem ∧ u.tiles = s.tiles ∧ ∀ x, x ≠ Reg.adr .PRS_STATE [] → u.rg x = s.rg x) ∧
    (s.prs.entry.find c.val = none →
      (s.asleep c.val = true →
        ∃ u, exec (.wakeEvent (.access c)) s = .next u ∧ exec (.wakeEvent (.phase (.cluster c))) s = .next u ∧ u.pst c.val = stEXIT ∧ OnlyRegs s u [Reg.adr .PRS_STATE []]) ∧
      (s.asleep c.val = false → exec (.wakeEvent (.access c)) s = .next s ∧ exec (.wakeEvent (.phase (.cluster c))) s = .next s) ∧
      (∀ high, s.flag .PRS_WAKECFG [] (4 * i.val) = true → high = !s.flag .PRS_WAKECFG [] (4 * i.val + 2) →
        s.flag .PRS_WAKECFG [] (4 * i.val + 1) = true ∨ s.prs.pins.testBit i.val = !high → s.asleep c.val = true →
        ∃ u, exec (.wakeEvent (.pin i high)) s = .next u ∧ u.pst c.val = stEXIT ∧ u.prs.pins.testBit i.val = high ∧ u.mem = s.mem ∧ u.tiles = s.tiles)) ∧
    (∀ high, s.flag .PRS_WAKECFG [] (4 * i.val) = false ∨ high = s.flag .PRS_WAKECFG [] (4 * i.val + 2) ∨
        (s.flag .PRS_WAKECFG [] (4 * i.val + 1) = false ∧ s.prs.pins.testBit i.val = high) →
      ∃ u, exec (.wakeEvent (.pin i high)) s = .next u ∧ u.prs.pins.testBit i.val = high ∧ u = { s with prs := { s.prs with pins := u.prs.pins } }) ∧
    (s.prs.entry.find 4 = none → s.prs.cave = true → s.prs.caveExit = false →
      exec (.wakeEvent .frame) s = .next { s with prs := { s.prs with caveExit := true } } ∧
      exec (.wakeEvent (.phase .device)) s = .next { s with prs := { s.prs with caveExit := true } }) ∧
    (s.takes ini .PRS_WAKE [] data.toNat →
      ∃ u, exec (.prsWake ini data) s = .next u ∧ u.mem = s.mem ∧ u.tiles = s.tiles ∧ u.mgt = s.mgt ∧
        (∀ x, x ≠ Reg.adr .PRS_WAKE [] → x ≠ Reg.adr .PRS_STATE [] → x ≠ Reg.adr .PRS_CNT2 [] → u.rg x = s.rg x) ∧
        (data.toNat.testBit c.val = true → s.prs.entry.find c.val = none → s.asleep c.val = true → u.pst c.val = stEXIT) ∧
        (data.toNat.testBit c.val = false ∨ s.asleep c.val = false → u.pst c.val = s.pst c.val) ∧
        (∀ e, s.prs.entry.find c.val = some e → e.committed = true → u.prs.entry.find c.val = some e ∧ u.pst c.val = s.pst c.val) ∧
        (∀ e, s.prs.entry.find c.val = some e → e.committed = false → data.toNat.testBit c.val = true → u.prs.entry.find c.val = none) ∧
        (data.toNat.testBit 4 = true → ini.cls = .isl → s.prs.entry.find 4 = none → s.prs.cave = true → u.prs.caveExit = true)) ∧
    (s.held = [] → s.pst c.val ≠ stEXIT → exec (.exitComplete (.cluster c)) s = .next s) ∧
    (s.held = [] → s.pst c.val = stEXIT →
      ∃ u, exec (.exitComplete (.cluster c)) s = .next u ∧ u.pst c.val = stRUN ∧ (∀ x : Fin 4, x ≠ c → u.pst x.val = s.pst x.val) ∧ OnlyRegs s u [Reg.adr .PRS_STATE []]) ∧
    (∀ (who : Initiator) (a : PAddr) (v : Word), s.held = [.reg who a.toNat 32 v] → s.pst c.val = stEXIT →
      exec (.exitComplete (.cluster c)) s = exec (.registerWrite who a 32 v) { s.setPst c.val stRUN with held := [] }) ∧
    (s.held = [] → s.prs.cave = true → s.prs.caveExit = true →
      ∃ u, exec (.exitComplete .device) s = .next u ∧ u.prs.cave = false ∧ u.prs.caveExit = false ∧ u.pst c.val = stRUN ∧ u.tiles = State.reset.tiles ∧ u.swp = s.swp ∧
        (∀ x, x < 0x10000000000 → ¬ (0x40000000 ≤ x ∧ x < 0x40100000) → u.mem.rd x = 0) ∧ (∀ x, 0x10000000000 ≤ x → u.mem.rd x = s.mem.rd x)) ∧
    (s.held = [] → s.prs.cave = false ∨ s.prs.caveExit = false → exec (.exitComplete .device) s = .next s)

/-- R396 to R399, R411: a signal is counted, and logged, told to the island and held on ERR_OUT_N as its class's action says; MEM_CE is logged once in 1 ms. A pop drops the head record and
clears OVF. ERR_OUT_N rises when nothing holds it and 10 us have passed. A kick begins the count again; an expiry sets EXP, signals and, with ACTION, resets what it watches; that of the island resets the device. -/
def Obligations.ErrorsLogAndWatchdogs : Prop :=
  ∀ (ini : Initiator) (c : Fin 16) (w : Fin 7) (off : BitVec 12) (s : State), s.up = true → s.Inv →
    (s.mgt.inflight = [] → exec (.errorSignal .oldest) s = .next s) ∧
    (∀ e, exec (.errorSignal (.unit e)) s =
      exec (.errorSignal .oldest) { s with mgt := { s.mgt with inflight := ⟨e.cls.val, e.code.toNat, e.src.toNat, e.inst.toNat, e.addr.toNat, s.phase, e.data.toNat⟩ :: s.mgt.inflight } }) ∧
    (∀ r rest, s.mgt.inflight = r :: rest → r.cls = c.val →
      ∃ u, exec (.errorSignal .oldest) s = .next u ∧ u.mgt.inflight = rest ∧ u.fld .MGT_CLSc [c.val] 31 16 = min (s.fld .MGT_CLSc [c.val] 31 16 + 1) 65535 ∧
        u.mem = s.mem ∧ u.tiles = s.tiles ∧
        (∀ a, a ≠ Reg.adr .MGT_CLSc [c.val] → a ≠ Reg.adr .MGT_ELOG_CTL [] → a ≠ Reg.adr .MGT_EOUT [] → u.rg a = s.rg a) ∧
        (c.val ≠ 3 ∨ (∀ t, s.mgt.ceLogged = some t → t + 100000 ≤ s.pressNow) →
          (s.actOf c.val = 0 → u.mgt.log = s.mgt.log) ∧
          (1 ≤ s.actOf c.val → s.mgt.log.length < 256 → u.mgt.log = s.mgt.log ++ [r] ∧ u.fld .MGT_ELOG_CTL [] 15 0 = s.fld .MGT_ELOG_CTL [] 15 0) ∧
          (1 ≤ s.actOf c.val → 256 ≤ s.mgt.log.length → u.mgt.log = s.mgt.log ∧ u.fld .MGT_ELOG_CTL [] 15 0 = min (s.fld .MGT_ELOG_CTL [] 15 0 + 1) 65535) ∧
          u.mgt.irqs = s.mgt.irqs + (if 2 ≤ s.actOf c.val then 1 else 0) ∧
          (s.actOf c.val = 3 → u.flag .MGT_EOUT [] c.val = true ∧ u.mgt.errLow = true) ∧
          (s.actOf c.val ≠ 3 → u.rg (Reg.adr .MGT_EOUT []) = s.rg (Reg.adr .MGT_EOUT []) ∧ u.mgt.errLow = s.mgt.errLow)) ∧
        (∀ t, c.val = 3 → s.mgt.ceLogged = some t → s.pressNow < t + 100000 →
          u.mgt = { s.mgt with inflight := rest } ∧ u.rg (Reg.adr .MGT_EOUT []) = s.rg (Reg.adr .MGT_EOUT []) ∧ u.rg (Reg.adr .MGT_ELOG_CTL []) = s.rg (Reg.adr .MGT_ELOG_CTL []))) ∧
    (s.takes ini .MGT_ELOG_CTL [] (2 ^ 31) →
      ∃ u, exec (.elogPop ini) s = .next u ∧ u = { s with regs := u.regs, mgt := { s.mgt with log := s.mgt.log.drop 1 } } ∧ u.fld .MGT_ELOG_CTL [] 15 0 = 0 ∧
        ∀ a, a ≠ Reg.adr .MGT_ELOG_CTL [] → u.rg a = s.rg a) ∧
    (s.takes ini .MGT_EOUT [] (s.rwPart .MGT_EOUT [] + 2 ^ 31) →
      ∃ u, exec (.eoutRun ini) s = .next u ∧ u.flag .MGT_EOUT [] 31 = true ∧ u.fld .MGT_EOUT [] 15 0 = s.fld .MGT_EOUT [] 15 0 ∧
        u.flag .MGT_EOUT [] 30 = s.flag .MGT_EOUT [] 30 ∧ u.mgt.errLow = (s.mgt.errLow || s.flag .MGT_EOUT [] 30) ∧ u.mem = s.mem ∧ u.tiles = s.tiles ∧
        ∀ a, a ≠ Reg.adr .MGT_EOUT [] → u.rg a = s.rg a) ∧
    (s.mgt.errLow = false ∨ s.flag .MGT_EOUT [] 31 = false ∨ s.fld .MGT_EOUT [] 15 0 ≠ 0 ∨ s.flag .MGT_EOUT [] 30 = true ∨
      (∃ t, s.mgt.fellAt = some t ∧ s.pressNow < t + 1000) → exec .errOutRise s = .next s) ∧
    (s.mgt.errLow = true → s.flag .MGT_EOUT [] 31 = true → s.fld .MGT_EOUT [] 15 0 = 0 → s.flag .MGT_EOUT [] 30 = false →
      (∀ t, s.mgt.fellAt = some t → t + 1000 ≤ s.pressNow) → exec .errOutRise s = .next { s with mgt := { s.mgt with errLow := false } }) ∧
    (s.takes ini .MGT_CLSc [c.val] (s.rwPart .MGT_CLSc [c.val] + 4) →
      ∃ u, exec (.mgtClsClr ini c) s = .next u ∧ u.fld .MGT_CLSc [c.val] 31 16 = 0 ∧ u.actOf c.val = s.actOf c.val ∧ OnlyRegs s u [Reg.adr .MGT_CLSc [c.val]]) ∧
    (s.takes ini .MGT_WDGw [w.val] (s.rwPart .MGT_WDGw [w.val] + 2 ^ 31) →
      ∃ u, exec (.kick ini w) s = .next u ∧ u = { s with regs := u.regs, mgt := { s.mgt with wdg := s.mgt.wdg.put w.val s.pressNow } } ∧
        u.fld .MGT_WDGw [w.val] 19 0 = s.fld .MGT_WDGw [w.val] 19 0 ∧ u.flag .MGT_WDGw [w.val] 28 = s.flag .MGT_WDGw [w.val] 28 ∧
        u.flag .MGT_WDGw [w.val] 30 = s.flag .MGT_WDGw [w.val] 30 ∧ ∀ a, a ≠ Reg.adr .MGT_WDGw [w.val] → u.rg a = s.rg a) ∧
    (s.wdgDue w.val = false → exec (.watchdogExpiry w) s = .next s) ∧
    (s.wdgDue w.val = true →
      (w.val = 0 → ∃ u, exec (.watchdogExpiry w) s = .next u ∧ u.reg .GLB_RSTCAUSE [] = 16 ∧ u.gateOpen = false ∧ u.sec.island = none ∧ u.tiles = .empty ∧ u.pending = s.pending) ∧
      (1 ≤ w.val → s.flag .MGT_WDGw [w.val] 29 = false →
        ∃ u g, exec (.watchdogExpiry w) s = .next u ∧ u.flag .MGT_WDGw [w.val] 30 = true ∧ u.mgt.wdg.get 0 w.val = s.pressNow ∧ u.mgt.inflight = s.mgt.inflight ++ [g] ∧
          g.cls = 7 ∧ g.inst = w.val ∧ u.mem = s.mem ∧ u.tiles = s.tiles ∧ u.sec = s.sec ∧ ∀ a, a ≠ Reg.adr .MGT_WDGw [w.val] → u.rg a = s.rg a) ∧
      (1 ≤ w.val → w.val < 5 → s.flag .MGT_WDGw [w.val] 29 = true →
        ∃ u, exec (.watchdogExpiry w) s = .next u ∧ u.flag .MGT_WDGw [w.val] 30 = true ∧ u.fld .SCH_STATUS [w.val - 1] 1 0 = 0 ∧ u.flag .SCH_STATUS [w.val - 1] 3 = true ∧
          u.flag .SCH_CTRL [w.val - 1] 2 = false) ∧
      (5 ≤ w.val → s.flag .MGT_WDGw [w.val] 29 = true →
        ∃ u, exec (.watchdogExpiry w) s = .next u ∧ u.flag .MGT_WDGw [w.val] 30 = true ∧ u.flag .SEC_APPg [w.val - 5] 19 = false ∧
          (∀ i, i < 0x80000 → u.mem.rd (appBase (w.val - 5) + i) = 0) ∧ SameOutside s u (appBase (w.val - 5)) 0x80000 ∧ u.tiles = s.tiles)) ∧
    (s.takes ini .CTL_HARTOFF [] off.toNat → ∃ u, exec (.hartOffline ini off) s = .next u ∧ u.fld .CTL_HARTOFF [] 11 0 = off.toNat ∧ OnlyRegs s u [Reg.adr .CTL_HARTOFF []])

/-- R401 to R404: a comparison starts with the fields of its own write unless one runs; at its end it records the first unequal element, signals it and counts. A sparing is refused where R402 says, else it waits for the tile;
the copy starts once the tile is quiet, and its end moves the tile's memory, contexts and registers to the new slot, binds it, and brines and disables the old one. -/
def Obligations.ComparisonAndSparing : Prop :=
  ∀ (ini : Initiator) (c : Fin 4) (data : Word) (s : State) (slot l : Nat), s.up = true → s.Inv → s.hoopsSound → s.spares.wf = true →
    slot = bits data.toNat 21 16 → l = bits data.toNat 4 0 →
    (s.takes ini .MGT_CMP_CTL [] (putBits data.toNat 31 31 1) →
      ∃ u, exec (.cmpGo ini data) s = .next u ∧ u = { s with regs := u.regs, mgt := { s.mgt with cmp := u.mgt.cmp } } ∧
        (∀ a, a ≠ Reg.adr .MGT_CMP_CTL [] → u.rg a = s.rg a) ∧ (∀ r, s.mgt.cmp = some r → u.mgt.cmp = some r) ∧
        (s.mgt.cmp = none → u.mgt.cmp = some ⟨s.reg .MGT_CMP_A [] * 4096, s.reg .MGT_CMP_B [] * 4096, max 1 (s.fld .MGT_CMP_LEN [] 20 0) * 256, bits data.toNat 27 26,
          bits data.toNat 25 16, bits data.toNat 13 0⟩)) ∧
    (s.mgt.cmp = none → exec .cmpDone s = .next s) ∧
    (∀ r w, s.mgt.cmp = some r → r.cnt < 16384 → w = (if r.fmt = 0 then 1 else if r.fmt = 3 then 4 else 2) →
      ∃ u, exec .cmpDone s = .next u ∧ u.mgt.cmp = none ∧ u.reg .RNT_VALk [r.cnt] = (s.reg .RNT_VALk [r.cnt] + 1) % 2 ^ 32 ∧ u.mem = s.mem ∧
        ((∀ i, i < r.len / w → s.cmpBad (r.a + i * w) w = false ∧ s.cmpBad (r.b + i * w) w = false ∧
            cmpEqual r.fmt r.tol (s.mem.rdLE (r.a + i * w) w) (s.mem.rdLE (r.b + i * w) w) = true) → u.reg .MGT_CMP_RES [] = 0) ∧
        (∀ j, j < r.len / w →
          (∀ i, i < j → s.cmpBad (r.a + i * w) w = false ∧ s.cmpBad (r.b + i * w) w = false ∧
            cmpEqual r.fmt r.tol (s.mem.rdLE (r.a + i * w) w) (s.mem.rdLE (r.b + i * w) w) = true) →
          s.cmpBad (r.a + j * w) w = true ∨ s.cmpBad (r.b + j * w) w = true ∨
            cmpEqual r.fmt r.tol (s.mem.rdLE (r.a + j * w) w) (s.mem.rdLE (r.b + j * w) w) = false →
          u.reg .MGT_CMP_RES [] = 2 ^ 31 + j * w % 2 ^ 29 ∧ (∃ g ∈ u.mgt.inflight, g.cls = 9 ∧ g.data = j * w) ∧
          (s.cmpBad (r.a + j * w) w = true ∨ s.cmpBad (r.b + j * w) w = true → u.flag .MGT_CMP_CTL [] 29 = true))) ∧
    (s.takes ini .CLU_SPARE [c.val] (putBits data.toNat 31 31 1) →
      ((s.spares.find c.val).isSome = true ∨ 33 < slot ∨ (s.logicalOf (34 * c.val + slot)).isSome = true ∨ (s.tile (34 * c.val + slot)).ready = false ∨
          (s.jobOf (34 * c.val + slot)).isSome = true →
        ∃ u g, exec (.spareArm ini c data) s = .next u ∧ u.flag .CLU_SPARE [c.val] 29 = true ∧ u.flag .CLU_SPARE [c.val] 31 = (s.spares.find c.val).isSome ∧
          u.mgt.inflight = s.mgt.inflight ++ [g] ∧ g.cls = 12 ∧ g.code = 5 ∧ g.inst = c.val ∧ u.spares = s.spares ∧ u.mem = s.mem ∧ u.tiles = s.tiles ∧
          ∀ a, a ≠ Reg.adr .CLU_SPARE [c.val] → u.rg a = s.rg a) ∧
      (s.spares.find c.val = none → slot ≤ 33 → s.logicalOf (34 * c.val + slot) = none → (s.tile (34 * c.val + slot)).ready = true → s.jobOf (34 * c.val + slot) = none →
        ∃ u, exec (.spareArm ini c data) s = .next u ∧ u.flag .CLU_SPARE [c.val] 31 = true ∧ u.flag .CLU_SPARE [c.val] 30 = true ∧
          u = { s with regs := u.regs, spares := s.spares.put c.val ⟨l, s.physOf c.val l - 34 * c.val, slot, s.jobOf (s.physOf c.val l),
            if (s.jobOf (s.physOf c.val l)).isSome then .waiting else .holding⟩ } ∧
          ∀ a, a ≠ Reg.adr .CLU_SPARE [c.val] → u.rg a = s.rg a)) ∧
    (s.spares.find c.val = none → exec (.spareCopyStart c) s = .next s ∧ exec (.spareCopyEnd c) s = .next s) ∧
    (∀ sp, s.spares.find c.val = some sp →
      (sp.st = .holding → (s.tile (34 * c.val + sp.old)).reqs = [] → (s.tile (34 * c.val + sp.old)).fetches = [] →
        exec (.spareCopyStart c) s = .next { s with spares := s.spares.put c.val { sp with st := .copying } }) ∧
      (sp.st ≠ .holding ∨ (s.tile (34 * c.val + sp.old)).reqs ≠ [] ∨ (s.tile (34 * c.val + sp.old)).fetches ≠ [] → exec (.spareCopyStart c) s = .next s) ∧
      (sp.st ≠ .copying → exec (.spareCopyEnd c) s = .next s) ∧
      (sp.st = .copying → sp.old < 34 → sp.slot < 34 → sp.old ≠ sp.slot → sp.ltile < 32 → s.held = [] → (s.tile (34 * c.val + sp.old)).reqs = [] →
        ∃ u, exec (.spareCopyEnd c) s = .next u ∧ u.spares.find c.val = none ∧ u.fld .CLU_REMAPl [c.val, sp.ltile] 5 0 = sp.slot ∧
          (∀ i, i < 0x100000 → u.mem.rd (spadBase (34 * c.val + sp.slot) + i) = s.mem.rd (spadBase (34 * c.val + sp.old) + i)) ∧
          (∀ i, i < 0x100000 → u.mem.rd (spadBase (34 * c.val + sp.old) + i) = 0) ∧
          (∀ a, ¬ (spadBase (34 * c.val + sp.old) ≤ a ∧ a < spadBase (34 * c.val + sp.old) + 0x100000) →
            ¬ (spadBase (34 * c.val + sp.slot) ≤ a ∧ a < spadBase (34 * c.val + sp.slot) + 0x100000) → u.mem.rd a = s.mem.rd a) ∧
          (∀ k, u.ctxOf (34 * c.val + sp.slot) k =
            { s.ctxOf (34 * c.val + sp.old) k with
              bar := if (s.ctxOf (34 * c.val + sp.old) k).bar = .sent then .woken else (s.ctxOf (34 * c.val + sp.old) k).bar }) ∧
          (u.tile (34 * c.val + sp.slot)).ready = (s.tile (34 * c.val + sp.slot)).ready ∧ u.reg .TILE_JOB [c.val, sp.slot] = s.reg .TILE_JOB [c.val, sp.old] ∧
          (u.tile (34 * c.val + sp.old)).ready = false ∧ u.flag .TILE_CTRL [c.val, sp.old] 0 = false ∧ u.flag .CLU_SPARE [c.val] 30 = false ∧
          ∃ g ∈ u.mgt.inflight, g.cls = 12 ∧ g.code = 1 ∧ g.inst = c.val))

/-- R418, R423 to R426: PORST_N, a brown-out and a thermal trip return everything to its reset state but fuses, flash and what waits, record their cause and hold the device; a dip
that is short or shallow is signalled and no more, and VDD_X above its range is outside the limits. The loader runs once nothing holds the device. GLB_RSTREQ causes a boot reset. An alert is signalled once
until the ball has been high for 1 ms. -/
def Obligations.ResetSourcesAndBalls : Prop :=
  ∀ (ini : Initiator) (mV ns : Nat) (h : HoldSrc) (s : State), s.Inv →
    (∃ u, exec .porstNAssert s = .next u ∧ u.rst = { s.rst with porst := true } ∧ u.up = false ∧ u.reg .GLB_RSTCAUSE [] = 1 ∧ u.mem = State.reset.mem ∧
      u.tiles = State.reset.tiles ∧ u.swp = State.reset.swp ∧ u.mgt = State.reset.mgt ∧ u.net = State.reset.net ∧ u.fab = State.reset.fab ∧ u.vis = State.reset.vis ∧
      u.held = [] ∧ u.pending = s.pending ∧ u.sec.flash = s.sec.flash ∧ u.sec.island = none ∧ u.sec.boot = none ∧
      (s.sec.fuse = none → u.reg .SEC_MINVER_LO [] = s.reg .SEC_MINVER_LO [] ∧ u.reg .SEC_MINVER_HI [] = s.reg .SEC_MINVER_HI [] ∧ u.lcState = s.lcState ∧ u.fresh = s.fresh) ∧
      ∀ a, a ≠ Reg.adr .GLB_RSTCAUSE [] → a ≠ Reg.adr .SEC_MINVER_LO [] → a ≠ Reg.adr .SEC_MINVER_HI [] → a ≠ Reg.adr .SEC_LC [] → u.rg a = regReset a) ∧
    (∃ u, exec .thermalTrip s = .next u ∧ u.rst = { s.rst with trip := true } ∧ u.up = false ∧ u.reg .GLB_RSTCAUSE [] = 4 ∧ u.mem = State.reset.mem ∧
      u.tiles = State.reset.tiles ∧ u.mgt = State.reset.mgt ∧ u.pending = s.pending ∧ u.sec.flash = s.sec.flash) ∧
    (772 < mV → exec (.brownOut mV ns) s = .fault .outsideLimits) ∧
    (mV ≤ 772 →
      (mV < 660 ∨ (mV < 700 ∧ 2000 ≤ ns) →
        ∃ u, exec (.brownOut mV ns) s = .next u ∧ u.rst = { s.rst with bor := true } ∧ u.up = false ∧ u.reg .GLB_RSTCAUSE [] = 2 ∧ u.mem = State.reset.mem ∧
          u.tiles = State.reset.tiles ∧ u.pending = s.pending ∧ u.sec.flash = s.sec.flash) ∧
      (660 ≤ mV → 700 ≤ mV ∨ ns < 2000 → s.up = true → mV ≤ 727 → 1000 ≤ ns →
        ∃ u g, exec (.brownOut mV ns) s = .next u ∧ u.mgt = { s.mgt with inflight := s.mgt.inflight ++ [g] } ∧ g.cls = 14 ∧ g.code = 1 ∧
          u = { s with mgt := u.mgt, fresh := u.fresh }) ∧
      (660 ≤ mV → 700 ≤ mV ∨ ns < 2000 → s.up = false ∨ 727 < mV ∨ ns < 1000 → exec (.brownOut mV ns) s = .next s)) ∧
    (∀ held, held = { s.rst with bor := s.rst.bor && h != .bor, trip := s.rst.trip && h != .trip } →
      (held ≠ ⟨false, false, false⟩ ∨ s.up = true → exec (.resetHoldEnd h) s = .next { s with rst := held }) ∧
      (held = ⟨false, false, false⟩ → s.up = false →
        exec (.resetHoldEnd h) s = exec .porRelease { s with rst := ⟨true, false, false⟩ } ∧ ∃ u, exec (.resetHoldEnd h) s = .next u ∧ u.up = true ∧ u.sec.booted = true)) ∧
    (s.takes ini .GLB_RSTREQ [] 1 →
      ∃ u, exec (.glbRstreqBoot ini) s = .next u ∧ u.reg .GLB_RSTCAUSE [] = 32 ∧ u.gateOpen = false ∧ u.sec.island = none ∧ u.tiles = State.reset.tiles ∧ u.pending = s.pending ∧
        u.swp.cycle = s.swp.cycle ∧ ∀ a, u.mem.rd a = Mem.blank) ∧
    (s.up = true →
      (∀ high, high = true ∨ s.mgt.alerted = false →
        ∃ u g, exec (.pmbAlert high) s = .next u ∧ u.mgt = { s.mgt with alerted := true, inflight := s.mgt.inflight ++ [g] } ∧ g.cls = 14 ∧ g.code = 2 ∧
          u = { s with mgt := u.mgt, fresh := u.fresh }) ∧
      (s.mgt.alerted = true → exec (.pmbAlert false) s = .next s))

/-- R428: a rising edge of SYNC_PPS takes the gPTP time into GLB_PPS, over what an earlier edge left there, and has no other effect; a pulse shorter than 100 ns, or one that comes while NET_TCFG.EN is 0,
changes nothing. The sweep unit's own ball is under R60. -/
def Obligations.SyncPpsTimestamp : Prop :=
  ∀ (ns : Nat) (s : State), s.up = true → s.Inv →
    (ns < 100 ∨ s.flag .NET_TCFG [] 0 = false → exec (.syncPpsEdge ns) s = .next s) ∧
    (100 ≤ ns → s.flag .NET_TCFG [] 0 = true →
      ∃ u, exec (.syncPpsEdge ns) s = .next u ∧ u.reg64 .GLB_PPS_LO .GLB_PPS_HI [] = s.net.time % 2 ^ 64 ∧ OnlyRegs s u [Reg.adr .GLB_PPS_LO [], Reg.adr .GLB_PPS_HI []])

/-- R100, R101, R104: the encoder lays an instruction out in 64 bits and the decoder reads it back, with E, guard and every field at every value a legal word has; and a word that decodes
is the one word of its instruction. -/
def Obligations.RalokDecodeEncode : Prop :=
  (∀ (e : Bool) (w : RWord), w.legal = true → encodeWord e w < 2 ^ 64 ∧ decodeWord (encodeWord e w) = (e, some w)) ∧
  ∀ (n : Nat) (e : Bool) (w : RWord), n < 2 ^ 64 → decodeWord n = (e, some w) → encodeWord e w = n

/-- Whatever command a step runs, memory, registers and staging registers keep their canonical forms: each address listed once, in order, no blank byte listed (a property of the model's data). -/
def Obligations.StepKeepsCanonicalForms : Prop :=
  ∀ s t : State, s.Inv → step s = .next t → t.Inv

/-- Whatever command a step runs, the tables that other statements take as sound stay sound (a property of the model's data). -/
def Obligations.StepKeepsTables : Prop :=
  ∀ s t : State, s.tablesSound → step s = .next t → t.tablesSound

/-- R394, R423 and the state after reset: memory lists nothing (an unlisted byte reads as log 1 says), the forms and tables hold, every cluster is in RUN at OP4, no tile is on, no command waits, no error is signalled, and ERR_OUT_N is low. -/
def Obligations.ResetState : Prop :=
  State.reset.Inv ∧ State.reset.tablesSound ∧ State.reset.up = true ∧ State.reset.pending = [] ∧ State.reset.held = [] ∧
  (∀ a, State.reset.mem.rd a = Mem.blank) ∧ (∀ t, State.reset.tile t = Tile.zero) ∧
  (∀ c, c < 4 → State.reset.pst c = stRUN ∧ State.reset.eff c = 4 ∧ State.reset.clOp c = ClOp.reset) ∧ (∀ d, 3 < d → d < 7 → State.reset.eff d = 15) ∧
  State.reset.reg .PRS_WLAT [] = 0 ∧ State.reset.swp.st = .idle ∧ State.reset.mgt.log = [] ∧ State.reset.mgt.errLow = true ∧
  State.reset.reg .GLB_RSTCAUSE [] = 1 ∧ ∀ a, a ≠ Reg.adr .GLB_RSTCAUSE [] → State.reset.rg a = regReset a
end

