-- ==== Sys2Proof/Laws/Bits.lean ====
section
/-! SUPPORT. The laws of bit fields: what `bits`, `bit`, `putBits` and `storeBits` say bit by bit. -/

namespace Sys2Proof.Machine

theorem bit_eq (v i : Nat) : bit v i = v.testBit i := by
  simp only [bit, Nat.testBit_eq_decide_div_mod_eq]
  exact Bool.beq_eq_decide_eq _ _

theorem testBit_bits (v hi lo i : Nat) : (bits v hi lo).testBit i = (decide (i < hi + 1 - lo) && v.testBit (lo + i)) := by
  simp only [bits, Nat.testBit_mod_two_pow, Nat.testBit_div_two_pow, Nat.add_comm]

/-- A field and what stands below and above it. -/
theorem field_split (v hi lo : Nat) :
    v = 2 ^ lo * (2 ^ (hi + 1 - lo) * (v / 2 ^ lo / 2 ^ (hi + 1 - lo)) + bits v hi lo) + v % 2 ^ lo := by
  simp only [bits, Nat.div_add_mod]

theorem putBits_eq (v hi lo x : Nat) :
    putBits v hi lo x = 2 ^ lo * (2 ^ (hi + 1 - lo) * (v / 2 ^ lo / 2 ^ (hi + 1 - lo)) + x % 2 ^ (hi + 1 - lo)) + v % 2 ^ lo := by
  have h := field_split v hi lo
  simp only [putBits]
  generalize bits v hi lo = b at *
  generalize v / 2 ^ lo / 2 ^ (hi + 1 - lo) = q at *
  generalize x % 2 ^ (hi + 1 - lo) = y
  generalize v % 2 ^ lo = r at *
  rw [h]
  simp only [Nat.mul_add]
  rw [Nat.mul_comm b, Nat.mul_comm y]
  omega

/-- A field after it has been replaced, bit by bit. -/
theorem testBit_putBits (v hi lo x i : Nat) :
    (putBits v hi lo x).testBit i = if lo ≤ i ∧ i < hi + 1 then x.testBit (i - lo) else v.testBit i := by
  rw [putBits_eq, Nat.testBit_two_pow_mul_add _ (Nat.mod_lt _ (by positivity)), Nat.testBit_two_pow_mul_add _ (Nat.mod_lt _ (by positivity))]
  by_cases h1 : i < lo
  · have : ¬ (lo ≤ i ∧ i < hi + 1) := by omega
    rw [if_pos h1, if_neg this, Nat.testBit_mod_two_pow]
    simp [h1]
  · rw [if_neg h1]
    by_cases h2 : i - lo < hi + 1 - lo
    · have : lo ≤ i ∧ i < hi + 1 := by omega
      rw [if_pos h2, if_pos this, Nat.testBit_mod_two_pow]
      simp [h2]
    · have : ¬ (lo ≤ i ∧ i < hi + 1) := by omega
      rw [if_neg h2, if_neg this, Nat.testBit_div_two_pow, Nat.testBit_div_two_pow]
      congr 1
      omega

theorem bits_putBits_same (v hi lo x : Nat) : bits (putBits v hi lo x) hi lo = x % 2 ^ (hi + 1 - lo) := by
  apply Nat.eq_of_testBit_eq
  intro i
  rw [testBit_bits, testBit_putBits, Nat.testBit_mod_two_pow]
  by_cases h : i < hi + 1 - lo
  · have : lo ≤ lo + i ∧ lo + i < hi + 1 := by omega
    simp [h, this]
  · simp [h]

theorem bits_putBits_ne {hi lo hi' lo' : Nat} (h : hi' < lo ∨ hi < lo') (v x : Nat) : bits (putBits v hi lo x) hi' lo' = bits v hi' lo' := by
  apply Nat.eq_of_testBit_eq
  intro i
  rw [testBit_bits, testBit_bits, testBit_putBits]
  by_cases h2 : i < hi' + 1 - lo'
  · have : ¬ (lo ≤ lo' + i ∧ lo' + i < hi + 1) := by omega
    rw [if_neg this]
  · simp [h2]

theorem bit_putBits_same (v i : Nat) (b : Bool) : bit (putBits v i i (b2n b)) i = b := by
  rw [bit_eq, testBit_putBits]
  cases b <;> simp [b2n]

theorem bit_putBits_ne {i j : Nat} (h : j ≠ i) (v x : Nat) : bit (putBits v i i x) j = bit v j := by
  rw [bit_eq, bit_eq, testBit_putBits]
  have : ¬ (i ≤ j ∧ j < i + 1) := by omega
  rw [if_neg this]

theorem bits_lt (v hi lo : Nat) : bits v hi lo < 2 ^ (hi + 1 - lo) := Nat.mod_lt _ (by positivity)

/-- A word stays a word when one of its fields is replaced. -/
theorem putBits_lt {v hi n : Nat} (h : v < 2 ^ n) (hn : hi < n) (lo x : Nat) : putBits v hi lo x < 2 ^ n := by
  apply Nat.lt_pow_two_of_testBit
  intro i hi2
  rw [testBit_putBits]
  have : ¬ (lo ≤ i ∧ i < hi + 1) := by omega
  rw [if_neg this]
  exact Nat.testBit_lt_two_pow (Nat.lt_of_lt_of_le h (Nat.pow_le_pow_right (by decide) hi2))

/-- The lowest bit of a number from which a part of its bits is taken away. -/
theorem sub_sub_mask {v y : Nat} (hle : y ≤ v) (hp : y % 2 ≤ v % 2) : (v - y) % 2 = v % 2 - y % 2 ∧ (v - y) / 2 = v / 2 - y / 2 := by omega

theorem and_mod_two_le (v m : Nat) : (v &&& m) % 2 ≤ v % 2 := by
  have h0 := Nat.testBit_and v m 0
  simp only [Nat.testBit_zero] at h0
  generalize v &&& m = y at h0 ⊢
  by_cases hv : v % 2 = 1
  · omega
  · have : y % 2 ≠ 1 := by simpa [hv] using h0
    omega

theorem testBit_clearBits (v m i : Nat) : (clearBits v m).testBit i = (v.testBit i && !m.testBit i) := by
  change (v - (v &&& m)).testBit i = _
  induction i generalizing v m with
  | zero =>
    have h0 := Nat.testBit_and v m 0
    have hs := (sub_sub_mask Nat.and_le_left (and_mod_two_le v m)).1
    have hp := and_mod_two_le v m
    simp only [Nat.testBit_zero] at *
    rw [hs]
    generalize v &&& m = y at *
    by_cases hv : v % 2 = 1 <;> by_cases hm : m % 2 = 1 <;> by_cases hy : y % 2 = 1 <;> simp [hv, hm, hy] at h0 ⊢ <;> omega
  | succ i ih =>
    rw [Nat.testBit_succ, Nat.testBit_succ, Nat.testBit_succ, (sub_sub_mask Nat.and_le_left (and_mod_two_le v m)).2, Nat.and_div_two]
    exact ih (v / 2) (m / 2)

/-- What a write stores, bit by bit (R13, R39): a mask-selected bit takes the data; a field that any write clears is 0; W1S and W1C bits that are written as 1;
an RW bit takes the data; every other bit stays. -/
theorem testBit_storeBits (d : RegDesc) (rw old data i : Nat) :
    (storeBits d rw old data).testBit i =
      (!d.clr.testBit i &&
        if i < 16 && data.testBit (i + 16) && d.mw.testBit i then data.testBit i
        else if data.testBit i && d.w1s.testBit i then true
        else if data.testBit i && d.w1c.testBit i then false
        else if rw.testBit i then data.testBit i
        else old.testBit i) := by
  have hor : ∀ a b : Nat, (Nat.lor a b).testBit i = (a.testBit i || b.testBit i) := fun a b => Nat.testBit_or a b i
  have hand : ∀ a b : Nat, (Nat.land a b).testBit i = (a.testBit i && b.testBit i) := fun a b => Nat.testBit_and a b i
  simp only [storeBits, testBit_clearBits, hor, hand, Nat.testBit_mod_two_pow, Nat.testBit_div_two_pow]
  cases d.clr.testBit i <;> cases decide (i < 16) <;> cases data.testBit (i + 16) <;> cases d.mw.testBit i <;> cases data.testBit i <;>
    cases d.w1s.testBit i <;> cases d.w1c.testBit i <;> cases rw.testBit i <;> cases old.testBit i <;> rfl

end Sys2Proof.Machine
end

