-- ==== Sys2Proof/Laws/Tab.lean ====
section
/-! SUPPORT. The laws of sparse tables and of memory: a read after a write, and that every operation keeps the canonical form. -/

namespace Sys2Proof.Machine

variable {α : Type}

/-! ### Lists of pairs -/

@[simp] theorem lookupKey_insertKey_same (k : Nat) (v : α) (es : List (Nat × α)) : lookupKey (insertKey k v es) k = some v := by
  induction es with
  | nil => simp [insertKey, lookupKey]
  | cons e es ih =>
    obtain ⟨a, w⟩ := e
    unfold insertKey
    split
    · simp [lookupKey]
    · split
      · simp [lookupKey]
      · simp [lookupKey, *]

theorem lookupKey_insertKey_ne {k j : Nat} (h : j ≠ k) (v : α) (es : List (Nat × α)) : lookupKey (insertKey k v es) j = lookupKey es j := by
  induction es with
  | nil => simp [insertKey, lookupKey, Ne.symm h]
  | cons e es ih =>
    obtain ⟨a, w⟩ := e
    unfold insertKey
    split
    · simp [lookupKey, Ne.symm h]
    · split
      · rename_i h2
        subst h2
        simp [lookupKey, Ne.symm h]
      · simp [lookupKey, ih]

theorem lookupKey_eraseKey_ne {k j : Nat} (h : j ≠ k) (es : List (Nat × α)) : lookupKey (eraseKey k es) j = lookupKey es j := by
  induction es with
  | nil => simp [eraseKey]
  | cons e es ih =>
    obtain ⟨a, w⟩ := e
    unfold eraseKey
    split
    · rename_i h2
      subst h2
      simp [lookupKey, Ne.symm h]
    · simp [lookupKey, ih]

/-- Below the first key nothing is listed. -/
theorem lookupKey_below {b k : Nat} {es : List (Nat × α)} (h : risingFrom b es = true) (hk : k < b) : lookupKey es k = none := by
  induction es generalizing b with
  | nil => rfl
  | cons e es ih =>
    obtain ⟨a, w⟩ := e
    simp only [risingFrom, Bool.and_eq_true, decide_eq_true_eq] at h
    have : a ≠ k := by omega
    simp [lookupKey, this, ih h.2 (by omega)]

theorem lookupKey_eraseKey_same {b : Nat} (k : Nat) {es : List (Nat × α)} (h : risingFrom b es = true) : lookupKey (eraseKey k es) k = none := by
  induction es generalizing b with
  | nil => rfl
  | cons e es ih =>
    obtain ⟨a, w⟩ := e
    simp only [risingFrom, Bool.and_eq_true, decide_eq_true_eq] at h
    unfold eraseKey
    split
    · rename_i h2
      subst h2
      exact lookupKey_below h.2 (by omega)
    · simp [lookupKey, *, ih h.2]

theorem risingFrom_le {b c : Nat} {es : List (Nat × α)} (h : risingFrom b es = true) (hc : c ≤ b) : risingFrom c es = true := by
  cases es with
  | nil => rfl
  | cons e es =>
    obtain ⟨a, w⟩ := e
    simp only [risingFrom, Bool.and_eq_true, decide_eq_true_eq] at *
    exact ⟨by omega, h.2⟩

theorem risingFrom_insertKey {b k : Nat} (v : α) {es : List (Nat × α)} (h : risingFrom b es = true) (hk : b ≤ k) :
    risingFrom b (insertKey k v es) = true := by
  induction es generalizing b with
  | nil => simp [insertKey, risingFrom, hk]
  | cons e es ih =>
    obtain ⟨a, w⟩ := e
    simp only [risingFrom, Bool.and_eq_true, decide_eq_true_eq] at h
    unfold insertKey
    split
    · rename_i hlt
      simp only [risingFrom, Bool.and_eq_true, decide_eq_true_eq]
      exact ⟨hk, by omega, h.2⟩
    · split
      · rename_i h2
        subst h2
        simpa [risingFrom] using h
      · simp only [risingFrom, Bool.and_eq_true, decide_eq_true_eq]
        exact ⟨h.1, ih h.2 (by omega)⟩

theorem risingFrom_eraseKey {b : Nat} (k : Nat) {es : List (Nat × α)} (h : risingFrom b es = true) : risingFrom b (eraseKey k es) = true := by
  induction es generalizing b with
  | nil => rfl
  | cons e es ih =>
    obtain ⟨a, w⟩ := e
    simp only [risingFrom, Bool.and_eq_true, decide_eq_true_eq] at h
    unfold eraseKey
    split
    · exact risingFrom_le h.2 (by omega)
    · simp only [risingFrom, Bool.and_eq_true, decide_eq_true_eq]
      exact ⟨h.1, ih h.2⟩

theorem risingFrom_filter {b : Nat} (p : Nat × α → Bool) {es : List (Nat × α)} (h : risingFrom b es = true) : risingFrom b (es.filter p) = true := by
  induction es generalizing b with
  | nil => rfl
  | cons e es ih =>
    obtain ⟨a, w⟩ := e
    simp only [risingFrom, Bool.and_eq_true, decide_eq_true_eq] at h
    rw [List.filter_cons]
    split
    · simp only [risingFrom, Bool.and_eq_true, decide_eq_true_eq]
      exact ⟨h.1, ih h.2⟩
    · exact risingFrom_le (ih h.2) (by omega)

theorem lookupKey_filter (f : Nat → Bool) (es : List (Nat × α)) (k : Nat) :
    lookupKey (es.filter (fun e => f e.1)) k = if f k then lookupKey es k else none := by
  induction es with
  | nil => simp [lookupKey]
  | cons e es ih =>
    obtain ⟨a, w⟩ := e
    rw [List.filter_cons]
    by_cases hak : a = k
    · subst hak
      by_cases hf : f a = true
      · simp [lookupKey, hf]
      · simp [hf, ih]
    · by_cases hf : f a = true
      · simp [lookupKey, hf, hak, ih]
      · simp [lookupKey, hf, hak, ih]

/-! ### Tables -/

@[simp] theorem Tab.find_put_same (t : Tab α) (k : Nat) (v : α) : (t.put k v).find k = some v := lookupKey_insertKey_same k v t.entries

theorem Tab.find_put_ne {k j : Nat} (h : j ≠ k) (t : Tab α) (v : α) : (t.put k v).find j = t.find j := lookupKey_insertKey_ne h v t.entries

@[simp] theorem Tab.get_put_same (t : Tab α) (d : α) (k : Nat) (v : α) : (t.put k v).get d k = v := by simp [Tab.get]

theorem Tab.get_put_ne {k j : Nat} (h : j ≠ k) (t : Tab α) (d v : α) : (t.put k v).get d j = t.get d j := by simp [Tab.get, Tab.find_put_ne h]

theorem Tab.find_erase_ne {k j : Nat} (h : j ≠ k) (t : Tab α) : (t.erase k).find j = t.find j := lookupKey_eraseKey_ne h t.entries

theorem Tab.find_erase_same {t : Tab α} (h : t.wf = true) (k : Nat) : (t.erase k).find k = none := lookupKey_eraseKey_same k h

theorem Tab.get_set_same [DecidableEq α] {t : Tab α} (h : t.wf = true) (d : α) (k : Nat) (v : α) : (t.set d k v).get d k = v := by
  unfold Tab.set
  split
  · rename_i h2
    subst h2
    simp [Tab.get, Tab.find_erase_same h]
  · simp

theorem Tab.get_set_ne [DecidableEq α] {k j : Nat} (h : j ≠ k) (t : Tab α) (d e v : α) : (t.set e k v).get d j = t.get d j := by
  unfold Tab.set
  split
  · simp [Tab.get, Tab.find_erase_ne h]
  · exact Tab.get_put_ne h t d v

@[simp] theorem Tab.wf_empty : (Tab.empty : Tab α).wf = true := rfl

theorem Tab.wf_put {t : Tab α} (h : t.wf = true) (k : Nat) (v : α) : (t.put k v).wf = true := risingFrom_insertKey v h (Nat.zero_le k)

theorem Tab.wf_erase {t : Tab α} (h : t.wf = true) (k : Nat) : (t.erase k).wf = true := risingFrom_eraseKey k h

theorem Tab.wf_set [DecidableEq α] {t : Tab α} (h : t.wf = true) (d : α) (k : Nat) (v : α) : (t.set d k v).wf = true := by
  unfold Tab.set
  split
  · exact Tab.wf_erase h k
  · exact Tab.wf_put h k v

theorem Tab.wf_filter {t : Tab α} (h : t.wf = true) (p : Nat × α → Bool) : (Tab.mk (t.entries.filter p)).wf = true := risingFrom_filter p h

/-! ### Memory -/

theorem Mem.rd_wr_same {m : Mem} (h : m.wf = true) (a : Nat) (b : Byte) : (m.wr a b).rd a = b := by
  simp only [Mem.wf, Bool.and_eq_true] at h
  unfold Mem.wr
  split
  · rename_i h2
    subst h2
    simp [Mem.rd, lookupKey_eraseKey_same a h.1]
  · simp [Mem.rd]

theorem Mem.rd_wr_ne {a x : Nat} (h : x ≠ a) (m : Mem) (b : Byte) : (m.wr a b).rd x = m.rd x := by
  unfold Mem.wr
  split
  · simp [Mem.rd, lookupKey_eraseKey_ne h]
  · simp [Mem.rd, lookupKey_insertKey_ne h]

theorem all_insertKey (p : Nat × α → Bool) {k : Nat} {v : α} {es : List (Nat × α)} (h : es.all p = true) (hv : p (k, v) = true) :
    (insertKey k v es).all p = true := by
  induction es with
  | nil => simp [insertKey, hv]
  | cons e es ih =>
    obtain ⟨a, w⟩ := e
    simp only [List.all_cons, Bool.and_eq_true] at h
    unfold insertKey
    split
    · simp [h, hv]
    · split
      · rename_i h2
        subst h2
        simp [h, hv]
      · simp [h, ih h.2]

theorem all_eraseKey (p : Nat × α → Bool) (k : Nat) {es : List (Nat × α)} (h : es.all p = true) : (eraseKey k es).all p = true := by
  induction es with
  | nil => rfl
  | cons e es ih =>
    obtain ⟨a, w⟩ := e
    simp only [List.all_cons, Bool.and_eq_true] at h
    unfold eraseKey
    split
    · exact h.2
    · simp [h, ih h.2]

/-- A write of a byte keeps the canonical form. -/
theorem Mem.wf_wr {m : Mem} (h : m.wf = true) (a : Nat) (b : Byte) : (m.wr a b).wf = true := by
  simp only [Mem.wf, Bool.and_eq_true] at *
  unfold Mem.wr
  split
  · exact ⟨risingFrom_eraseKey a h.1, all_eraseKey _ a h.2⟩
  · exact ⟨risingFrom_insertKey b h.1 (Nat.zero_le a), all_insertKey _ h.2 (by simpa using ‹_›)⟩

/-- A write of bytes keeps the canonical form. -/
theorem Mem.wf_wrBytes {m : Mem} (h : m.wf = true) (a : Nat) (bs : List Byte) : (m.wrBytes a bs).wf = true := by
  induction bs generalizing m a with
  | nil => exact h
  | cons b bs ih => exact ih (Mem.wf_wr h a b) (a + 1)

/-- Keeping some of the cells keeps the canonical form. -/
theorem Mem.wf_filter {m : Mem} (h : m.wf = true) (p : Host.Cell → Bool) : (Mem.mk (m.cells.filter p)).wf = true := by
  simp only [Mem.wf, Bool.and_eq_true] at *
  refine ⟨risingFrom_filter p h.1, ?_⟩
  rw [List.all_eq_true] at *
  intro c hc
  exact h.2 c (List.mem_filter.mp hc).1

/-- Clearing a range keeps the canonical form. -/
theorem Mem.wf_zero {m : Mem} (h : m.wf = true) (a n : Nat) : (m.zero a n).wf = true := Mem.wf_filter h _

/-- A byte after a write of bytes: the byte written there, or the byte of before. -/
theorem Mem.rd_wrBytes {m : Mem} (h : m.wf = true) (a : Nat) (bs : List Byte) (x : Nat) :
    (m.wrBytes a bs).rd x = if a ≤ x ∧ x < a + bs.length then bs.getD (x - a) 0 else m.rd x := by
  induction bs generalizing m a with
  | nil =>
    have : ¬ (a ≤ x ∧ x < a + ([] : List Byte).length) := by simp only [List.length_nil]; omega
    rw [if_neg this]
    rfl
  | cons b bs ih =>
    simp only [Mem.wrBytes, ih (Mem.wf_wr h a b), List.length_cons]
    by_cases h1 : x = a
    · subst h1
      have e1 : ¬ (x + 1 ≤ x ∧ x < x + 1 + bs.length) := by omega
      have e2 : x ≤ x ∧ x < x + (bs.length + 1) := by omega
      rw [if_neg e1, if_pos e2, Mem.rd_wr_same h]
      simp
    · by_cases h2 : a + 1 ≤ x ∧ x < a + 1 + bs.length
      · have e2 : a ≤ x ∧ x < a + (bs.length + 1) := by omega
        rw [if_pos h2, if_pos e2]
        have e3 : x - a = (x - (a + 1)) + 1 := by omega
        rw [e3]
        simp
      · have e2 : ¬ (a ≤ x ∧ x < a + (bs.length + 1)) := by omega
        rw [if_neg h2, if_neg e2, Mem.rd_wr_ne h1]

/-- A byte after a range is cleared. -/
theorem Mem.rd_zero (m : Mem) (a n x : Nat) : (m.zero a n).rd x = if a ≤ x ∧ x < a + n then 0 else m.rd x := by
  have := lookupKey_filter (fun k => !(decide (a ≤ k) && decide (k < a + n))) m.cells x
  simp only [Mem.rd, Mem.zero, this]
  by_cases hx : a ≤ x ∧ x < a + n
  · simp [hx, Mem.blank]
  · rw [if_neg hx]
    have : (!(decide (a ≤ x) && decide (x < a + n))) = true := by simp; omega
    simp [this]

theorem Mem.rdBytes_length (m : Mem) (a n : Nat) : (m.rdBytes a n).length = n := by
  induction n generalizing a with
  | zero => rfl
  | succ n ih => simp [Mem.rdBytes, ih]

theorem Mem.rdBytes_congr {m m' : Mem} {a n : Nat} (h : ∀ x, a ≤ x → x < a + n → m'.rd x = m.rd x) : m'.rdBytes a n = m.rdBytes a n := by
  induction n generalizing a with
  | zero => rfl
  | succ n ih =>
    simp only [Mem.rdBytes]
    rw [h a (by omega) (by omega), ih (fun x h1 h2 => h x (by omega) (by omega))]

/-- What was written is read back. -/
theorem Mem.rdBytes_wrBytes {m : Mem} (h : m.wf = true) (a : Nat) (bs : List Byte) : (m.wrBytes a bs).rdBytes a bs.length = bs := by
  induction bs generalizing m a with
  | nil => rfl
  | cons b bs ih =>
    simp only [Mem.wrBytes, List.length_cons, Mem.rdBytes]
    rw [ih (Mem.wf_wr h a b), Mem.rd_wrBytes (Mem.wf_wr h a b), if_neg (by omega), Mem.rd_wr_same h]

@[simp] theorem leBytes_length (n v : Nat) : (leBytes n v).length = n := by
  induction n generalizing v with
  | zero => rfl
  | succ n ih => simp [leBytes, ih]

theorem leNat_leBytes (n v : Nat) : leNat (leBytes n v) = v % 256 ^ n := by
  induction n generalizing v with
  | zero => simp [leBytes, leNat, Nat.mod_one]
  | succ n ih =>
    simp only [leBytes, leNat, ih, BitVec.toNat_ofNat]
    rw [show v % 2 ^ 8 = v % 256 from rfl, Nat.pow_succ', Nat.mod_mul]

/-- A number written as `n` bytes is read back. -/
theorem Mem.rdLE_wrLE {m : Mem} (h : m.wf = true) (a n v : Nat) : (m.wrLE a n v).rdLE a n = v % 256 ^ n := by
  have := Mem.rdBytes_wrBytes h a (leBytes n v)
  rw [leBytes_length] at this
  simp only [Mem.rdLE, Mem.wrLE, this, leNat_leBytes]

end Sys2Proof.Machine
end

