-- ==== Sys2Proof/Laws/State.lean ====
section
/-! SUPPORT. One lemma per field per update of the state, each true by unfolding, and what a read of a register, a tile or a context answers after a write of one. -/

namespace Sys2Proof.Machine
open Sys2Proof

/-! ### `State.setRg` changes `regs` only -/

@[simp] theorem State.setRg_pending (s : State) (a : Nat) (v : Word) : (s.setRg a v).pending = s.pending := rfl
@[simp] theorem State.setRg_stage (s : State) (a : Nat) (v : Word) : (s.setRg a v).stage = s.stage := rfl
@[simp] theorem State.setRg_mem (s : State) (a : Nat) (v : Word) : (s.setRg a v).mem = s.mem := rfl
@[simp] theorem State.setRg_poison (s : State) (a : Nat) (v : Word) : (s.setRg a v).poison = s.poison := rfl
@[simp] theorem State.setRg_fresh (s : State) (a : Nat) (v : Word) : (s.setRg a v).fresh = s.fresh := rfl
@[simp] theorem State.setRg_swp (s : State) (a : Nat) (v : Word) : (s.setRg a v).swp = s.swp := rfl
@[simp] theorem State.setRg_tiles (s : State) (a : Nat) (v : Word) : (s.setRg a v).tiles = s.tiles := rfl
@[simp] theorem State.setRg_fab (s : State) (a : Nat) (v : Word) : (s.setRg a v).fab = s.fab := rfl
@[simp] theorem State.setRg_mgt (s : State) (a : Nat) (v : Word) : (s.setRg a v).mgt = s.mgt := rfl
@[simp] theorem State.setRg_prs (s : State) (a : Nat) (v : Word) : (s.setRg a v).prs = s.prs := rfl
@[simp] theorem State.setRg_events (s : State) (a : Nat) (v : Word) : (s.setRg a v).events = s.events := rfl
@[simp] theorem State.setRg_fw (s : State) (a : Nat) (v : Word) : (s.setRg a v).fw = s.fw := rfl
@[simp] theorem State.setRg_net (s : State) (a : Nat) (v : Word) : (s.setRg a v).net = s.net := rfl
@[simp] theorem State.setRg_att (s : State) (a : Nat) (v : Word) : (s.setRg a v).att = s.att := rfl
@[simp] theorem State.setRg_vis (s : State) (a : Nat) (v : Word) : (s.setRg a v).vis = s.vis := rfl
@[simp] theorem State.setRg_cod (s : State) (a : Nat) (v : Word) : (s.setRg a v).cod = s.cod := rfl
@[simp] theorem State.setRg_spares (s : State) (a : Nat) (v : Word) : (s.setRg a v).spares = s.spares := rfl
@[simp] theorem State.setRg_held (s : State) (a : Nat) (v : Word) : (s.setRg a v).held = s.held := rfl
@[simp] theorem State.setRg_sec (s : State) (a : Nat) (v : Word) : (s.setRg a v).sec = s.sec := rfl
@[simp] theorem State.setRg_rst (s : State) (a : Nat) (v : Word) : (s.setRg a v).rst = s.rst := rfl

/-! ### `State.setReg` changes `regs` only -/

@[simp] theorem State.setReg_pending (s : State) (r : Reg) (is : List Nat) (v : Nat) : (s.setReg r is v).pending = s.pending := rfl
@[simp] theorem State.setReg_stage (s : State) (r : Reg) (is : List Nat) (v : Nat) : (s.setReg r is v).stage = s.stage := rfl
@[simp] theorem State.setReg_mem (s : State) (r : Reg) (is : List Nat) (v : Nat) : (s.setReg r is v).mem = s.mem := rfl
@[simp] theorem State.setReg_poison (s : State) (r : Reg) (is : List Nat) (v : Nat) : (s.setReg r is v).poison = s.poison := rfl
@[simp] theorem State.setReg_fresh (s : State) (r : Reg) (is : List Nat) (v : Nat) : (s.setReg r is v).fresh = s.fresh := rfl
@[simp] theorem State.setReg_swp (s : State) (r : Reg) (is : List Nat) (v : Nat) : (s.setReg r is v).swp = s.swp := rfl
@[simp] theorem State.setReg_tiles (s : State) (r : Reg) (is : List Nat) (v : Nat) : (s.setReg r is v).tiles = s.tiles := rfl
@[simp] theorem State.setReg_fab (s : State) (r : Reg) (is : List Nat) (v : Nat) : (s.setReg r is v).fab = s.fab := rfl
@[simp] theorem State.setReg_mgt (s : State) (r : Reg) (is : List Nat) (v : Nat) : (s.setReg r is v).mgt = s.mgt := rfl
@[simp] theorem State.setReg_prs (s : State) (r : Reg) (is : List Nat) (v : Nat) : (s.setReg r is v).prs = s.prs := rfl
@[simp] theorem State.setReg_events (s : State) (r : Reg) (is : List Nat) (v : Nat) : (s.setReg r is v).events = s.events := rfl
@[simp] theorem State.setReg_fw (s : State) (r : Reg) (is : List Nat) (v : Nat) : (s.setReg r is v).fw = s.fw := rfl
@[simp] theorem State.setReg_net (s : State) (r : Reg) (is : List Nat) (v : Nat) : (s.setReg r is v).net = s.net := rfl
@[simp] theorem State.setReg_att (s : State) (r : Reg) (is : List Nat) (v : Nat) : (s.setReg r is v).att = s.att := rfl
@[simp] theorem State.setReg_vis (s : State) (r : Reg) (is : List Nat) (v : Nat) : (s.setReg r is v).vis = s.vis := rfl
@[simp] theorem State.setReg_cod (s : State) (r : Reg) (is : List Nat) (v : Nat) : (s.setReg r is v).cod = s.cod := rfl
@[simp] theorem State.setReg_spares (s : State) (r : Reg) (is : List Nat) (v : Nat) : (s.setReg r is v).spares = s.spares := rfl
@[simp] theorem State.setReg_held (s : State) (r : Reg) (is : List Nat) (v : Nat) : (s.setReg r is v).held = s.held := rfl
@[simp] theorem State.setReg_sec (s : State) (r : Reg) (is : List Nat) (v : Nat) : (s.setReg r is v).sec = s.sec := rfl
@[simp] theorem State.setReg_rst (s : State) (r : Reg) (is : List Nat) (v : Nat) : (s.setReg r is v).rst = s.rst := rfl

/-! ### `State.setFld` changes `regs` only -/

@[simp] theorem State.setFld_pending (s : State) (r : Reg) (is : List Nat) (hi lo v : Nat) : (s.setFld r is hi lo v).pending = s.pending := rfl
@[simp] theorem State.setFld_stage (s : State) (r : Reg) (is : List Nat) (hi lo v : Nat) : (s.setFld r is hi lo v).stage = s.stage := rfl
@[simp] theorem State.setFld_mem (s : State) (r : Reg) (is : List Nat) (hi lo v : Nat) : (s.setFld r is hi lo v).mem = s.mem := rfl
@[simp] theorem State.setFld_poison (s : State) (r : Reg) (is : List Nat) (hi lo v : Nat) : (s.setFld r is hi lo v).poison = s.poison := rfl
@[simp] theorem State.setFld_fresh (s : State) (r : Reg) (is : List Nat) (hi lo v : Nat) : (s.setFld r is hi lo v).fresh = s.fresh := rfl
@[simp] theorem State.setFld_swp (s : State) (r : Reg) (is : List Nat) (hi lo v : Nat) : (s.setFld r is hi lo v).swp = s.swp := rfl
@[simp] theorem State.setFld_tiles (s : State) (r : Reg) (is : List Nat) (hi lo v : Nat) : (s.setFld r is hi lo v).tiles = s.tiles := rfl
@[simp] theorem State.setFld_fab (s : State) (r : Reg) (is : List Nat) (hi lo v : Nat) : (s.setFld r is hi lo v).fab = s.fab := rfl
@[simp] theorem State.setFld_mgt (s : State) (r : Reg) (is : List Nat) (hi lo v : Nat) : (s.setFld r is hi lo v).mgt = s.mgt := rfl
@[simp] theorem State.setFld_prs (s : State) (r : Reg) (is : List Nat) (hi lo v : Nat) : (s.setFld r is hi lo v).prs = s.prs := rfl
@[simp] theorem State.setFld_events (s : State) (r : Reg) (is : List Nat) (hi lo v : Nat) : (s.setFld r is hi lo v).events = s.events := rfl
@[simp] theorem State.setFld_fw (s : State) (r : Reg) (is : List Nat) (hi lo v : Nat) : (s.setFld r is hi lo v).fw = s.fw := rfl
@[simp] theorem State.setFld_net (s : State) (r : Reg) (is : List Nat) (hi lo v : Nat) : (s.setFld r is hi lo v).net = s.net := rfl
@[simp] theorem State.setFld_att (s : State) (r : Reg) (is : List Nat) (hi lo v : Nat) : (s.setFld r is hi lo v).att = s.att := rfl
@[simp] theorem State.setFld_vis (s : State) (r : Reg) (is : List Nat) (hi lo v : Nat) : (s.setFld r is hi lo v).vis = s.vis := rfl
@[simp] theorem State.setFld_cod (s : State) (r : Reg) (is : List Nat) (hi lo v : Nat) : (s.setFld r is hi lo v).cod = s.cod := rfl
@[simp] theorem State.setFld_spares (s : State) (r : Reg) (is : List Nat) (hi lo v : Nat) : (s.setFld r is hi lo v).spares = s.spares := rfl
@[simp] theorem State.setFld_held (s : State) (r : Reg) (is : List Nat) (hi lo v : Nat) : (s.setFld r is hi lo v).held = s.held := rfl
@[simp] theorem State.setFld_sec (s : State) (r : Reg) (is : List Nat) (hi lo v : Nat) : (s.setFld r is hi lo v).sec = s.sec := rfl
@[simp] theorem State.setFld_rst (s : State) (r : Reg) (is : List Nat) (hi lo v : Nat) : (s.setFld r is hi lo v).rst = s.rst := rfl

/-! ### `State.setFlag` changes `regs` only -/

@[simp] theorem State.setFlag_pending (s : State) (r : Reg) (is : List Nat) (i : Nat) (b : Bool) : (s.setFlag r is i b).pending = s.pending := rfl
@[simp] theorem State.setFlag_stage (s : State) (r : Reg) (is : List Nat) (i : Nat) (b : Bool) : (s.setFlag r is i b).stage = s.stage := rfl
@[simp] theorem State.setFlag_mem (s : State) (r : Reg) (is : List Nat) (i : Nat) (b : Bool) : (s.setFlag r is i b).mem = s.mem := rfl
@[simp] theorem State.setFlag_poison (s : State) (r : Reg) (is : List Nat) (i : Nat) (b : Bool) : (s.setFlag r is i b).poison = s.poison := rfl
@[simp] theorem State.setFlag_fresh (s : State) (r : Reg) (is : List Nat) (i : Nat) (b : Bool) : (s.setFlag r is i b).fresh = s.fresh := rfl
@[simp] theorem State.setFlag_swp (s : State) (r : Reg) (is : List Nat) (i : Nat) (b : Bool) : (s.setFlag r is i b).swp = s.swp := rfl
@[simp] theorem State.setFlag_tiles (s : State) (r : Reg) (is : List Nat) (i : Nat) (b : Bool) : (s.setFlag r is i b).tiles = s.tiles := rfl
@[simp] theorem State.setFlag_fab (s : State) (r : Reg) (is : List Nat) (i : Nat) (b : Bool) : (s.setFlag r is i b).fab = s.fab := rfl
@[simp] theorem State.setFlag_mgt (s : State) (r : Reg) (is : List Nat) (i : Nat) (b : Bool) : (s.setFlag r is i b).mgt = s.mgt := rfl
@[simp] theorem State.setFlag_prs (s : State) (r : Reg) (is : List Nat) (i : Nat) (b : Bool) : (s.setFlag r is i b).prs = s.prs := rfl
@[simp] theorem State.setFlag_events (s : State) (r : Reg) (is : List Nat) (i : Nat) (b : Bool) : (s.setFlag r is i b).events = s.events := rfl
@[simp] theorem State.setFlag_fw (s : State) (r : Reg) (is : List Nat) (i : Nat) (b : Bool) : (s.setFlag r is i b).fw = s.fw := rfl
@[simp] theorem State.setFlag_net (s : State) (r : Reg) (is : List Nat) (i : Nat) (b : Bool) : (s.setFlag r is i b).net = s.net := rfl
@[simp] theorem State.setFlag_att (s : State) (r : Reg) (is : List Nat) (i : Nat) (b : Bool) : (s.setFlag r is i b).att = s.att := rfl
@[simp] theorem State.setFlag_vis (s : State) (r : Reg) (is : List Nat) (i : Nat) (b : Bool) : (s.setFlag r is i b).vis = s.vis := rfl
@[simp] theorem State.setFlag_cod (s : State) (r : Reg) (is : List Nat) (i : Nat) (b : Bool) : (s.setFlag r is i b).cod = s.cod := rfl
@[simp] theorem State.setFlag_spares (s : State) (r : Reg) (is : List Nat) (i : Nat) (b : Bool) : (s.setFlag r is i b).spares = s.spares := rfl
@[simp] theorem State.setFlag_held (s : State) (r : Reg) (is : List Nat) (i : Nat) (b : Bool) : (s.setFlag r is i b).held = s.held := rfl
@[simp] theorem State.setFlag_sec (s : State) (r : Reg) (is : List Nat) (i : Nat) (b : Bool) : (s.setFlag r is i b).sec = s.sec := rfl
@[simp] theorem State.setFlag_rst (s : State) (r : Reg) (is : List Nat) (i : Nat) (b : Bool) : (s.setFlag r is i b).rst = s.rst := rfl

/-! ### `State.satInc` changes `regs` only -/

@[simp] theorem State.satInc_pending (s : State) (r : Reg) (is : List Nat) (hi lo n : Nat) : (s.satInc r is hi lo n).pending = s.pending := rfl
@[simp] theorem State.satInc_stage (s : State) (r : Reg) (is : List Nat) (hi lo n : Nat) : (s.satInc r is hi lo n).stage = s.stage := rfl
@[simp] theorem State.satInc_mem (s : State) (r : Reg) (is : List Nat) (hi lo n : Nat) : (s.satInc r is hi lo n).mem = s.mem := rfl
@[simp] theorem State.satInc_poison (s : State) (r : Reg) (is : List Nat) (hi lo n : Nat) : (s.satInc r is hi lo n).poison = s.poison := rfl
@[simp] theorem State.satInc_fresh (s : State) (r : Reg) (is : List Nat) (hi lo n : Nat) : (s.satInc r is hi lo n).fresh = s.fresh := rfl
@[simp] theorem State.satInc_swp (s : State) (r : Reg) (is : List Nat) (hi lo n : Nat) : (s.satInc r is hi lo n).swp = s.swp := rfl
@[simp] theorem State.satInc_tiles (s : State) (r : Reg) (is : List Nat) (hi lo n : Nat) : (s.satInc r is hi lo n).tiles = s.tiles := rfl
@[simp] theorem State.satInc_fab (s : State) (r : Reg) (is : List Nat) (hi lo n : Nat) : (s.satInc r is hi lo n).fab = s.fab := rfl
@[simp] theorem State.satInc_mgt (s : State) (r : Reg) (is : List Nat) (hi lo n : Nat) : (s.satInc r is hi lo n).mgt = s.mgt := rfl
@[simp] theorem State.satInc_prs (s : State) (r : Reg) (is : List Nat) (hi lo n : Nat) : (s.satInc r is hi lo n).prs = s.prs := rfl
@[simp] theorem State.satInc_events (s : State) (r : Reg) (is : List Nat) (hi lo n : Nat) : (s.satInc r is hi lo n).events = s.events := rfl
@[simp] theorem State.satInc_fw (s : State) (r : Reg) (is : List Nat) (hi lo n : Nat) : (s.satInc r is hi lo n).fw = s.fw := rfl
@[simp] theorem State.satInc_net (s : State) (r : Reg) (is : List Nat) (hi lo n : Nat) : (s.satInc r is hi lo n).net = s.net := rfl
@[simp] theorem State.satInc_att (s : State) (r : Reg) (is : List Nat) (hi lo n : Nat) : (s.satInc r is hi lo n).att = s.att := rfl
@[simp] theorem State.satInc_vis (s : State) (r : Reg) (is : List Nat) (hi lo n : Nat) : (s.satInc r is hi lo n).vis = s.vis := rfl
@[simp] theorem State.satInc_cod (s : State) (r : Reg) (is : List Nat) (hi lo n : Nat) : (s.satInc r is hi lo n).cod = s.cod := rfl
@[simp] theorem State.satInc_spares (s : State) (r : Reg) (is : List Nat) (hi lo n : Nat) : (s.satInc r is hi lo n).spares = s.spares := rfl
@[simp] theorem State.satInc_held (s : State) (r : Reg) (is : List Nat) (hi lo n : Nat) : (s.satInc r is hi lo n).held = s.held := rfl
@[simp] theorem State.satInc_sec (s : State) (r : Reg) (is : List Nat) (hi lo n : Nat) : (s.satInc r is hi lo n).sec = s.sec := rfl
@[simp] theorem State.satInc_rst (s : State) (r : Reg) (is : List Nat) (hi lo n : Nat) : (s.satInc r is hi lo n).rst = s.rst := rfl

/-! ### `State.setReg64` changes `regs` only -/

@[simp] theorem State.setReg64_pending (s : State) (lo hi : Reg) (is : List Nat) (v : Nat) : (s.setReg64 lo hi is v).pending = s.pending := rfl
@[simp] theorem State.setReg64_stage (s : State) (lo hi : Reg) (is : List Nat) (v : Nat) : (s.setReg64 lo hi is v).stage = s.stage := rfl
@[simp] theorem State.setReg64_mem (s : State) (lo hi : Reg) (is : List Nat) (v : Nat) : (s.setReg64 lo hi is v).mem = s.mem := rfl
@[simp] theorem State.setReg64_poison (s : State) (lo hi : Reg) (is : List Nat) (v : Nat) : (s.setReg64 lo hi is v).poison = s.poison := rfl
@[simp] theorem State.setReg64_fresh (s : State) (lo hi : Reg) (is : List Nat) (v : Nat) : (s.setReg64 lo hi is v).fresh = s.fresh := rfl
@[simp] theorem State.setReg64_swp (s : State) (lo hi : Reg) (is : List Nat) (v : Nat) : (s.setReg64 lo hi is v).swp = s.swp := rfl
@[simp] theorem State.setReg64_tiles (s : State) (lo hi : Reg) (is : List Nat) (v : Nat) : (s.setReg64 lo hi is v).tiles = s.tiles := rfl
@[simp] theorem State.setReg64_fab (s : State) (lo hi : Reg) (is : List Nat) (v : Nat) : (s.setReg64 lo hi is v).fab = s.fab := rfl
@[simp] theorem State.setReg64_mgt (s : State) (lo hi : Reg) (is : List Nat) (v : Nat) : (s.setReg64 lo hi is v).mgt = s.mgt := rfl
@[simp] theorem State.setReg64_prs (s : State) (lo hi : Reg) (is : List Nat) (v : Nat) : (s.setReg64 lo hi is v).prs = s.prs := rfl
@[simp] theorem State.setReg64_events (s : State) (lo hi : Reg) (is : List Nat) (v : Nat) : (s.setReg64 lo hi is v).events = s.events := rfl
@[simp] theorem State.setReg64_fw (s : State) (lo hi : Reg) (is : List Nat) (v : Nat) : (s.setReg64 lo hi is v).fw = s.fw := rfl
@[simp] theorem State.setReg64_net (s : State) (lo hi : Reg) (is : List Nat) (v : Nat) : (s.setReg64 lo hi is v).net = s.net := rfl
@[simp] theorem State.setReg64_att (s : State) (lo hi : Reg) (is : List Nat) (v : Nat) : (s.setReg64 lo hi is v).att = s.att := rfl
@[simp] theorem State.setReg64_vis (s : State) (lo hi : Reg) (is : List Nat) (v : Nat) : (s.setReg64 lo hi is v).vis = s.vis := rfl
@[simp] theorem State.setReg64_cod (s : State) (lo hi : Reg) (is : List Nat) (v : Nat) : (s.setReg64 lo hi is v).cod = s.cod := rfl
@[simp] theorem State.setReg64_spares (s : State) (lo hi : Reg) (is : List Nat) (v : Nat) : (s.setReg64 lo hi is v).spares = s.spares := rfl
@[simp] theorem State.setReg64_held (s : State) (lo hi : Reg) (is : List Nat) (v : Nat) : (s.setReg64 lo hi is v).held = s.held := rfl
@[simp] theorem State.setReg64_sec (s : State) (lo hi : Reg) (is : List Nat) (v : Nat) : (s.setReg64 lo hi is v).sec = s.sec := rfl
@[simp] theorem State.setReg64_rst (s : State) (lo hi : Reg) (is : List Nat) (v : Nat) : (s.setReg64 lo hi is v).rst = s.rst := rfl

/-! ### `State.setTile` changes `tiles` only -/

@[simp] theorem State.setTile_pending (s : State) (t : Nat) (x : Tile) : (s.setTile t x).pending = s.pending := rfl
@[simp] theorem State.setTile_regs (s : State) (t : Nat) (x : Tile) : (s.setTile t x).regs = s.regs := rfl
@[simp] theorem State.setTile_stage (s : State) (t : Nat) (x : Tile) : (s.setTile t x).stage = s.stage := rfl
@[simp] theorem State.setTile_mem (s : State) (t : Nat) (x : Tile) : (s.setTile t x).mem = s.mem := rfl
@[simp] theorem State.setTile_poison (s : State) (t : Nat) (x : Tile) : (s.setTile t x).poison = s.poison := rfl
@[simp] theorem State.setTile_fresh (s : State) (t : Nat) (x : Tile) : (s.setTile t x).fresh = s.fresh := rfl
@[simp] theorem State.setTile_swp (s : State) (t : Nat) (x : Tile) : (s.setTile t x).swp = s.swp := rfl
@[simp] theorem State.setTile_fab (s : State) (t : Nat) (x : Tile) : (s.setTile t x).fab = s.fab := rfl
@[simp] theorem State.setTile_mgt (s : State) (t : Nat) (x : Tile) : (s.setTile t x).mgt = s.mgt := rfl
@[simp] theorem State.setTile_prs (s : State) (t : Nat) (x : Tile) : (s.setTile t x).prs = s.prs := rfl
@[simp] theorem State.setTile_events (s : State) (t : Nat) (x : Tile) : (s.setTile t x).events = s.events := rfl
@[simp] theorem State.setTile_fw (s : State) (t : Nat) (x : Tile) : (s.setTile t x).fw = s.fw := rfl
@[simp] theorem State.setTile_net (s : State) (t : Nat) (x : Tile) : (s.setTile t x).net = s.net := rfl
@[simp] theorem State.setTile_att (s : State) (t : Nat) (x : Tile) : (s.setTile t x).att = s.att := rfl
@[simp] theorem State.setTile_vis (s : State) (t : Nat) (x : Tile) : (s.setTile t x).vis = s.vis := rfl
@[simp] theorem State.setTile_cod (s : State) (t : Nat) (x : Tile) : (s.setTile t x).cod = s.cod := rfl
@[simp] theorem State.setTile_spares (s : State) (t : Nat) (x : Tile) : (s.setTile t x).spares = s.spares := rfl
@[simp] theorem State.setTile_held (s : State) (t : Nat) (x : Tile) : (s.setTile t x).held = s.held := rfl
@[simp] theorem State.setTile_sec (s : State) (t : Nat) (x : Tile) : (s.setTile t x).sec = s.sec := rfl
@[simp] theorem State.setTile_rst (s : State) (t : Nat) (x : Tile) : (s.setTile t x).rst = s.rst := rfl

/-! ### `State.updTile` changes `tiles` only -/

@[simp] theorem State.updTile_pending (s : State) (t : Nat) (f : Tile → Tile) : (s.updTile t f).pending = s.pending := rfl
@[simp] theorem State.updTile_regs (s : State) (t : Nat) (f : Tile → Tile) : (s.updTile t f).regs = s.regs := rfl
@[simp] theorem State.updTile_stage (s : State) (t : Nat) (f : Tile → Tile) : (s.updTile t f).stage = s.stage := rfl
@[simp] theorem State.updTile_mem (s : State) (t : Nat) (f : Tile → Tile) : (s.updTile t f).mem = s.mem := rfl
@[simp] theorem State.updTile_poison (s : State) (t : Nat) (f : Tile → Tile) : (s.updTile t f).poison = s.poison := rfl
@[simp] theorem State.updTile_fresh (s : State) (t : Nat) (f : Tile → Tile) : (s.updTile t f).fresh = s.fresh := rfl
@[simp] theorem State.updTile_swp (s : State) (t : Nat) (f : Tile → Tile) : (s.updTile t f).swp = s.swp := rfl
@[simp] theorem State.updTile_fab (s : State) (t : Nat) (f : Tile → Tile) : (s.updTile t f).fab = s.fab := rfl
@[simp] theorem State.updTile_mgt (s : State) (t : Nat) (f : Tile → Tile) : (s.updTile t f).mgt = s.mgt := rfl
@[simp] theorem State.updTile_prs (s : State) (t : Nat) (f : Tile → Tile) : (s.updTile t f).prs = s.prs := rfl
@[simp] theorem State.updTile_events (s : State) (t : Nat) (f : Tile → Tile) : (s.updTile t f).events = s.events := rfl
@[simp] theorem State.updTile_fw (s : State) (t : Nat) (f : Tile → Tile) : (s.updTile t f).fw = s.fw := rfl
@[simp] theorem State.updTile_net (s : State) (t : Nat) (f : Tile → Tile) : (s.updTile t f).net = s.net := rfl
@[simp] theorem State.updTile_att (s : State) (t : Nat) (f : Tile → Tile) : (s.updTile t f).att = s.att := rfl
@[simp] theorem State.updTile_vis (s : State) (t : Nat) (f : Tile → Tile) : (s.updTile t f).vis = s.vis := rfl
@[simp] theorem State.updTile_cod (s : State) (t : Nat) (f : Tile → Tile) : (s.updTile t f).cod = s.cod := rfl
@[simp] theorem State.updTile_spares (s : State) (t : Nat) (f : Tile → Tile) : (s.updTile t f).spares = s.spares := rfl
@[simp] theorem State.updTile_held (s : State) (t : Nat) (f : Tile → Tile) : (s.updTile t f).held = s.held := rfl
@[simp] theorem State.updTile_sec (s : State) (t : Nat) (f : Tile → Tile) : (s.updTile t f).sec = s.sec := rfl
@[simp] theorem State.updTile_rst (s : State) (t : Nat) (f : Tile → Tile) : (s.updTile t f).rst = s.rst := rfl

/-! ### `State.updCtx` changes `tiles` only -/

@[simp] theorem State.updCtx_pending (s : State) (t k : Nat) (f : Ctx → Ctx) : (s.updCtx t k f).pending = s.pending := rfl
@[simp] theorem State.updCtx_regs (s : State) (t k : Nat) (f : Ctx → Ctx) : (s.updCtx t k f).regs = s.regs := rfl
@[simp] theorem State.updCtx_stage (s : State) (t k : Nat) (f : Ctx → Ctx) : (s.updCtx t k f).stage = s.stage := rfl
@[simp] theorem State.updCtx_mem (s : State) (t k : Nat) (f : Ctx → Ctx) : (s.updCtx t k f).mem = s.mem := rfl
@[simp] theorem State.updCtx_poison (s : State) (t k : Nat) (f : Ctx → Ctx) : (s.updCtx t k f).poison = s.poison := rfl
@[simp] theorem State.updCtx_fresh (s : State) (t k : Nat) (f : Ctx → Ctx) : (s.updCtx t k f).fresh = s.fresh := rfl
@[simp] theorem State.updCtx_swp (s : State) (t k : Nat) (f : Ctx → Ctx) : (s.updCtx t k f).swp = s.swp := rfl
@[simp] theorem State.updCtx_fab (s : State) (t k : Nat) (f : Ctx → Ctx) : (s.updCtx t k f).fab = s.fab := rfl
@[simp] theorem State.updCtx_mgt (s : State) (t k : Nat) (f : Ctx → Ctx) : (s.updCtx t k f).mgt = s.mgt := rfl
@[simp] theorem State.updCtx_prs (s : State) (t k : Nat) (f : Ctx → Ctx) : (s.updCtx t k f).prs = s.prs := rfl
@[simp] theorem State.updCtx_events (s : State) (t k : Nat) (f : Ctx → Ctx) : (s.updCtx t k f).events = s.events := rfl
@[simp] theorem State.updCtx_fw (s : State) (t k : Nat) (f : Ctx → Ctx) : (s.updCtx t k f).fw = s.fw := rfl
@[simp] theorem State.updCtx_net (s : State) (t k : Nat) (f : Ctx → Ctx) : (s.updCtx t k f).net = s.net := rfl
@[simp] theorem State.updCtx_att (s : State) (t k : Nat) (f : Ctx → Ctx) : (s.updCtx t k f).att = s.att := rfl
@[simp] theorem State.updCtx_vis (s : State) (t k : Nat) (f : Ctx → Ctx) : (s.updCtx t k f).vis = s.vis := rfl
@[simp] theorem State.updCtx_cod (s : State) (t k : Nat) (f : Ctx → Ctx) : (s.updCtx t k f).cod = s.cod := rfl
@[simp] theorem State.updCtx_spares (s : State) (t k : Nat) (f : Ctx → Ctx) : (s.updCtx t k f).spares = s.spares := rfl
@[simp] theorem State.updCtx_held (s : State) (t k : Nat) (f : Ctx → Ctx) : (s.updCtx t k f).held = s.held := rfl
@[simp] theorem State.updCtx_sec (s : State) (t k : Nat) (f : Ctx → Ctx) : (s.updCtx t k f).sec = s.sec := rfl
@[simp] theorem State.updCtx_rst (s : State) (t k : Nat) (f : Ctx → Ctx) : (s.updCtx t k f).rst = s.rst := rfl

/-! ### `State.updSwp` changes `swp` only -/

@[simp] theorem State.updSwp_pending (s : State) (f : Sweep → Sweep) : (s.updSwp f).pending = s.pending := rfl
@[simp] theorem State.updSwp_regs (s : State) (f : Sweep → Sweep) : (s.updSwp f).regs = s.regs := rfl
@[simp] theorem State.updSwp_stage (s : State) (f : Sweep → Sweep) : (s.updSwp f).stage = s.stage := rfl
@[simp] theorem State.updSwp_mem (s : State) (f : Sweep → Sweep) : (s.updSwp f).mem = s.mem := rfl
@[simp] theorem State.updSwp_poison (s : State) (f : Sweep → Sweep) : (s.updSwp f).poison = s.poison := rfl
@[simp] theorem State.updSwp_fresh (s : State) (f : Sweep → Sweep) : (s.updSwp f).fresh = s.fresh := rfl
@[simp] theorem State.updSwp_tiles (s : State) (f : Sweep → Sweep) : (s.updSwp f).tiles = s.tiles := rfl
@[simp] theorem State.updSwp_fab (s : State) (f : Sweep → Sweep) : (s.updSwp f).fab = s.fab := rfl
@[simp] theorem State.updSwp_mgt (s : State) (f : Sweep → Sweep) : (s.updSwp f).mgt = s.mgt := rfl
@[simp] theorem State.updSwp_prs (s : State) (f : Sweep → Sweep) : (s.updSwp f).prs = s.prs := rfl
@[simp] theorem State.updSwp_events (s : State) (f : Sweep → Sweep) : (s.updSwp f).events = s.events := rfl
@[simp] theorem State.updSwp_fw (s : State) (f : Sweep → Sweep) : (s.updSwp f).fw = s.fw := rfl
@[simp] theorem State.updSwp_net (s : State) (f : Sweep → Sweep) : (s.updSwp f).net = s.net := rfl
@[simp] theorem State.updSwp_att (s : State) (f : Sweep → Sweep) : (s.updSwp f).att = s.att := rfl
@[simp] theorem State.updSwp_vis (s : State) (f : Sweep → Sweep) : (s.updSwp f).vis = s.vis := rfl
@[simp] theorem State.updSwp_cod (s : State) (f : Sweep → Sweep) : (s.updSwp f).cod = s.cod := rfl
@[simp] theorem State.updSwp_spares (s : State) (f : Sweep → Sweep) : (s.updSwp f).spares = s.spares := rfl
@[simp] theorem State.updSwp_held (s : State) (f : Sweep → Sweep) : (s.updSwp f).held = s.held := rfl
@[simp] theorem State.updSwp_sec (s : State) (f : Sweep → Sweep) : (s.updSwp f).sec = s.sec := rfl
@[simp] theorem State.updSwp_rst (s : State) (f : Sweep → Sweep) : (s.updSwp f).rst = s.rst := rfl

/-! ### `State.updFab` changes `fab` only -/

@[simp] theorem State.updFab_pending (s : State) (f : Fab → Fab) : (s.updFab f).pending = s.pending := rfl
@[simp] theorem State.updFab_regs (s : State) (f : Fab → Fab) : (s.updFab f).regs = s.regs := rfl
@[simp] theorem State.updFab_stage (s : State) (f : Fab → Fab) : (s.updFab f).stage = s.stage := rfl
@[simp] theorem State.updFab_mem (s : State) (f : Fab → Fab) : (s.updFab f).mem = s.mem := rfl
@[simp] theorem State.updFab_poison (s : State) (f : Fab → Fab) : (s.updFab f).poison = s.poison := rfl
@[simp] theorem State.updFab_fresh (s : State) (f : Fab → Fab) : (s.updFab f).fresh = s.fresh := rfl
@[simp] theorem State.updFab_swp (s : State) (f : Fab → Fab) : (s.updFab f).swp = s.swp := rfl
@[simp] theorem State.updFab_tiles (s : State) (f : Fab → Fab) : (s.updFab f).tiles = s.tiles := rfl
@[simp] theorem State.updFab_mgt (s : State) (f : Fab → Fab) : (s.updFab f).mgt = s.mgt := rfl
@[simp] theorem State.updFab_prs (s : State) (f : Fab → Fab) : (s.updFab f).prs = s.prs := rfl
@[simp] theorem State.updFab_events (s : State) (f : Fab → Fab) : (s.updFab f).events = s.events := rfl
@[simp] theorem State.updFab_fw (s : State) (f : Fab → Fab) : (s.updFab f).fw = s.fw := rfl
@[simp] theorem State.updFab_net (s : State) (f : Fab → Fab) : (s.updFab f).net = s.net := rfl
@[simp] theorem State.updFab_att (s : State) (f : Fab → Fab) : (s.updFab f).att = s.att := rfl
@[simp] theorem State.updFab_vis (s : State) (f : Fab → Fab) : (s.updFab f).vis = s.vis := rfl
@[simp] theorem State.updFab_cod (s : State) (f : Fab → Fab) : (s.updFab f).cod = s.cod := rfl
@[simp] theorem State.updFab_spares (s : State) (f : Fab → Fab) : (s.updFab f).spares = s.spares := rfl
@[simp] theorem State.updFab_held (s : State) (f : Fab → Fab) : (s.updFab f).held = s.held := rfl
@[simp] theorem State.updFab_sec (s : State) (f : Fab → Fab) : (s.updFab f).sec = s.sec := rfl
@[simp] theorem State.updFab_rst (s : State) (f : Fab → Fab) : (s.updFab f).rst = s.rst := rfl

/-! ### `State.updMgt` changes `mgt` only -/

@[simp] theorem State.updMgt_pending (s : State) (f : Mgt → Mgt) : (s.updMgt f).pending = s.pending := rfl
@[simp] theorem State.updMgt_regs (s : State) (f : Mgt → Mgt) : (s.updMgt f).regs = s.regs := rfl
@[simp] theorem State.updMgt_stage (s : State) (f : Mgt → Mgt) : (s.updMgt f).stage = s.stage := rfl
@[simp] theorem State.updMgt_mem (s : State) (f : Mgt → Mgt) : (s.updMgt f).mem = s.mem := rfl
@[simp] theorem State.updMgt_poison (s : State) (f : Mgt → Mgt) : (s.updMgt f).poison = s.poison := rfl
@[simp] theorem State.updMgt_fresh (s : State) (f : Mgt → Mgt) : (s.updMgt f).fresh = s.fresh := rfl
@[simp] theorem State.updMgt_swp (s : State) (f : Mgt → Mgt) : (s.updMgt f).swp = s.swp := rfl
@[simp] theorem State.updMgt_tiles (s : State) (f : Mgt → Mgt) : (s.updMgt f).tiles = s.tiles := rfl
@[simp] theorem State.updMgt_fab (s : State) (f : Mgt → Mgt) : (s.updMgt f).fab = s.fab := rfl
@[simp] theorem State.updMgt_prs (s : State) (f : Mgt → Mgt) : (s.updMgt f).prs = s.prs := rfl
@[simp] theorem State.updMgt_events (s : State) (f : Mgt → Mgt) : (s.updMgt f).events = s.events := rfl
@[simp] theorem State.updMgt_fw (s : State) (f : Mgt → Mgt) : (s.updMgt f).fw = s.fw := rfl
@[simp] theorem State.updMgt_net (s : State) (f : Mgt → Mgt) : (s.updMgt f).net = s.net := rfl
@[simp] theorem State.updMgt_att (s : State) (f : Mgt → Mgt) : (s.updMgt f).att = s.att := rfl
@[simp] theorem State.updMgt_vis (s : State) (f : Mgt → Mgt) : (s.updMgt f).vis = s.vis := rfl
@[simp] theorem State.updMgt_cod (s : State) (f : Mgt → Mgt) : (s.updMgt f).cod = s.cod := rfl
@[simp] theorem State.updMgt_spares (s : State) (f : Mgt → Mgt) : (s.updMgt f).spares = s.spares := rfl
@[simp] theorem State.updMgt_held (s : State) (f : Mgt → Mgt) : (s.updMgt f).held = s.held := rfl
@[simp] theorem State.updMgt_sec (s : State) (f : Mgt → Mgt) : (s.updMgt f).sec = s.sec := rfl
@[simp] theorem State.updMgt_rst (s : State) (f : Mgt → Mgt) : (s.updMgt f).rst = s.rst := rfl

/-! ### `State.updPrs` changes `prs` only -/

@[simp] theorem State.updPrs_pending (s : State) (f : Prs → Prs) : (s.updPrs f).pending = s.pending := rfl
@[simp] theorem State.updPrs_regs (s : State) (f : Prs → Prs) : (s.updPrs f).regs = s.regs := rfl
@[simp] theorem State.updPrs_stage (s : State) (f : Prs → Prs) : (s.updPrs f).stage = s.stage := rfl
@[simp] theorem State.updPrs_mem (s : State) (f : Prs → Prs) : (s.updPrs f).mem = s.mem := rfl
@[simp] theorem State.updPrs_poison (s : State) (f : Prs → Prs) : (s.updPrs f).poison = s.poison := rfl
@[simp] theorem State.updPrs_fresh (s : State) (f : Prs → Prs) : (s.updPrs f).fresh = s.fresh := rfl
@[simp] theorem State.updPrs_swp (s : State) (f : Prs → Prs) : (s.updPrs f).swp = s.swp := rfl
@[simp] theorem State.updPrs_tiles (s : State) (f : Prs → Prs) : (s.updPrs f).tiles = s.tiles := rfl
@[simp] theorem State.updPrs_fab (s : State) (f : Prs → Prs) : (s.updPrs f).fab = s.fab := rfl
@[simp] theorem State.updPrs_mgt (s : State) (f : Prs → Prs) : (s.updPrs f).mgt = s.mgt := rfl
@[simp] theorem State.updPrs_events (s : State) (f : Prs → Prs) : (s.updPrs f).events = s.events := rfl
@[simp] theorem State.updPrs_fw (s : State) (f : Prs → Prs) : (s.updPrs f).fw = s.fw := rfl
@[simp] theorem State.updPrs_net (s : State) (f : Prs → Prs) : (s.updPrs f).net = s.net := rfl
@[simp] theorem State.updPrs_att (s : State) (f : Prs → Prs) : (s.updPrs f).att = s.att := rfl
@[simp] theorem State.updPrs_vis (s : State) (f : Prs → Prs) : (s.updPrs f).vis = s.vis := rfl
@[simp] theorem State.updPrs_cod (s : State) (f : Prs → Prs) : (s.updPrs f).cod = s.cod := rfl
@[simp] theorem State.updPrs_spares (s : State) (f : Prs → Prs) : (s.updPrs f).spares = s.spares := rfl
@[simp] theorem State.updPrs_held (s : State) (f : Prs → Prs) : (s.updPrs f).held = s.held := rfl
@[simp] theorem State.updPrs_sec (s : State) (f : Prs → Prs) : (s.updPrs f).sec = s.sec := rfl
@[simp] theorem State.updPrs_rst (s : State) (f : Prs → Prs) : (s.updPrs f).rst = s.rst := rfl

/-! ### `State.updFw` changes `fw` only -/

@[simp] theorem State.updFw_pending (s : State) (f : Fw → Fw) : (s.updFw f).pending = s.pending := rfl
@[simp] theorem State.updFw_regs (s : State) (f : Fw → Fw) : (s.updFw f).regs = s.regs := rfl
@[simp] theorem State.updFw_stage (s : State) (f : Fw → Fw) : (s.updFw f).stage = s.stage := rfl
@[simp] theorem State.updFw_mem (s : State) (f : Fw → Fw) : (s.updFw f).mem = s.mem := rfl
@[simp] theorem State.updFw_poison (s : State) (f : Fw → Fw) : (s.updFw f).poison = s.poison := rfl
@[simp] theorem State.updFw_fresh (s : State) (f : Fw → Fw) : (s.updFw f).fresh = s.fresh := rfl
@[simp] theorem State.updFw_swp (s : State) (f : Fw → Fw) : (s.updFw f).swp = s.swp := rfl
@[simp] theorem State.updFw_tiles (s : State) (f : Fw → Fw) : (s.updFw f).tiles = s.tiles := rfl
@[simp] theorem State.updFw_fab (s : State) (f : Fw → Fw) : (s.updFw f).fab = s.fab := rfl
@[simp] theorem State.updFw_mgt (s : State) (f : Fw → Fw) : (s.updFw f).mgt = s.mgt := rfl
@[simp] theorem State.updFw_prs (s : State) (f : Fw → Fw) : (s.updFw f).prs = s.prs := rfl
@[simp] theorem State.updFw_events (s : State) (f : Fw → Fw) : (s.updFw f).events = s.events := rfl
@[simp] theorem State.updFw_net (s : State) (f : Fw → Fw) : (s.updFw f).net = s.net := rfl
@[simp] theorem State.updFw_att (s : State) (f : Fw → Fw) : (s.updFw f).att = s.att := rfl
@[simp] theorem State.updFw_vis (s : State) (f : Fw → Fw) : (s.updFw f).vis = s.vis := rfl
@[simp] theorem State.updFw_cod (s : State) (f : Fw → Fw) : (s.updFw f).cod = s.cod := rfl
@[simp] theorem State.updFw_spares (s : State) (f : Fw → Fw) : (s.updFw f).spares = s.spares := rfl
@[simp] theorem State.updFw_held (s : State) (f : Fw → Fw) : (s.updFw f).held = s.held := rfl
@[simp] theorem State.updFw_sec (s : State) (f : Fw → Fw) : (s.updFw f).sec = s.sec := rfl
@[simp] theorem State.updFw_rst (s : State) (f : Fw → Fw) : (s.updFw f).rst = s.rst := rfl

/-! ### `State.updNet` changes `net` only -/

@[simp] theorem State.updNet_pending (s : State) (f : Net → Net) : (s.updNet f).pending = s.pending := rfl
@[simp] theorem State.updNet_regs (s : State) (f : Net → Net) : (s.updNet f).regs = s.regs := rfl
@[simp] theorem State.updNet_stage (s : State) (f : Net → Net) : (s.updNet f).stage = s.stage := rfl
@[simp] theorem State.updNet_mem (s : State) (f : Net → Net) : (s.updNet f).mem = s.mem := rfl
@[simp] theorem State.updNet_poison (s : State) (f : Net → Net) : (s.updNet f).poison = s.poison := rfl
@[simp] theorem State.updNet_fresh (s : State) (f : Net → Net) : (s.updNet f).fresh = s.fresh := rfl
@[simp] theorem State.updNet_swp (s : State) (f : Net → Net) : (s.updNet f).swp = s.swp := rfl
@[simp] theorem State.updNet_tiles (s : State) (f : Net → Net) : (s.updNet f).tiles = s.tiles := rfl
@[simp] theorem State.updNet_fab (s : State) (f : Net → Net) : (s.updNet f).fab = s.fab := rfl
@[simp] theorem State.updNet_mgt (s : State) (f : Net → Net) : (s.updNet f).mgt = s.mgt := rfl
@[simp] theorem State.updNet_prs (s : State) (f : Net → Net) : (s.updNet f).prs = s.prs := rfl
@[simp] theorem State.updNet_events (s : State) (f : Net → Net) : (s.updNet f).events = s.events := rfl
@[simp] theorem State.updNet_fw (s : State) (f : Net → Net) : (s.updNet f).fw = s.fw := rfl
@[simp] theorem State.updNet_att (s : State) (f : Net → Net) : (s.updNet f).att = s.att := rfl
@[simp] theorem State.updNet_vis (s : State) (f : Net → Net) : (s.updNet f).vis = s.vis := rfl
@[simp] theorem State.updNet_cod (s : State) (f : Net → Net) : (s.updNet f).cod = s.cod := rfl
@[simp] theorem State.updNet_spares (s : State) (f : Net → Net) : (s.updNet f).spares = s.spares := rfl
@[simp] theorem State.updNet_held (s : State) (f : Net → Net) : (s.updNet f).held = s.held := rfl
@[simp] theorem State.updNet_sec (s : State) (f : Net → Net) : (s.updNet f).sec = s.sec := rfl
@[simp] theorem State.updNet_rst (s : State) (f : Net → Net) : (s.updNet f).rst = s.rst := rfl

/-! ### `State.updSec` changes `sec` only -/

@[simp] theorem State.updSec_pending (s : State) (f : Sec → Sec) : (s.updSec f).pending = s.pending := rfl
@[simp] theorem State.updSec_regs (s : State) (f : Sec → Sec) : (s.updSec f).regs = s.regs := rfl
@[simp] theorem State.updSec_stage (s : State) (f : Sec → Sec) : (s.updSec f).stage = s.stage := rfl
@[simp] theorem State.updSec_mem (s : State) (f : Sec → Sec) : (s.updSec f).mem = s.mem := rfl
@[simp] theorem State.updSec_poison (s : State) (f : Sec → Sec) : (s.updSec f).poison = s.poison := rfl
@[simp] theorem State.updSec_fresh (s : State) (f : Sec → Sec) : (s.updSec f).fresh = s.fresh := rfl
@[simp] theorem State.updSec_swp (s : State) (f : Sec → Sec) : (s.updSec f).swp = s.swp := rfl
@[simp] theorem State.updSec_tiles (s : State) (f : Sec → Sec) : (s.updSec f).tiles = s.tiles := rfl
@[simp] theorem State.updSec_fab (s : State) (f : Sec → Sec) : (s.updSec f).fab = s.fab := rfl
@[simp] theorem State.updSec_mgt (s : State) (f : Sec → Sec) : (s.updSec f).mgt = s.mgt := rfl
@[simp] theorem State.updSec_prs (s : State) (f : Sec → Sec) : (s.updSec f).prs = s.prs := rfl
@[simp] theorem State.updSec_events (s : State) (f : Sec → Sec) : (s.updSec f).events = s.events := rfl
@[simp] theorem State.updSec_fw (s : State) (f : Sec → Sec) : (s.updSec f).fw = s.fw := rfl
@[simp] theorem State.updSec_net (s : State) (f : Sec → Sec) : (s.updSec f).net = s.net := rfl
@[simp] theorem State.updSec_att (s : State) (f : Sec → Sec) : (s.updSec f).att = s.att := rfl
@[simp] theorem State.updSec_vis (s : State) (f : Sec → Sec) : (s.updSec f).vis = s.vis := rfl
@[simp] theorem State.updSec_cod (s : State) (f : Sec → Sec) : (s.updSec f).cod = s.cod := rfl
@[simp] theorem State.updSec_spares (s : State) (f : Sec → Sec) : (s.updSec f).spares = s.spares := rfl
@[simp] theorem State.updSec_held (s : State) (f : Sec → Sec) : (s.updSec f).held = s.held := rfl
@[simp] theorem State.updSec_rst (s : State) (f : Sec → Sec) : (s.updSec f).rst = s.rst := rfl

/-! ### `State.tell` changes `events` only -/

@[simp] theorem State.tell_pending (s : State) (e : SchEv) : (s.tell e).pending = s.pending := rfl
@[simp] theorem State.tell_regs (s : State) (e : SchEv) : (s.tell e).regs = s.regs := rfl
@[simp] theorem State.tell_stage (s : State) (e : SchEv) : (s.tell e).stage = s.stage := rfl
@[simp] theorem State.tell_mem (s : State) (e : SchEv) : (s.tell e).mem = s.mem := rfl
@[simp] theorem State.tell_poison (s : State) (e : SchEv) : (s.tell e).poison = s.poison := rfl
@[simp] theorem State.tell_fresh (s : State) (e : SchEv) : (s.tell e).fresh = s.fresh := rfl
@[simp] theorem State.tell_swp (s : State) (e : SchEv) : (s.tell e).swp = s.swp := rfl
@[simp] theorem State.tell_tiles (s : State) (e : SchEv) : (s.tell e).tiles = s.tiles := rfl
@[simp] theorem State.tell_fab (s : State) (e : SchEv) : (s.tell e).fab = s.fab := rfl
@[simp] theorem State.tell_mgt (s : State) (e : SchEv) : (s.tell e).mgt = s.mgt := rfl
@[simp] theorem State.tell_prs (s : State) (e : SchEv) : (s.tell e).prs = s.prs := rfl
@[simp] theorem State.tell_fw (s : State) (e : SchEv) : (s.tell e).fw = s.fw := rfl
@[simp] theorem State.tell_net (s : State) (e : SchEv) : (s.tell e).net = s.net := rfl
@[simp] theorem State.tell_att (s : State) (e : SchEv) : (s.tell e).att = s.att := rfl
@[simp] theorem State.tell_vis (s : State) (e : SchEv) : (s.tell e).vis = s.vis := rfl
@[simp] theorem State.tell_cod (s : State) (e : SchEv) : (s.tell e).cod = s.cod := rfl
@[simp] theorem State.tell_spares (s : State) (e : SchEv) : (s.tell e).spares = s.spares := rfl
@[simp] theorem State.tell_held (s : State) (e : SchEv) : (s.tell e).held = s.held := rfl
@[simp] theorem State.tell_sec (s : State) (e : SchEv) : (s.tell e).sec = s.sec := rfl
@[simp] theorem State.tell_rst (s : State) (e : SchEv) : (s.tell e).rst = s.rst := rfl

/-! ### `State.hold` changes `held` only -/

@[simp] theorem State.hold_pending (s : State) (h : HeldAcc) : (s.hold h).pending = s.pending := rfl
@[simp] theorem State.hold_regs (s : State) (h : HeldAcc) : (s.hold h).regs = s.regs := rfl
@[simp] theorem State.hold_stage (s : State) (h : HeldAcc) : (s.hold h).stage = s.stage := rfl
@[simp] theorem State.hold_mem (s : State) (h : HeldAcc) : (s.hold h).mem = s.mem := rfl
@[simp] theorem State.hold_poison (s : State) (h : HeldAcc) : (s.hold h).poison = s.poison := rfl
@[simp] theorem State.hold_fresh (s : State) (h : HeldAcc) : (s.hold h).fresh = s.fresh := rfl
@[simp] theorem State.hold_swp (s : State) (h : HeldAcc) : (s.hold h).swp = s.swp := rfl
@[simp] theorem State.hold_tiles (s : State) (h : HeldAcc) : (s.hold h).tiles = s.tiles := rfl
@[simp] theorem State.hold_fab (s : State) (h : HeldAcc) : (s.hold h).fab = s.fab := rfl
@[simp] theorem State.hold_mgt (s : State) (h : HeldAcc) : (s.hold h).mgt = s.mgt := rfl
@[simp] theorem State.hold_prs (s : State) (h : HeldAcc) : (s.hold h).prs = s.prs := rfl
@[simp] theorem State.hold_events (s : State) (h : HeldAcc) : (s.hold h).events = s.events := rfl
@[simp] theorem State.hold_fw (s : State) (h : HeldAcc) : (s.hold h).fw = s.fw := rfl
@[simp] theorem State.hold_net (s : State) (h : HeldAcc) : (s.hold h).net = s.net := rfl
@[simp] theorem State.hold_att (s : State) (h : HeldAcc) : (s.hold h).att = s.att := rfl
@[simp] theorem State.hold_vis (s : State) (h : HeldAcc) : (s.hold h).vis = s.vis := rfl
@[simp] theorem State.hold_cod (s : State) (h : HeldAcc) : (s.hold h).cod = s.cod := rfl
@[simp] theorem State.hold_spares (s : State) (h : HeldAcc) : (s.hold h).spares = s.spares := rfl
@[simp] theorem State.hold_sec (s : State) (h : HeldAcc) : (s.hold h).sec = s.sec := rfl
@[simp] theorem State.hold_rst (s : State) (h : HeldAcc) : (s.hold h).rst = s.rst := rfl

/-! ### `State.zeroRegs` changes `regs` only -/

@[simp] theorem State.zeroRegs_pending (s : State) (lo hi : Nat) : (s.zeroRegs lo hi).pending = s.pending := rfl
@[simp] theorem State.zeroRegs_stage (s : State) (lo hi : Nat) : (s.zeroRegs lo hi).stage = s.stage := rfl
@[simp] theorem State.zeroRegs_mem (s : State) (lo hi : Nat) : (s.zeroRegs lo hi).mem = s.mem := rfl
@[simp] theorem State.zeroRegs_poison (s : State) (lo hi : Nat) : (s.zeroRegs lo hi).poison = s.poison := rfl
@[simp] theorem State.zeroRegs_fresh (s : State) (lo hi : Nat) : (s.zeroRegs lo hi).fresh = s.fresh := rfl
@[simp] theorem State.zeroRegs_swp (s : State) (lo hi : Nat) : (s.zeroRegs lo hi).swp = s.swp := rfl
@[simp] theorem State.zeroRegs_tiles (s : State) (lo hi : Nat) : (s.zeroRegs lo hi).tiles = s.tiles := rfl
@[simp] theorem State.zeroRegs_fab (s : State) (lo hi : Nat) : (s.zeroRegs lo hi).fab = s.fab := rfl
@[simp] theorem State.zeroRegs_mgt (s : State) (lo hi : Nat) : (s.zeroRegs lo hi).mgt = s.mgt := rfl
@[simp] theorem State.zeroRegs_prs (s : State) (lo hi : Nat) : (s.zeroRegs lo hi).prs = s.prs := rfl
@[simp] theorem State.zeroRegs_events (s : State) (lo hi : Nat) : (s.zeroRegs lo hi).events = s.events := rfl
@[simp] theorem State.zeroRegs_fw (s : State) (lo hi : Nat) : (s.zeroRegs lo hi).fw = s.fw := rfl
@[simp] theorem State.zeroRegs_net (s : State) (lo hi : Nat) : (s.zeroRegs lo hi).net = s.net := rfl
@[simp] theorem State.zeroRegs_att (s : State) (lo hi : Nat) : (s.zeroRegs lo hi).att = s.att := rfl
@[simp] theorem State.zeroRegs_vis (s : State) (lo hi : Nat) : (s.zeroRegs lo hi).vis = s.vis := rfl
@[simp] theorem State.zeroRegs_cod (s : State) (lo hi : Nat) : (s.zeroRegs lo hi).cod = s.cod := rfl
@[simp] theorem State.zeroRegs_spares (s : State) (lo hi : Nat) : (s.zeroRegs lo hi).spares = s.spares := rfl
@[simp] theorem State.zeroRegs_held (s : State) (lo hi : Nat) : (s.zeroRegs lo hi).held = s.held := rfl
@[simp] theorem State.zeroRegs_sec (s : State) (lo hi : Nat) : (s.zeroRegs lo hi).sec = s.sec := rfl
@[simp] theorem State.zeroRegs_rst (s : State) (lo hi : Nat) : (s.zeroRegs lo hi).rst = s.rst := rfl

/-! ### `State.setAtt` changes `att` only -/

@[simp] theorem State.setAtt_pending (s : State) (c : Nat) (x : Att) : (s.setAtt c x).pending = s.pending := rfl
@[simp] theorem State.setAtt_regs (s : State) (c : Nat) (x : Att) : (s.setAtt c x).regs = s.regs := rfl
@[simp] theorem State.setAtt_stage (s : State) (c : Nat) (x : Att) : (s.setAtt c x).stage = s.stage := rfl
@[simp] theorem State.setAtt_mem (s : State) (c : Nat) (x : Att) : (s.setAtt c x).mem = s.mem := rfl
@[simp] theorem State.setAtt_poison (s : State) (c : Nat) (x : Att) : (s.setAtt c x).poison = s.poison := rfl
@[simp] theorem State.setAtt_fresh (s : State) (c : Nat) (x : Att) : (s.setAtt c x).fresh = s.fresh := rfl
@[simp] theorem State.setAtt_swp (s : State) (c : Nat) (x : Att) : (s.setAtt c x).swp = s.swp := rfl
@[simp] theorem State.setAtt_tiles (s : State) (c : Nat) (x : Att) : (s.setAtt c x).tiles = s.tiles := rfl
@[simp] theorem State.setAtt_fab (s : State) (c : Nat) (x : Att) : (s.setAtt c x).fab = s.fab := rfl
@[simp] theorem State.setAtt_mgt (s : State) (c : Nat) (x : Att) : (s.setAtt c x).mgt = s.mgt := rfl
@[simp] theorem State.setAtt_prs (s : State) (c : Nat) (x : Att) : (s.setAtt c x).prs = s.prs := rfl
@[simp] theorem State.setAtt_events (s : State) (c : Nat) (x : Att) : (s.setAtt c x).events = s.events := rfl
@[simp] theorem State.setAtt_fw (s : State) (c : Nat) (x : Att) : (s.setAtt c x).fw = s.fw := rfl
@[simp] theorem State.setAtt_net (s : State) (c : Nat) (x : Att) : (s.setAtt c x).net = s.net := rfl
@[simp] theorem State.setAtt_vis (s : State) (c : Nat) (x : Att) : (s.setAtt c x).vis = s.vis := rfl
@[simp] theorem State.setAtt_cod (s : State) (c : Nat) (x : Att) : (s.setAtt c x).cod = s.cod := rfl
@[simp] theorem State.setAtt_spares (s : State) (c : Nat) (x : Att) : (s.setAtt c x).spares = s.spares := rfl
@[simp] theorem State.setAtt_held (s : State) (c : Nat) (x : Att) : (s.setAtt c x).held = s.held := rfl
@[simp] theorem State.setAtt_sec (s : State) (c : Nat) (x : Att) : (s.setAtt c x).sec = s.sec := rfl
@[simp] theorem State.setAtt_rst (s : State) (c : Nat) (x : Att) : (s.setAtt c x).rst = s.rst := rfl

/-! ### `State.setCam` changes `vis` only -/

@[simp] theorem State.setCam_pending (s : State) (n : Nat) (x : CamCtx) : (s.setCam n x).pending = s.pending := rfl
@[simp] theorem State.setCam_regs (s : State) (n : Nat) (x : CamCtx) : (s.setCam n x).regs = s.regs := rfl
@[simp] theorem State.setCam_stage (s : State) (n : Nat) (x : CamCtx) : (s.setCam n x).stage = s.stage := rfl
@[simp] theorem State.setCam_mem (s : State) (n : Nat) (x : CamCtx) : (s.setCam n x).mem = s.mem := rfl
@[simp] theorem State.setCam_poison (s : State) (n : Nat) (x : CamCtx) : (s.setCam n x).poison = s.poison := rfl
@[simp] theorem State.setCam_fresh (s : State) (n : Nat) (x : CamCtx) : (s.setCam n x).fresh = s.fresh := rfl
@[simp] theorem State.setCam_swp (s : State) (n : Nat) (x : CamCtx) : (s.setCam n x).swp = s.swp := rfl
@[simp] theorem State.setCam_tiles (s : State) (n : Nat) (x : CamCtx) : (s.setCam n x).tiles = s.tiles := rfl
@[simp] theorem State.setCam_fab (s : State) (n : Nat) (x : CamCtx) : (s.setCam n x).fab = s.fab := rfl
@[simp] theorem State.setCam_mgt (s : State) (n : Nat) (x : CamCtx) : (s.setCam n x).mgt = s.mgt := rfl
@[simp] theorem State.setCam_prs (s : State) (n : Nat) (x : CamCtx) : (s.setCam n x).prs = s.prs := rfl
@[simp] theorem State.setCam_events (s : State) (n : Nat) (x : CamCtx) : (s.setCam n x).events = s.events := rfl
@[simp] theorem State.setCam_fw (s : State) (n : Nat) (x : CamCtx) : (s.setCam n x).fw = s.fw := rfl
@[simp] theorem State.setCam_net (s : State) (n : Nat) (x : CamCtx) : (s.setCam n x).net = s.net := rfl
@[simp] theorem State.setCam_att (s : State) (n : Nat) (x : CamCtx) : (s.setCam n x).att = s.att := rfl
@[simp] theorem State.setCam_cod (s : State) (n : Nat) (x : CamCtx) : (s.setCam n x).cod = s.cod := rfl
@[simp] theorem State.setCam_spares (s : State) (n : Nat) (x : CamCtx) : (s.setCam n x).spares = s.spares := rfl
@[simp] theorem State.setCam_held (s : State) (n : Nat) (x : CamCtx) : (s.setCam n x).held = s.held := rfl
@[simp] theorem State.setCam_sec (s : State) (n : Nat) (x : CamCtx) : (s.setCam n x).sec = s.sec := rfl
@[simp] theorem State.setCam_rst (s : State) (n : Nat) (x : CamCtx) : (s.setCam n x).rst = s.rst := rfl

/-! ### `State.updCam` changes `vis` only -/

@[simp] theorem State.updCam_pending (s : State) (n : Nat) (f : CamCtx → CamCtx) : (s.updCam n f).pending = s.pending := rfl
@[simp] theorem State.updCam_regs (s : State) (n : Nat) (f : CamCtx → CamCtx) : (s.updCam n f).regs = s.regs := rfl
@[simp] theorem State.updCam_stage (s : State) (n : Nat) (f : CamCtx → CamCtx) : (s.updCam n f).stage = s.stage := rfl
@[simp] theorem State.updCam_mem (s : State) (n : Nat) (f : CamCtx → CamCtx) : (s.updCam n f).mem = s.mem := rfl
@[simp] theorem State.updCam_poison (s : State) (n : Nat) (f : CamCtx → CamCtx) : (s.updCam n f).poison = s.poison := rfl
@[simp] theorem State.updCam_fresh (s : State) (n : Nat) (f : CamCtx → CamCtx) : (s.updCam n f).fresh = s.fresh := rfl
@[simp] theorem State.updCam_swp (s : State) (n : Nat) (f : CamCtx → CamCtx) : (s.updCam n f).swp = s.swp := rfl
@[simp] theorem State.updCam_tiles (s : State) (n : Nat) (f : CamCtx → CamCtx) : (s.updCam n f).tiles = s.tiles := rfl
@[simp] theorem State.updCam_fab (s : State) (n : Nat) (f : CamCtx → CamCtx) : (s.updCam n f).fab = s.fab := rfl
@[simp] theorem State.updCam_mgt (s : State) (n : Nat) (f : CamCtx → CamCtx) : (s.updCam n f).mgt = s.mgt := rfl
@[simp] theorem State.updCam_prs (s : State) (n : Nat) (f : CamCtx → CamCtx) : (s.updCam n f).prs = s.prs := rfl
@[simp] theorem State.updCam_events (s : State) (n : Nat) (f : CamCtx → CamCtx) : (s.updCam n f).events = s.events := rfl
@[simp] theorem State.updCam_fw (s : State) (n : Nat) (f : CamCtx → CamCtx) : (s.updCam n f).fw = s.fw := rfl
@[simp] theorem State.updCam_net (s : State) (n : Nat) (f : CamCtx → CamCtx) : (s.updCam n f).net = s.net := rfl
@[simp] theorem State.updCam_att (s : State) (n : Nat) (f : CamCtx → CamCtx) : (s.updCam n f).att = s.att := rfl
@[simp] theorem State.updCam_cod (s : State) (n : Nat) (f : CamCtx → CamCtx) : (s.updCam n f).cod = s.cod := rfl
@[simp] theorem State.updCam_spares (s : State) (n : Nat) (f : CamCtx → CamCtx) : (s.updCam n f).spares = s.spares := rfl
@[simp] theorem State.updCam_held (s : State) (n : Nat) (f : CamCtx → CamCtx) : (s.updCam n f).held = s.held := rfl
@[simp] theorem State.updCam_sec (s : State) (n : Nat) (f : CamCtx → CamCtx) : (s.updCam n f).sec = s.sec := rfl
@[simp] theorem State.updCam_rst (s : State) (n : Nat) (f : CamCtx → CamCtx) : (s.updCam n f).rst = s.rst := rfl

/-! ### `State.updPort` changes `vis` only -/

@[simp] theorem State.updPort_pending (s : State) (p : Nat) (f : CsiPort → CsiPort) : (s.updPort p f).pending = s.pending := rfl
@[simp] theorem State.updPort_regs (s : State) (p : Nat) (f : CsiPort → CsiPort) : (s.updPort p f).regs = s.regs := rfl
@[simp] theorem State.updPort_stage (s : State) (p : Nat) (f : CsiPort → CsiPort) : (s.updPort p f).stage = s.stage := rfl
@[simp] theorem State.updPort_mem (s : State) (p : Nat) (f : CsiPort → CsiPort) : (s.updPort p f).mem = s.mem := rfl
@[simp] theorem State.updPort_poison (s : State) (p : Nat) (f : CsiPort → CsiPort) : (s.updPort p f).poison = s.poison := rfl
@[simp] theorem State.updPort_fresh (s : State) (p : Nat) (f : CsiPort → CsiPort) : (s.updPort p f).fresh = s.fresh := rfl
@[simp] theorem State.updPort_swp (s : State) (p : Nat) (f : CsiPort → CsiPort) : (s.updPort p f).swp = s.swp := rfl
@[simp] theorem State.updPort_tiles (s : State) (p : Nat) (f : CsiPort → CsiPort) : (s.updPort p f).tiles = s.tiles := rfl
@[simp] theorem State.updPort_fab (s : State) (p : Nat) (f : CsiPort → CsiPort) : (s.updPort p f).fab = s.fab := rfl
@[simp] theorem State.updPort_mgt (s : State) (p : Nat) (f : CsiPort → CsiPort) : (s.updPort p f).mgt = s.mgt := rfl
@[simp] theorem State.updPort_prs (s : State) (p : Nat) (f : CsiPort → CsiPort) : (s.updPort p f).prs = s.prs := rfl
@[simp] theorem State.updPort_events (s : State) (p : Nat) (f : CsiPort → CsiPort) : (s.updPort p f).events = s.events := rfl
@[simp] theorem State.updPort_fw (s : State) (p : Nat) (f : CsiPort → CsiPort) : (s.updPort p f).fw = s.fw := rfl
@[simp] theorem State.updPort_net (s : State) (p : Nat) (f : CsiPort → CsiPort) : (s.updPort p f).net = s.net := rfl
@[simp] theorem State.updPort_att (s : State) (p : Nat) (f : CsiPort → CsiPort) : (s.updPort p f).att = s.att := rfl
@[simp] theorem State.updPort_cod (s : State) (p : Nat) (f : CsiPort → CsiPort) : (s.updPort p f).cod = s.cod := rfl
@[simp] theorem State.updPort_spares (s : State) (p : Nat) (f : CsiPort → CsiPort) : (s.updPort p f).spares = s.spares := rfl
@[simp] theorem State.updPort_held (s : State) (p : Nat) (f : CsiPort → CsiPort) : (s.updPort p f).held = s.held := rfl
@[simp] theorem State.updPort_sec (s : State) (p : Nat) (f : CsiPort → CsiPort) : (s.updPort p f).sec = s.sec := rfl
@[simp] theorem State.updPort_rst (s : State) (p : Nat) (f : CsiPort → CsiPort) : (s.updPort p f).rst = s.rst := rfl

/-! ### `State.setCodec` changes `cod` only -/

@[simp] theorem State.setCodec_pending (s : State) (k : Nat) (c : CodCore) : (s.setCodec k c).pending = s.pending := rfl
@[simp] theorem State.setCodec_regs (s : State) (k : Nat) (c : CodCore) : (s.setCodec k c).regs = s.regs := rfl
@[simp] theorem State.setCodec_stage (s : State) (k : Nat) (c : CodCore) : (s.setCodec k c).stage = s.stage := rfl
@[simp] theorem State.setCodec_mem (s : State) (k : Nat) (c : CodCore) : (s.setCodec k c).mem = s.mem := rfl
@[simp] theorem State.setCodec_poison (s : State) (k : Nat) (c : CodCore) : (s.setCodec k c).poison = s.poison := rfl
@[simp] theorem State.setCodec_fresh (s : State) (k : Nat) (c : CodCore) : (s.setCodec k c).fresh = s.fresh := rfl
@[simp] theorem State.setCodec_swp (s : State) (k : Nat) (c : CodCore) : (s.setCodec k c).swp = s.swp := rfl
@[simp] theorem State.setCodec_tiles (s : State) (k : Nat) (c : CodCore) : (s.setCodec k c).tiles = s.tiles := rfl
@[simp] theorem State.setCodec_fab (s : State) (k : Nat) (c : CodCore) : (s.setCodec k c).fab = s.fab := rfl
@[simp] theorem State.setCodec_mgt (s : State) (k : Nat) (c : CodCore) : (s.setCodec k c).mgt = s.mgt := rfl
@[simp] theorem State.setCodec_prs (s : State) (k : Nat) (c : CodCore) : (s.setCodec k c).prs = s.prs := rfl
@[simp] theorem State.setCodec_events (s : State) (k : Nat) (c : CodCore) : (s.setCodec k c).events = s.events := rfl
@[simp] theorem State.setCodec_fw (s : State) (k : Nat) (c : CodCore) : (s.setCodec k c).fw = s.fw := rfl
@[simp] theorem State.setCodec_net (s : State) (k : Nat) (c : CodCore) : (s.setCodec k c).net = s.net := rfl
@[simp] theorem State.setCodec_att (s : State) (k : Nat) (c : CodCore) : (s.setCodec k c).att = s.att := rfl
@[simp] theorem State.setCodec_vis (s : State) (k : Nat) (c : CodCore) : (s.setCodec k c).vis = s.vis := rfl
@[simp] theorem State.setCodec_spares (s : State) (k : Nat) (c : CodCore) : (s.setCodec k c).spares = s.spares := rfl
@[simp] theorem State.setCodec_held (s : State) (k : Nat) (c : CodCore) : (s.setCodec k c).held = s.held := rfl
@[simp] theorem State.setCodec_sec (s : State) (k : Nat) (c : CodCore) : (s.setCodec k c).sec = s.sec := rfl
@[simp] theorem State.setCodec_rst (s : State) (k : Nat) (c : CodCore) : (s.setCodec k c).rst = s.rst := rfl

/-! ### `State.signal` changes `mgt` only -/

@[simp] theorem State.signal_pending (s : State) (cls code src inst addr data : Nat) : (s.signal cls code src inst addr data).pending = s.pending := rfl
@[simp] theorem State.signal_regs (s : State) (cls code src inst addr data : Nat) : (s.signal cls code src inst addr data).regs = s.regs := rfl
@[simp] theorem State.signal_stage (s : State) (cls code src inst addr data : Nat) : (s.signal cls code src inst addr data).stage = s.stage := rfl
@[simp] theorem State.signal_mem (s : State) (cls code src inst addr data : Nat) : (s.signal cls code src inst addr data).mem = s.mem := rfl
@[simp] theorem State.signal_poison (s : State) (cls code src inst addr data : Nat) : (s.signal cls code src inst addr data).poison = s.poison := rfl
@[simp] theorem State.signal_fresh (s : State) (cls code src inst addr data : Nat) : (s.signal cls code src inst addr data).fresh = s.fresh := rfl
@[simp] theorem State.signal_swp (s : State) (cls code src inst addr data : Nat) : (s.signal cls code src inst addr data).swp = s.swp := rfl
@[simp] theorem State.signal_tiles (s : State) (cls code src inst addr data : Nat) : (s.signal cls code src inst addr data).tiles = s.tiles := rfl
@[simp] theorem State.signal_fab (s : State) (cls code src inst addr data : Nat) : (s.signal cls code src inst addr data).fab = s.fab := rfl
@[simp] theorem State.signal_prs (s : State) (cls code src inst addr data : Nat) : (s.signal cls code src inst addr data).prs = s.prs := rfl
@[simp] theorem State.signal_events (s : State) (cls code src inst addr data : Nat) : (s.signal cls code src inst addr data).events = s.events := rfl
@[simp] theorem State.signal_fw (s : State) (cls code src inst addr data : Nat) : (s.signal cls code src inst addr data).fw = s.fw := rfl
@[simp] theorem State.signal_net (s : State) (cls code src inst addr data : Nat) : (s.signal cls code src inst addr data).net = s.net := rfl
@[simp] theorem State.signal_att (s : State) (cls code src inst addr data : Nat) : (s.signal cls code src inst addr data).att = s.att := rfl
@[simp] theorem State.signal_vis (s : State) (cls code src inst addr data : Nat) : (s.signal cls code src inst addr data).vis = s.vis := rfl
@[simp] theorem State.signal_cod (s : State) (cls code src inst addr data : Nat) : (s.signal cls code src inst addr data).cod = s.cod := rfl
@[simp] theorem State.signal_spares (s : State) (cls code src inst addr data : Nat) : (s.signal cls code src inst addr data).spares = s.spares := rfl
@[simp] theorem State.signal_held (s : State) (cls code src inst addr data : Nat) : (s.signal cls code src inst addr data).held = s.held := rfl
@[simp] theorem State.signal_sec (s : State) (cls code src inst addr data : Nat) : (s.signal cls code src inst addr data).sec = s.sec := rfl
@[simp] theorem State.signal_rst (s : State) (cls code src inst addr data : Nat) : (s.signal cls code src inst addr data).rst = s.rst := rfl

/-! ### `State.accessError` changes `mgt` only -/

@[simp] theorem State.accessError_pending (s : State) (code : Nat) (i : Initiator) (addr data : Nat) : (s.accessError code i addr data).pending = s.pending := rfl
@[simp] theorem State.accessError_regs (s : State) (code : Nat) (i : Initiator) (addr data : Nat) : (s.accessError code i addr data).regs = s.regs := rfl
@[simp] theorem State.accessError_stage (s : State) (code : Nat) (i : Initiator) (addr data : Nat) : (s.accessError code i addr data).stage = s.stage := rfl
@[simp] theorem State.accessError_mem (s : State) (code : Nat) (i : Initiator) (addr data : Nat) : (s.accessError code i addr data).mem = s.mem := rfl
@[simp] theorem State.accessError_poison (s : State) (code : Nat) (i : Initiator) (addr data : Nat) : (s.accessError code i addr data).poison = s.poison := rfl
@[simp] theorem State.accessError_fresh (s : State) (code : Nat) (i : Initiator) (addr data : Nat) : (s.accessError code i addr data).fresh = s.fresh := rfl
@[simp] theorem State.accessError_swp (s : State) (code : Nat) (i : Initiator) (addr data : Nat) : (s.accessError code i addr data).swp = s.swp := rfl
@[simp] theorem State.accessError_tiles (s : State) (code : Nat) (i : Initiator) (addr data : Nat) : (s.accessError code i addr data).tiles = s.tiles := rfl
@[simp] theorem State.accessError_fab (s : State) (code : Nat) (i : Initiator) (addr data : Nat) : (s.accessError code i addr data).fab = s.fab := rfl
@[simp] theorem State.accessError_prs (s : State) (code : Nat) (i : Initiator) (addr data : Nat) : (s.accessError code i addr data).prs = s.prs := rfl
@[simp] theorem State.accessError_events (s : State) (code : Nat) (i : Initiator) (addr data : Nat) : (s.accessError code i addr data).events = s.events := rfl
@[simp] theorem State.accessError_fw (s : State) (code : Nat) (i : Initiator) (addr data : Nat) : (s.accessError code i addr data).fw = s.fw := rfl
@[simp] theorem State.accessError_net (s : State) (code : Nat) (i : Initiator) (addr data : Nat) : (s.accessError code i addr data).net = s.net := rfl
@[simp] theorem State.accessError_att (s : State) (code : Nat) (i : Initiator) (addr data : Nat) : (s.accessError code i addr data).att = s.att := rfl
@[simp] theorem State.accessError_vis (s : State) (code : Nat) (i : Initiator) (addr data : Nat) : (s.accessError code i addr data).vis = s.vis := rfl
@[simp] theorem State.accessError_cod (s : State) (code : Nat) (i : Initiator) (addr data : Nat) : (s.accessError code i addr data).cod = s.cod := rfl
@[simp] theorem State.accessError_spares (s : State) (code : Nat) (i : Initiator) (addr data : Nat) : (s.accessError code i addr data).spares = s.spares := rfl
@[simp] theorem State.accessError_held (s : State) (code : Nat) (i : Initiator) (addr data : Nat) : (s.accessError code i addr data).held = s.held := rfl
@[simp] theorem State.accessError_sec (s : State) (code : Nat) (i : Initiator) (addr data : Nat) : (s.accessError code i addr data).sec = s.sec := rfl
@[simp] theorem State.accessError_rst (s : State) (code : Nat) (i : Initiator) (addr data : Nat) : (s.accessError code i addr data).rst = s.rst := rfl

/-! ### `State.spWr` changes `mem` only -/

@[simp] theorem State.spWr_pending (s : State) (t a : Nat) (bs : List Byte) : (s.spWr t a bs).pending = s.pending := rfl
@[simp] theorem State.spWr_regs (s : State) (t a : Nat) (bs : List Byte) : (s.spWr t a bs).regs = s.regs := rfl
@[simp] theorem State.spWr_stage (s : State) (t a : Nat) (bs : List Byte) : (s.spWr t a bs).stage = s.stage := rfl
@[simp] theorem State.spWr_poison (s : State) (t a : Nat) (bs : List Byte) : (s.spWr t a bs).poison = s.poison := rfl
@[simp] theorem State.spWr_fresh (s : State) (t a : Nat) (bs : List Byte) : (s.spWr t a bs).fresh = s.fresh := rfl
@[simp] theorem State.spWr_swp (s : State) (t a : Nat) (bs : List Byte) : (s.spWr t a bs).swp = s.swp := rfl
@[simp] theorem State.spWr_tiles (s : State) (t a : Nat) (bs : List Byte) : (s.spWr t a bs).tiles = s.tiles := rfl
@[simp] theorem State.spWr_fab (s : State) (t a : Nat) (bs : List Byte) : (s.spWr t a bs).fab = s.fab := rfl
@[simp] theorem State.spWr_mgt (s : State) (t a : Nat) (bs : List Byte) : (s.spWr t a bs).mgt = s.mgt := rfl
@[simp] theorem State.spWr_prs (s : State) (t a : Nat) (bs : List Byte) : (s.spWr t a bs).prs = s.prs := rfl
@[simp] theorem State.spWr_events (s : State) (t a : Nat) (bs : List Byte) : (s.spWr t a bs).events = s.events := rfl
@[simp] theorem State.spWr_fw (s : State) (t a : Nat) (bs : List Byte) : (s.spWr t a bs).fw = s.fw := rfl
@[simp] theorem State.spWr_net (s : State) (t a : Nat) (bs : List Byte) : (s.spWr t a bs).net = s.net := rfl
@[simp] theorem State.spWr_att (s : State) (t a : Nat) (bs : List Byte) : (s.spWr t a bs).att = s.att := rfl
@[simp] theorem State.spWr_vis (s : State) (t a : Nat) (bs : List Byte) : (s.spWr t a bs).vis = s.vis := rfl
@[simp] theorem State.spWr_cod (s : State) (t a : Nat) (bs : List Byte) : (s.spWr t a bs).cod = s.cod := rfl
@[simp] theorem State.spWr_spares (s : State) (t a : Nat) (bs : List Byte) : (s.spWr t a bs).spares = s.spares := rfl
@[simp] theorem State.spWr_held (s : State) (t a : Nat) (bs : List Byte) : (s.spWr t a bs).held = s.held := rfl
@[simp] theorem State.spWr_sec (s : State) (t a : Nat) (bs : List Byte) : (s.spWr t a bs).sec = s.sec := rfl
@[simp] theorem State.spWr_rst (s : State) (t a : Nat) (bs : List Byte) : (s.spWr t a bs).rst = s.rst := rfl

/-! ### Reads after writes: registers -/

theorem State.rg_setRg_same {s : State} (h : s.regs.wf = true) (a : Nat) (v : Word) : (s.setRg a v).rg a = v := Tab.get_set_same h (regReset a) a v

theorem State.rg_setRg_ne {a b : Nat} (h : b ≠ a) (s : State) (v : Word) : (s.setRg a v).rg b = s.rg b := Tab.get_set_ne h s.regs (regReset b) (regReset a) v

theorem State.wf_setRg {s : State} (h : s.regs.wf = true) (a : Nat) (v : Word) : (s.setRg a v).regs.wf = true := Tab.wf_set h (regReset a) a v

theorem State.wf_setReg {s : State} (h : s.regs.wf = true) (r : Reg) (is : List Nat) (v : Nat) : (s.setReg r is v).regs.wf = true := State.wf_setRg h _ _

theorem State.wf_setFld {s : State} (h : s.regs.wf = true) (r : Reg) (is : List Nat) (hi lo v : Nat) : (s.setFld r is hi lo v).regs.wf = true :=
  State.wf_setRg h _ _

theorem State.wf_setFlag {s : State} (h : s.regs.wf = true) (r : Reg) (is : List Nat) (i : Nat) (b : Bool) : (s.setFlag r is i b).regs.wf = true :=
  State.wf_setRg h _ _

theorem State.wf_satInc {s : State} (h : s.regs.wf = true) (r : Reg) (is : List Nat) (hi lo n : Nat) : (s.satInc r is hi lo n).regs.wf = true :=
  State.wf_setRg h _ _

theorem State.reg_lt (s : State) (r : Reg) (is : List Nat) : s.reg r is < 2 ^ 32 := (s.rg (r.adr is)).isLt

theorem State.reg_setReg_same {s : State} (h : s.regs.wf = true) (r : Reg) (is : List Nat) (v : Nat) : (s.setReg r is v).reg r is = v % 2 ^ 32 := by
  simp [State.reg, State.setReg, State.rg_setRg_same h]

theorem State.reg_setReg_ne {r q : Reg} {is js : List Nat} (h : q.adr js ≠ r.adr is) (s : State) (v : Nat) : (s.setReg r is v).reg q js = s.reg q js := by
  simp [State.reg, State.setReg, State.rg_setRg_ne h]

theorem State.reg_setFld_same {s : State} (h : s.regs.wf = true) (r : Reg) (is : List Nat) {hi : Nat} (hh : hi < 32) (lo v : Nat) :
    (s.setFld r is hi lo v).reg r is = putBits (s.reg r is) hi lo v := by
  rw [State.setFld, State.reg_setReg_same h]
  exact Nat.mod_eq_of_lt (putBits_lt (s.reg_lt r is) hh lo v)

theorem State.reg_setFld_ne {r q : Reg} {is js : List Nat} (h : q.adr js ≠ r.adr is) (s : State) (hi lo v : Nat) :
    (s.setFld r is hi lo v).reg q js = s.reg q js := State.reg_setReg_ne h s _

theorem State.fld_setFld_same {s : State} (h : s.regs.wf = true) (r : Reg) (is : List Nat) {hi : Nat} (hh : hi < 32) (lo v : Nat) :
    (s.setFld r is hi lo v).fld r is hi lo = v % 2 ^ (hi + 1 - lo) := by
  rw [State.fld, State.reg_setFld_same h r is hh, bits_putBits_same]

/-- A flag after it has been written. -/
theorem State.flag_setFlag_same {s : State} (h : s.regs.wf = true) (r : Reg) (is : List Nat) {i : Nat} (hi : i < 32) (b : Bool) :
    (s.setFlag r is i b).flag r is i = b := by
  rw [State.flag, State.setFlag, State.reg_setFld_same h r is hi, bit_putBits_same]

/-- Another flag of the register. -/
theorem State.flag_setFlag_ne {s : State} (h : s.regs.wf = true) (r : Reg) (is : List Nat) {i j : Nat} (hi : i < 32) (hj : j ≠ i) (b : Bool) :
    (s.setFlag r is i b).flag r is j = s.flag r is j := by
  rw [State.flag, State.setFlag, State.reg_setFld_same h r is hi, bit_putBits_ne hj]
  rfl

/-! ### Reads after writes: tiles and contexts -/

@[simp] theorem State.tile_setTile_same (s : State) (t : Nat) (x : Tile) : (s.setTile t x).tile t = x := by simp [State.tile, State.setTile]

theorem State.tile_setTile_ne {t u : Nat} (h : u ≠ t) (s : State) (x : Tile) : (s.setTile t x).tile u = s.tile u := Tab.get_put_ne h s.tiles _ x

@[simp] theorem State.tile_updTile_same (s : State) (t : Nat) (f : Tile → Tile) : (s.updTile t f).tile t = f (s.tile t) := by simp [State.updTile]

theorem State.tile_updTile_ne {t u : Nat} (h : u ≠ t) (s : State) (f : Tile → Tile) : (s.updTile t f).tile u = s.tile u := State.tile_setTile_ne h s _

@[simp] theorem Tile.context_setCtx_same (x : Tile) (k : Nat) (c : Ctx) : (x.setCtx k c).context k = c := by simp [Tile.context, Tile.setCtx]

theorem Tile.context_setCtx_ne {k j : Nat} (h : j ≠ k) (x : Tile) (c : Ctx) : (x.setCtx k c).context j = x.context j := Tab.get_put_ne h x.ctx _ c

@[simp] theorem State.ctxOf_updCtx_same (s : State) (t k : Nat) (f : Ctx → Ctx) : (s.updCtx t k f).ctxOf t k = f (s.ctxOf t k) := by
  simp [State.updCtx, State.setCtx, State.ctxOf]

theorem State.ctxOf_updCtx_ne {t k u j : Nat} (h : u ≠ t ∨ j ≠ k) (s : State) (f : Ctx → Ctx) : (s.updCtx t k f).ctxOf u j = s.ctxOf u j := by
  by_cases hu : u = t
  · subst hu
    have hj : j ≠ k := by tauto
    simp [State.updCtx, State.setCtx, State.ctxOf, Tile.context_setCtx_ne hj]
  · simp [State.updCtx, State.setCtx, State.ctxOf, State.tile_updTile_ne hu]

/-! ### Register reads after a write to another part of the state -/

@[simp] theorem State.rg_setTile (s : State) (t : Nat) (x : Tile) (a : Nat) : (s.setTile t x).rg a = s.rg a := rfl
@[simp] theorem State.reg_updTile (s : State) (t : Nat) (f : Tile → Tile) (r : Reg) (is : List Nat) : (s.updTile t f).reg r is = s.reg r is := rfl
@[simp] theorem State.reg_updCtx (s : State) (t k : Nat) (f : Ctx → Ctx) (r : Reg) (is : List Nat) : (s.updCtx t k f).reg r is = s.reg r is := rfl
@[simp] theorem State.tile_setRg (s : State) (a : Nat) (v : Word) (t : Nat) : (s.setRg a v).tile t = s.tile t := rfl
@[simp] theorem State.tile_setReg (s : State) (r : Reg) (is : List Nat) (v t : Nat) : (s.setReg r is v).tile t = s.tile t := rfl
@[simp] theorem State.tile_setFlag (s : State) (r : Reg) (is : List Nat) (i : Nat) (b : Bool) (t : Nat) : (s.setFlag r is i b).tile t = s.tile t := rfl

end Sys2Proof.Machine
end

