-- ==== Sys2Proof/Laws/Bus.lean ====
section
/-! SUPPORT. What a register access does: a write that is performed at once is `regWrite`; one that is refused leaves a signal and nothing else. -/

namespace Sys2Proof.Machine
open Sys2Proof

theorem State.region_control {s : State} {a : Nat} (h : a < 0x10000000) : s.region a = .control := by simp [State.region, h]

theorem regsNear_ne_nil {a : Nat} {x : Reg × List Nat} (h : regAt a = some x) : regsNear a ≠ [] := by
  intro h2
  simp [regAt, h2, findReg] at h

/-- A write that is performed at once. -/
theorem State.busWrite_takes {s : State} {ini : Initiator} {r : Reg} {is : List Nat} {d : Nat} (h : s.takes ini r is d) :
    s.busWrite ini (r.adr is) 32 d = s.regWrite ini r is (r.adr is) d := by
  obtain ⟨_, h1, h2, h3, h4, h5, h6⟩ := h
  simp [State.busWrite, State.controlWrite, h1, h2, h4, h5, h6, State.region_control h3, regsNear_ne_nil h1]

/-- The command of a register write that is performed at once. -/
theorem live_wr {s : State} {ini : Initiator} {r : Reg} {is : List Nat} {d : Nat} (h : s.takes ini r is d) :
    live s (fun s => s.wr ini r is d) = .next (s.regWrite ini r is (r.adr is) d) := by
  simp [live, h.1, State.wr, State.busWrite_takes h]

/-- The command of a write of one bit that is performed at once. -/
theorem live_wrBit {s : State} {ini : Initiator} {r : Reg} {is : List Nat} {i : Nat} {b : Bool}
    (h : s.takes ini r is (putBits (s.rwPart r is) i i (b2n b))) :
    live s (fun s => s.wrBit ini r is i b) = .next (s.regWrite ini r is (r.adr is) (putBits (s.rwPart r is) i i (b2n b))) := by
  simp [live, h.1, State.wrBit, State.wr, State.busWrite_takes h]

/-- A write to a register that is neither half of a 64-bit value. -/
theorem State.regWrite_plain {s : State} {ini : Initiator} {r : Reg} {is : List Nat} {a d : Nat} (h1 : r ≠ .CLU_REMAPl) (h2 : r.desc.kind ≠ .lo)
    (h3 : r.desc.kind ≠ .hi) :
    s.regWrite ini r is a d =
      (s.setRg a (BitVec.ofNat 32 (storeBits r.desc (s.writable r is) (s.rg a).toNat d))).writeEffect ini r is (s.rg a).toNat d := by
  unfold State.regWrite
  simp only [h1, false_and, if_false]

/-- A write to the LO half of a 64-bit value. -/
theorem State.regWrite_lo {s : State} {ini : Initiator} {r : Reg} {is : List Nat} {a d : Nat} (h1 : r ≠ .CLU_REMAPl) (h2 : r.desc.kind = .lo) :
    s.regWrite ini r is a d =
      { s with stage := s.stage.set (s.rg a) a (BitVec.ofNat 32 (storeBits r.desc (s.writable r is) (s.staged a).toNat d)) } := by
  unfold State.regWrite
  simp only [h1, false_and, if_false, h2]

/-- A write to the HI half of a 64-bit value. -/
theorem State.regWrite_hi {s : State} {ini : Initiator} {r : Reg} {is : List Nat} {a d : Nat} (h1 : r ≠ .CLU_REMAPl) (h2 : r.desc.kind = .hi) :
    s.regWrite ini r is a d =
      State.writeEffect
        { (s.setRg a (BitVec.ofNat 32 (storeBits r.desc (s.writable r is) (s.rg a).toNat d))).setRg (a - 4) (s.staged (a - 4)) with
          stage := s.stage.erase (a - 4) } ini r is (s.rg a).toNat d := by
  unfold State.regWrite
  simp only [h1, false_and, if_false, h2]
  rfl

/-- A register of which a write only stores fields has no other effect. -/
theorem State.writeEffect_quiet {r : Reg} (h : r.quiet = true) (s : State) (ini : Initiator) (is : List Nat) (o d : Nat) :
    s.writeEffect ini r is o d = s := by
  cases r <;> first | rfl | (simp [Reg.quiet] at h)

theorem Reg.quiet_ne_remap {r : Reg} (h : r.quiet = true) : r ≠ .CLU_REMAPl := by
  rintro rfl
  simp [Reg.quiet] at h

/-- The stored bits by their access codes. -/
theorem storeBits_writtenBit (d : RegDesc) (rw old data i : Nat) : (storeBits d rw old data).testBit i = writtenBit d rw old data i := by
  rw [testBit_storeBits]
  unfold writtenBit
  cases d.clr.testBit i <;> by_cases h : i < 16 <;> cases data.testBit (i + 16) <;> cases d.mw.testBit i <;> cases data.testBit i <;>
    cases d.w1s.testBit i <;> cases d.w1c.testBit i <;> cases rw.testBit i <;> cases old.testBit i <;> simp [h]

/-- Bit `i` of the word that a write stores. -/
theorem testBit_stored (d : RegDesc) (rw old data : Nat) {i : Nat} (h : i < 32) :
    (BitVec.ofNat 32 (storeBits d rw old data)).toNat.testBit i = writtenBit d rw old data i := by
  rw [BitVec.toNat_ofNat, Nat.testBit_mod_two_pow, storeBits_writtenBit]
  simp [h]

theorem spread_ge (ds : List (Nat × Nat)) (is : List Nat) (a : Nat) : a ≤ spread ds is a := by
  induction ds generalizing is a with
  | nil => simp [spread]
  | cons d ds ih =>
    cases is with
    | nil => simp [spread]
    | cons i is => exact Nat.le_trans (Nat.le_add_right a _) (ih is (a + d.1 * i))

/-- A HI half stands behind its LO half. -/
theorem Reg.adr_hi_pos {r : Reg} (h : r.desc.kind = .hi) (is : List Nat) : 4 ≤ r.adr is := by
  refine Nat.le_trans ?_ (spread_ge r.desc.dims is r.desc.base)
  revert h
  cases r <;> decide

/-- The word stored by a write that changes one RW bit and hands every other RW field back as it stands. -/
theorem storeBits_oneBit (d : RegDesc) (old i : Nat) (b : Bool) (h1 : d.clr = 0) (h2 : d.mw = 0) (h3 : d.w1c &&& d.rw = 0) (h4 : d.w1s &&& d.rw = 0)
    (h5 : d.rw.testBit i = true) : storeBits d d.rw old (putBits (Nat.land old d.rw) i i (b2n b)) = putBits old i i (b2n b) := by
  apply Nat.eq_of_testBit_eq
  intro j
  have hc : (d.w1c.testBit j && d.rw.testBit j) = false := by rw [← Nat.testBit_and, h3, Nat.zero_testBit]
  have hs : (d.w1s.testBit j && d.rw.testBit j) = false := by rw [← Nat.testBit_and, h4, Nat.zero_testBit]
  have hl : (Nat.land old d.rw).testBit j = (old.testBit j && d.rw.testBit j) := Nat.testBit_and old d.rw j
  have e1 := testBit_putBits (Nat.land old d.rw) i i (b2n b) j
  have e2 := testBit_putBits old i i (b2n b) j
  rw [testBit_storeBits, h1, h2, e2, e1, hl]
  simp only [Nat.zero_testBit, Bool.and_false, Bool.not_false, Bool.true_and, Bool.false_eq_true, if_false]
  by_cases hj : i ≤ j ∧ j < i + 1
  · have : j = i := by omega
    subst this
    simp only [h5, Bool.and_true] at hc hs
    rw [if_pos hj]
    simp [hc, hs, h5]
  · simp only [if_neg hj]
    revert hc hs
    cases d.w1c.testBit j <;> cases d.w1s.testBit j <;> cases d.rw.testBit j <;> cases old.testBit j <;> simp

/-- A write of one bit of a plain register. -/
theorem State.regWrite_wrBit {s : State} {ini : Initiator} {r : Reg} {is : List Nat} {i : Nat} {b : Bool} (h0 : r ≠ .CLU_REMAPl)
    (hk : r.desc.kind = .plain) (hw : s.writable r is = r.desc.rw) (h1 : r.desc.clr = 0) (h2 : r.desc.mw = 0) (h3 : r.desc.w1c &&& r.desc.rw = 0)
    (h4 : r.desc.w1s &&& r.desc.rw = 0) (h5 : r.desc.rw.testBit i = true) :
    s.regWrite ini r is (r.adr is) (putBits (s.rwPart r is) i i (b2n b)) =
      (s.setFlag r is i b).writeEffect ini r is (s.reg r is) (putBits (s.rwPart r is) i i (b2n b)) := by
  rw [State.regWrite_plain h0 (by simp [hk]) (by simp [hk]), hw]
  simp only [State.rwPart]
  have := storeBits_oneBit r.desc (s.reg r is) i b h1 h2 h3 h4 h5
  simp only [State.reg] at this ⊢
  rw [this]
  rfl

end Sys2Proof.Machine
end

