-- ==== Sys2Proof/Laws/Issue.lean ====
section
/-! SUPPORT. What an instruction row does: the issue of one word, the hold and the fault of one word (R85, R97, R107, R114). -/

namespace Sys2Proof.Machine
open Sys2Proof

/-- An instruction row runs its context's attempt to issue. -/
theorem exec_ralok {i : Instr} {t : TileId} {k : CtxId} {w : RWord} (h : i.ralok = some (t, k, w)) (s : State) :
    exec i s = liveIn (clusterOf t.val) s (fun s => s.rowIssue t.val k.val w) := by
  cases i <;> simp only [Instr.ralok, Option.some.injEq, Prod.mk.injEq, reduceCtorEq] at h
  all_goals
    obtain ⟨rfl, rfl, rfl⟩ := h
    rfl

theorem rowIssue_tries {s : State} {t k : Nat} (h : s.tries t k) (w : RWord) :
    s.rowIssue t k w = (s.tryBundle t k [some w] (s.flag .TILE_CTRL (tix t) 1)).1 := by
  obtain ⟨-, h1, h2, h3, h4, h5⟩ := h
  unfold State.rowIssue
  have hk : (s.flag .TILE_CTRL (tix t) 1 && k != 0) = false := by
    cases hl : s.flag .TILE_CTRL (tix t) 1
    · rfl
    · simp [h3 hl]
  rcases h4 with h4 | h4 | ⟨h4, h6 | h6⟩ <;> simp_all

theorem liveIn_clocked {s : State} {t : Nat} (h : s.clocked t) (f : State → State) : liveIn (clusterOf t) s f = .next (f s) := by
  simp [liveIn, h.1, h.2]

theorem exec_tries {i : Instr} {t : TileId} {k : CtxId} {w : RWord} {s : State} (h : i.ralok = some (t, k, w)) (ht : s.tries t.val k.val) :
    exec i s = .next (s.tryBundle t.val k.val [some w] (s.flag .TILE_CTRL (tix t.val) 1)).1 := by
  rw [exec_ralok h, liveIn_clocked ht.1, rowIssue_tries ht]

theorem exec_issues {i : Instr} {t : TileId} {k : CtxId} {w : RWord} {s : State} (h : i.ralok = some (t, k, w)) (hs : s.issues t.val k.val w) :
    exec i s = .next (s.issueNow t.val k.val [w] (s.flag .TILE_CTRL (tix t.val) 1)) := by
  obtain ⟨ht, hl, hh, hf⟩ := hs
  rw [exec_tries h ht]
  simp [State.tryBundle, hl, hh, hf]

/-- The contexts of a tile after the others in RUN have returned to READY. -/
theorem lookupKey_yield (k : Nat) (es : List (Nat × Ctx)) (j : Nat) :
    lookupKey (es.map (fun e => (e.1, if e.1 ≠ k ∧ e.2.st = .run then { e.2 with st := .ready } else e.2))) j =
      (lookupKey es j).map (fun c => if j ≠ k ∧ c.st = .run then { c with st := .ready } else c) := by
  induction es with
  | nil => rfl
  | cons e es ih =>
    obtain ⟨a, c⟩ := e
    simp only [List.map_cons, lookupKey]
    split
    · rename_i h; subst h; rfl
    · exact ih

theorem getD_yield (o : Option Ctx) (p : Prop) [Decidable p] :
    (o.map (fun c => if p ∧ c.st = .run then { c with st := .ready } else c)).getD Ctx.zero =
      if p ∧ (o.getD Ctx.zero).st = .run then { o.getD Ctx.zero with st := .ready } else o.getD Ctx.zero := by
  cases o with
  | none => simp [Ctx.zero]
  | some c => rfl

/-- What an issue does to its tile's contexts, and that it does nothing else: `s1` is the state that the instruction's own effect has left but for the results `ps`, which
`s2` has on their way. -/
theorem IssuedOnly_of {s1 s2 u : State} {t k : Nat} {w : RWord} {ps : List PendWr} (f : Ctx → Ctx) (h1 : s2 = { s1 with tiles := s2.tiles })
    (h2 : ∀ x, x ≠ t → s2.tile x = s1.tile x) (h3 : s2.tile t = { s1.tile t with ctx := (s2.tile t).ctx })
    (h4 : ∀ j, j ≠ k → s2.ctxOf t j = s1.ctxOf t j)
    (hu : u = (s2.updTile t (fun x =>
      { x with cur := k, sel := some k, turn := false,
               ctx := ⟨x.ctx.entries.map (fun e => (e.1, if e.1 ≠ k ∧ e.2.st = .run then { e.2 with st := .ready } else e.2))⟩ })).updCtx t k f)
    (hf : f (s2.ctxOf t k) = (s1.ctxOf t k).issued w ps) : IssuedOnly s1 u t k w ps := by
  subst hu
  have key : ∀ j, (s2.updTile t (fun x =>
      { x with cur := k, sel := some k, turn := false,
               ctx := ⟨x.ctx.entries.map (fun e => (e.1, if e.1 ≠ k ∧ e.2.st = .run then { e.2 with st := .ready } else e.2))⟩ })).ctxOf t j =
      if j ≠ k ∧ (s2.ctxOf t j).st = .run then { s2.ctxOf t j with st := .ready } else s2.ctxOf t j := by
    intro j
    simp only [State.ctxOf, State.tile_updTile_same, Tile.context, Tab.get, Tab.find, lookupKey_yield]
    exact getD_yield _ _
  refine ⟨⟨?_, fun x hx => ?_⟩, ?_, fun j hj => ?_, ?_⟩
  · simp only [State.updCtx, State.setCtx, State.updTile, State.setTile]
    rw [h1]
  · simp [State.updCtx, State.setCtx, State.tile_updTile_ne hx, h2 x hx]
  · simp only [SameTileButContexts, State.updCtx, State.setCtx, Tile.setCtx, State.tile_updTile_same]
    rw [h3]
  · rw [State.ctxOf_updCtx_ne (Or.inr hj), key]
    simp [hj, h4 j hj]
  · rw [State.ctxOf_updCtx_same, key]
    simp [hf]

theorem findSome_congr {α β : Type} {f g : α → Option β} (xs : List α) (h : ∀ x, f x = g x) : xs.findSome? f = xs.findSome? g := by
  rw [funext h]

/-- What is on its way to the registers, the descriptor slots, the flags and the wrap windows have no part in where a context goes on. -/
theorem Ctx.advance_congr {c c' : Ctx} (ws : List RWord) (h : c' = { c with d := c'.d, awrap := c'.awrap, fflags := c'.fflags, oldWait := c'.oldWait, pend := c'.pend }) :
    c'.advance ws = { c.advance ws with d := c'.d, awrap := c'.awrap, fflags := c'.fflags, oldWait := c'.oldWait, pend := c'.pend } := by
  have hpc : c'.pc = c.pc := by rw [h]
  have hr : c'.rets = c.rets := by rw [h]
  have hl : c'.loops = c.loops := by rw [h]
  have hg : ∀ g, c'.guardS g = c.guardS g := by intro g; rw [h]; rfl
  have hs : ∀ i, c'.rdS i = c.rdS i := by intro i; rw [h]; rfl
  have hb : ∀ w, c'.branch w = c.branch w := by intro w; rw [h]; rfl
  unfold Ctx.advance
  simp only [hpc, hr, hl, hg, hs, hb]
  split
  · rw [h]
  · split
    · rw [h]
    · split
      · split <;> rw [h]
      · rw [h]

/-- Where a context goes on is all that `advance` changes. -/
theorem Ctx.advance_only (c : Ctx) (ws : List RWord) :
    c.advance ws = { c with pc := (c.advance ws).pc, loops := (c.advance ws).loops, rets := (c.advance ws).rets, skip := (c.advance ws).skip } := by
  unfold Ctx.advance
  split
  · rfl
  · simp only []
    split
    · rfl
    · split
      · split <;> rfl
      · rfl

/-- The issue of one enabled word, but for YIELD and HALT: `s1` is what its own effect leaves, but for the results `ps` on their way. -/
theorem issueNow_enabled {s s1 s2 : State} {t k : Nat} {w : RWord} {lock : Bool} {ps : List PendWr} (hen : (s.ctxOf t k).enables w = true)
    (hy : w.mn ≠ .YIELD) (hh : w.mn ≠ .HALT) (he : effOf s t k s w = s2) (h1 : s2 = { s1 with tiles := s2.tiles })
    (h2 : ∀ x, x ≠ t → s2.tile x = s1.tile x) (h3 : s2.tile t = { s1.tile t with ctx := (s2.tile t).ctx })
    (h4 : ∀ j, j ≠ k → s2.ctxOf t j = s1.ctxOf t j) (h5 : s2.ctxOf t k = { s1.ctxOf t k with pend := (s1.ctxOf t k).pend ++ ps }) :
    IssuedOnly s1 (s.issueNow t k [w] lock) t k w ps := by
  have hy' : (w.mn == Mn.YIELD) = false := by simpa using hy
  have hh' : (w.mn == Mn.HALT) = false := by simpa using hh
  unfold State.issueNow
  simp only [Ctx.active, List.filter, hen, List.foldl, List.any, hy', hh', he, Bool.false_or, Bool.and_false, Bool.false_eq_true, if_false]
  refine IssuedOnly_of _ h1 h2 h3 h4 rfl ?_
  simp only [h5, Ctx.issued]
  rw [Ctx.advance_congr (c := s1.ctxOf t k) [w] rfl, Ctx.advance_only (s1.ctxOf t k) [w]]

/-- The issue of one word that its guard disables. -/
theorem issueNow_disabled {s : State} {t k : Nat} {w : RWord} {lock : Bool} (hen : (s.ctxOf t k).enables w = false) :
    IssuedOnly s (s.issueNow t k [w] lock) t k w [] := by
  unfold State.issueNow
  simp only [Ctx.active, List.filter, hen, List.foldl, List.any, Bool.and_false, Bool.false_eq_true, if_false]
  refine IssuedOnly_of _ rfl (fun _ _ => rfl) rfl (fun _ _ => rfl) rfl ?_
  simp only [Ctx.issued, List.append_nil]
  rw [Ctx.advance_only (s.ctxOf t k) [w]]

theorem Tile.releaseAll_ctx (x : Tile) (k : Nat) : (x.releaseAll k).ctx = x.ctx := by
  unfold Tile.releaseAll
  suffices h : ∀ (js : List Nat) (x : Tile), (js.foldl (fun x j =>
    let y := x.slice j
    if y.owner = some k ∧ !y.releasing then x.setSlice j { y with releasing := true, rel := x.clk } else x) x).ctx = x.ctx from h _ x
  intro js
  induction js with
  | nil => intro x; rfl
  | cons j js ih =>
    intro x
    rw [List.foldl_cons, ih]
    simp only []
    split <;> rfl

/-- The wind-down of a context that has no stream request: its slots and waits go, its registers stay, its slices begin their release (R95, R197). -/
theorem windDown_quiet (s : State) (t k : Nat) (h : (s.tile t).reqs = []) :
    s.windDown t k = { s with tiles := (s.windDown t k).tiles } ∧ (∀ x, x ≠ t → (s.windDown t k).tile x = s.tile x) ∧
    (∀ j, j ≠ k → (s.windDown t k).ctxOf t j = s.ctxOf t j) ∧
    (s.windDown t k).ctxOf t k = { s.ctxOf t k with d := .empty, held := none, woken := false, bar := .no, skip := none, miss := none, ffail := none } := by
  unfold State.windDown State.discardReqs
  simp only [h, List.filter_nil, List.foldl_nil]
  refine ⟨rfl, ?_, ?_, ?_⟩
  · intro x hx
    simp only [State.updCtx, State.setCtx]
    rw [State.tile_updTile_ne hx, State.tile_updTile_ne hx, State.tile_updTile_ne hx]
  · intro j hj
    rw [State.ctxOf_updCtx_ne (Or.inr hj)]
    simp only [State.ctxOf, State.tile_updTile_same, Tile.context, Tile.releaseAll_ctx]
    rfl
  · rw [State.ctxOf_updCtx_same]
    simp only [State.ctxOf, State.tile_updTile_same, Tile.context, Tile.releaseAll_ctx]
    rfl

end Sys2Proof.Machine
end

