-- ==== Sys2Proof/Tests/Slice0.lean ====
section
/-! SUPPORT. Tests: ill-formed commands that the check refuses, instruction words written out from R100 to R104, and for every statement a state and operands that meet
its hypotheses, clause by clause. -/

-- One theorem after another: many kernel evaluations at once would hold many threads and their memory.
set_option Elab.async false

namespace Sys2Proof.Tests
open Sys2Proof Sys2Proof.Machine

/-! ### Ill-formed commands (R32, R97, R101 to R103, R121 to R146) -/

/-- The island: the firewall's entry 0 lets it write at reset. -/
def isl : Initiator := ⟨.isl, 0xA8⟩
/-- The initiator of no permission at reset. -/
def app : Initiator := ⟨.app, 0x98⟩
/-- A guard that always holds for p0 = all ones (R99, R105). -/
def gon : Guard := ⟨0, false⟩
def goff : Guard := ⟨0, true⟩
/-- The address of a register, as an access carries it. -/
def pa (r : Reg) (is : List Nat) : PAddr := BitVec.ofNat 44 (r.adr is)

theorem test_wf_refuses_accesses :
    (Instr.registerWrite isl 0x300 16 0).wf = false ∧ (Instr.registerWrite isl 0x302 32 0).wf = false ∧ (Instr.maskedWrite isl 0x301 0).wf = false ∧
    (Instr.loStagedWrite isl 0x303 0).wf = false ∧ (Instr.hiCommitWrite isl 0x302 0).wf = false ∧ (Instr.windowMessage 0 none 0 []).wf = false ∧
    (Instr.windowRead 0 none 0 0).wf = false ∧ (Instr.pcieWrite 0 0 true []).wf = false ∧ (Instr.pcieRead 0 0 true 0).wf = false ∧
    (Instr.initiatorMemoryWrite isl 0 []).wf = false ∧ (Instr.registerWrite isl 0x300 32 0).wf = true := by decide +kernel

/-- S slot: a modifier the mnemonic does not use, an a register above 15, a store with the sign bit, a branch off the bundle grid, a LOOP that ends before it begins. -/
theorem test_wf_refuses_s_words :
    (Instr.and 0 0 gon ⟨1, 2, 1, .imm 3⟩).wf = false ∧ (Instr.add 0 0 gon ⟨16, 2, 0x40, .imm 3⟩).wf = false ∧
    (Instr.stn 0 0 gon ⟨1, 2, 4, 0⟩).wf = false ∧ (Instr.ldn 0 0 gon ⟨1, 2, 8, 0⟩).wf = false ∧ (Instr.br 0 0 gon ⟨0, 0, 0, 4⟩).wf = false ∧
    (Instr.brc 0 0 gon ⟨1, 2, 6, 8⟩).wf = false ∧ (Instr.loop 0 0 gon ⟨1, 0, 0, 0xFFFFFFF8⟩).wf = false ∧ (Instr.csrrd 0 0 gon ⟨1, 1, 3⟩).wf = false ∧
    (Instr.add 0 0 gon ⟨1, 2, 1, .imm 3⟩).wf = true := by decide +kernel

/-- T slot: fields that a mnemonic leaves unused, a SEND of no rows, a FENCE of no kind, channels past 1,023. -/
theorem test_wf_refuses_t_words :
    (Instr.sopen 0 0 gon ⟨1, 2, 3, 4, 0⟩).wf = false ∧ (Instr.sland 0 0 gon ⟨1, 2, 3, 0, 0⟩).wf = false ∧ (Instr.send 0 0 gon ⟨1, 2, 3, 0, 5⟩).wf = false ∧
    (Instr.rnadd 0 0 gon ⟨false, 1, 2, false, 3, 0⟩).wf = false ∧ (Instr.rnwait 0 0 gon ⟨true, 1, 0, false, 3, 1⟩).wf = false ∧
    (Instr.fence 0 0 gon ⟨0, 0, 0, false, false⟩).wf = false ∧ (Instr.bar 0 0 gon ⟨1, 0, 0, false, false⟩).wf = false ∧
    (Instr.msest 0 0 gon ⟨0, 1023, 2, true, false⟩).wf = false ∧ (Instr.msest 0 0 gon ⟨0, 1023, 1, true, false⟩).wf = true := by decide +kernel

/-- V slot: a format the mnemonic does not take, an unused source, PD 0 of a compare, INC with no a register. M slot: no slice, no rows, ST with FP, an odd number of bytes. -/
theorem test_wf_refuses_v_and_m_words :
    (Instr.vexp 0 0 gon ⟨1, false, 2, false, 0, false, 0, 3, 0, false, 0, 0⟩).wf = false ∧
    (Instr.vexp 0 0 gon ⟨1, false, 2, false, 3, false, 0, 0, 0, false, 0, 0⟩).wf = false ∧
    (Instr.vcmp 0 0 gon ⟨0, false, 2, false, 3, false, 0, 0, 0, false, 0, 0⟩).wf = false ∧
    (Instr.vadd 0 0 gon ⟨1, false, 2, false, 3, false, 0, 0, 0, true, 0, 0⟩).wf = false ∧
    (Instr.vcvt 0 0 gon ⟨1, false, 2, false, 0, false, 0, 0, 0, false, 5, 0⟩).wf = false ∧
    (Instr.mclr 0 0 gon ⟨0, 0, false, 0, 0, 0, 0, 0, 0, 0, false, false, false⟩).wf = false ∧
    (Instr.mstw 0 0 gon ⟨1, 0, false, 0, 0, 63, 2, 0, 0, 0, false, false, false⟩).wf = false ∧
    (Instr.mldi 0 0 gon ⟨1, 0, false, 0, 3, 0, 0, 0, 0, 0, false, false, true⟩).wf = false ∧
    (Instr.mdrn 0 0 gon ⟨1, 0, false, 0, 0, 0, 1, 0, 0, 0, false, false, false⟩).wf = false ∧
    (Instr.mdrn 0 0 gon ⟨1, 0, false, 0, 0, 0, 4, 0, 0, 0, false, false, false⟩).wf = true := by decide +kernel

/-! ### Instruction words, written as E, slot, OP, I, PG, PN and the operand area of R101 -/

theorem test_words_s :
    decodeWord 0b1_00_000001_1_000_0_00011_00100_00000001_11111111111111111111111111111110 = (true, some ⟨.ADD, ⟨0, false⟩, .sa ⟨3, 4, 1, .imm 0xFFFFFFFE⟩⟩) ∧
    decodeWord 0b0_00_000111_0_010_1_00011_00100_00000010_00110_000000000000000000000000000 = (false, some ⟨.SHR, ⟨2, true⟩, .sa ⟨3, 4, 2, .reg 6⟩⟩) ∧
    decodeWord 0b1_00_001000_0_000_0_00111_0101_0_00010011_00000000000000000000000000001000 = (true, some ⟨.LDN, ⟨0, false⟩, .sm ⟨7, 5, 0x13, 8⟩⟩) ∧
    decodeWord 0b1_00_001011_0_001_0_00010_00011_00000101_11111111111111111111111111111000 = (true, some ⟨.BRC, ⟨1, false⟩, .sb ⟨2, 3, 5, 0xFFFFFFF8⟩⟩) ∧
    decodeWord 0b1_00_010000_0_000_0_00001_00010_000000010000_0000000000000000000000000000 = (true, some ⟨.CSRWR, ⟨0, false⟩, .sc ⟨1, 2, 0x10⟩⟩) ∧
    decodeWord 0b1_00_010010_0_000_0_00000000000000000000000000000000000000000000000000 = (true, some ⟨.HALT, ⟨0, false⟩, .sn⟩) ∧
    decodeWord 0b1_00_010010_0_000_0_00000000000000000000000000000000000000000000000001 = (true, none) ∧
    (decodeWord 0b1_00_010011_0_000_0_00000000000000000000000000000000000000000000000000).2 = none := by decide +kernel

theorem test_words_t :
    decodeWord 0b1_01_000001_0_000_0_0011_0100_00101_00000_00000000000000000000000001000000 = (true, some ⟨.SOPEN, ⟨0, false⟩, .ts ⟨3, 4, 5, 0, 64⟩⟩) ∧
    decodeWord 0b1_01_000010_0_000_0_0011_0100_00101_00110_11111111111111111111111100000000 = (true, some ⟨.SIDX, ⟨0, false⟩, .ts ⟨3, 4, 5, 6, 0xFFFFFF00⟩⟩) ∧
    decodeWord 0b1_01_000101_0_000_0_0001_0010_00011_0000100_00000000000101_0000000000000000 = (true, some ⟨.SEND, ⟨0, false⟩, .tx ⟨1, 2, 3, 4, 5⟩⟩) ∧
    decodeWord 0b1_01_000110_1_000_0_00000000000111_00010_1_00011_0000000000000000000001001 = (true, some ⟨.RNADD, ⟨0, false⟩, .tr ⟨true, 7, 2, true, 3, 9⟩⟩) ∧
    decodeWord 0b1_01_001011_0_000_0_00000000_0000000010_00000000011_1_0_0000000000000000000 = (true, some ⟨.MSEST, ⟨0, false⟩, .tb ⟨0, 2, 3, true, false⟩⟩) := by
  decide +kernel

theorem test_words_v_and_m :
    decodeWord 0b1_10_000100_0_111_0_00001_0_00010_1_00011_0_00100_010_000_1_0000_0000000000000000 =
      (true, some ⟨.VFMA, ⟨7, false⟩, .vr ⟨1, false, 2, true, 3, false, 4, 2, 0, true, 0, 0⟩⟩) ∧
    decodeWord 0b1_10_001010_0_000_0_00001_1_00010_0_00000_0_00000_001_000_0_1100_0000000000000001 =
      (true, some ⟨.VCVT, ⟨0, false⟩, .vr ⟨1, true, 2, false, 0, false, 0, 1, 0, false, 12, 1⟩⟩) ∧
    decodeWord 0b1_10_010000_0_000_0_00000_0_00010_0_00011_0_00000_000_101_0_0000_0000000000000011 =
      (true, some ⟨.VCMP, ⟨0, false⟩, .vr ⟨0, false, 2, false, 3, false, 0, 0, 5, false, 0, 3⟩⟩) ∧
    decodeWord 0b1_11_000010_0_000_0_0011_01_1_0100_0001_000101_0000110_0000000111_0000_00_1_0_1_000 =
      (true, some ⟨.MSTW, ⟨0, false⟩, .mx ⟨3, 1, true, 4, 1, 5, 6, 7, 0, 0, true, false, true⟩⟩) ∧
    decodeWord 0b0_11_000011_0_000_0_1111_10_0_0001_0000_000000_1000000_0000000000_0011_00_0_1_0_000 =
      (false, some ⟨.MDRN, ⟨0, false⟩, .mx ⟨15, 2, false, 1, 0, 0, 64, 0, 3, 0, false, true, false⟩⟩) ∧
    decodeWord 0b1_11_000100_0_000_0_0001_00_0_0000_0000_000000_0000000_0000000000_0000_10_0_0_0_000 =
      (true, some ⟨.MPART, ⟨0, false⟩, .mx ⟨1, 0, false, 0, 0, 0, 0, 0, 0, 2, false, false, false⟩⟩) := by decide +kernel

/-- The command table gives its rows no bits. -/
theorem test_table_words : decodeTableWord 0 0 = none ∧ decodeTableWord 32 0xFFFFFFFF = none := by decide

/-! ### Meeting the hypotheses of the statements -/

/-- Cluster 1 asleep; the device held in reset. -/
def asleep : State := State.reset.setFld .PRS_STATE [] 6 4 1
def inReset : State := { State.reset with rst := ⟨true, false, false⟩ }
theorem test_meets_ResetAndSleepHoldCommands : inReset.up = false ∧ asleep.clusterRuns (clusterOf 34) = false ∧ asleep.clusterRuns (clusterOf 67) = false ∧
    asleep.clusterRuns (clusterOf 33) = true ∧ asleep.clusterRuns (clusterOf 68) = true := by decide +kernel

theorem test_meets_SizeErrorAccess : (16 ≠ 32 ∨ (0x300 : PAddr).toNat % 4 ≠ 0) ∧ (32 ≠ 32 ∨ (0x303 : PAddr).toNat % 4 ≠ 0) ∧ State.reset.up = true := by decide +kernel

/-- An address that no block decodes, an undecoded offset of a block's window, and an initiator without permission. -/
theorem test_meets_RefusedWrite : regsNear 0x7FFFFC = [] ∧ 0x7FFFFC < 0x10000000 ∧ State.reset.up = true ∧
    regsNear 0x308 ≠ [] ∧ State.reset.permits isl 0x308 4 true = true ∧ regAt 0x308 = none ∧
    regsNear 0x300 ≠ [] ∧ State.reset.permits app 0x300 4 true = false := by decide +kernel

theorem test_meets_RegisterWritesStore : State.reset.Inv ∧ State.reset.takes isl .SWP_JUMP [] 0xFFFFFFFF ∧ Reg.quiet .SWP_JUMP = true ∧
    State.reset.takes isl .FAB_TREGg [127] 0xFFFF0000 ∧ State.reset.takes isl .FAB_TREGg [0] 1 := by unfold State.takes State.Inv; decide +kernel

theorem test_meets_StagedWriteCommits : State.reset.Inv ∧ State.reset.takes isl .FAB_WINw_BASE_LO [255] 0xFFFFFFFF ∧ Reg.quiet .FAB_WINw_BASE_LO = true ∧
    (Reg.desc .FAB_WINw_BASE_LO).kind = .lo ∧ State.reset.takes isl .FAB_WINw_BASE_HI [255] 0xFFFFFFFF ∧ Reg.quiet .FAB_WINw_BASE_HI = true ∧
    (Reg.desc .FAB_WINw_BASE_HI).kind = .hi := by unfold State.takes State.Inv; decide +kernel

/-- A write of one bit over what the register holds (R52). -/
def bitOf (s : State) (r : Reg) (is : List Nat) (i v : Nat) : Nat := putBits (s.rwPart r is) i i v

/-- Holds requested on the last unit of each kind; the units are idle. -/
def holdsAsked : State :=
  (((State.reset.setFlag .FAB_WINw_CTRL [255] (holdBit (.window 255)).2.2 true).setFlag (holdBit (.ing 31)).1 (holdBit (.ing 31)).2.1 (holdBit (.ing 31)).2.2 true).setFlag
    (holdBit (.isp 31)).1 (holdBit (.isp 31)).2.1 (holdBit (.isp 31)).2.2 true).setFlag .PRS_CTRL [] (holdBit .prs).2.2 true

theorem test_meets_HoldRequestHeldRelease : State.reset.Inv ∧ holdsAsked.Inv ∧
    (∀ u ∈ [HoldUnit.window 0, .window 255, .ing 0, .ing 31, .isp 0, .isp 31, .prs],
      State.reset.takes isl (holdBit u).1 (holdBit u).2.1 (bitOf State.reset (holdBit u).1 (holdBit u).2.1 (holdBit u).2.2 1) ∧
      State.reset.takes isl (holdBit u).1 (holdBit u).2.1 (bitOf State.reset (holdBit u).1 (holdBit u).2.1 (holdBit u).2.2 0) ∧
      State.reset.heldBit u = false ∧ State.reset.flag (holdBit u).1 (holdBit u).2.1 (holdBit u).2.2 = false) ∧
    (∀ u ∈ [HoldUnit.window 255, .ing 31, .isp 31, .prs],
      holdsAsked.flag (holdBit u).1 (holdBit u).2.1 (holdBit u).2.2 = true ∧ holdsAsked.unitFree u = true) := by
  unfold State.Inv State.takes; decide +kernel

/-- The sweep unit enabled: bit 1 follows SYNC_IDX. -/
def swpOn (v : Nat) : State := { State.reset.setReg .SWP_CTRL [] v with swp := { Sweep.zero with st := .acquire, running := true } }

theorem test_meets_SweepEnableAndRecords : State.reset.Inv ∧ (swpOn 1).Inv ∧ State.reset.takes isl .SWP_CTRL [] (putBits 7 0 0 1) ∧ State.reset.swpEn = false ∧
    (swpOn 1).takes isl .SWP_CTRL [] (putBits 7 0 0 0) ∧ (swpOn 1).swpEn = true ∧ (swpOn 1).takes isl .SWP_CNTCLR [] 1 ∧ (swpOn 1).takes isl .SWP_MISS_POP [] 1 := by
  unfold State.Inv State.takes; decide +kernel

def atWrap : State := { swpOn 1 with swp := { (swpOn 1).swp with pos := 2 ^ 32, fired := [3] } }
def holding : State := { swpOn 1 with swp := { (swpOn 1).swp with st := .holdover, pos := 2 ^ 32 - 1 } }
def pulsed : State := { swpOn 3 with swp := { (swpOn 3).swp with cycle := 60000000, lastAcc := some 30000000, lastI := some 100000000 } }

theorem test_meets_SweepCyclesWrapsAndPulses : State.reset.up = true ∧ State.reset.swpEn = false ∧
    (atWrap.up = true ∧ atWrap.swp.running = true ∧ 2 ^ 32 ≤ atWrap.swp.pos) ∧ (holding.swp.pos < 2 ^ 32) ∧
    (holding.up = true ∧ holding.swpEn = true ∧ holding.swpIdx = false ∧ holding.swp.running = true ∧ holding.swp.st = .holdover ∧ holding.net.tb ≠ .sync ∧
      holding.swp.left = [] ∧ holding.openEntries = []) ∧
    ((swpOn 3).swpEn = true ∧ (swpOn 3).swpIdx = true ∧ false = (swpOn 3).flag .SWP_IDX [] 0 ∧ (swpOn 3).swp.lastAcc = none) ∧
    (pulsed.up = true ∧ pulsed.swpEn = true ∧ pulsed.swpIdx = true ∧ false = pulsed.flag .SWP_IDX [] 0 ∧ 10000000 ≤ (32500000 - 30000000) * 4 ∧
      (32500000 - 30000000) * 4 ≤ 1000000000 ∧ agrees (pulsed.fld .SWP_IDX [] 23 8) ((55000000 - 30000000) * 4) (pulsed.swp.lastI.getD pulsed.period) = true) := by
  decide +kernel

/-- A phase-table entry that is due now, with its action and mask. -/
def dueNow (s : State) (act hi : Nat) : State :=
  { s with swp := { s.swp with due := [⟨1023, BitVec.ofNat 32 (act * 2 ^ 16), BitVec.ofNat 32 hi, 5, 9, 0, false⟩] } }
def dueRec (act hi : Nat) : Due := ⟨1023, BitVec.ofNat 32 (act * 2 ^ 16), BitVec.ofNat 32 hi, 5, 9, 0, false⟩
def gateUp : State := (State.reset.setFlag .SEC_GATE [] 0 true).setFlag .PAD_I3Cc_CTRL [3] 0 true
def i3cFull : State := { gateUp with vis := { gateUp.vis with i3c := Tab.empty.put 3 (List.replicate 16 ⟨0, 0, 0, 0, false⟩) } }
def camOn : State := State.reset.setFlag .ING_CTXn_SRC [31] 0 true

theorem test_meets_PhaseTableRegisterAndVisionActions : State.reset.Inv ∧ gateUp.Inv ∧ i3cFull.Inv ∧ camOn.Inv ∧ (dueRec 0 0).held = false ∧
    State.reset.up = true ∧ State.reset.prs.cave = false ∧
    ((dueNow State.reset 0 0).dueEntry 1023 (· == 0) = some (dueRec 0 0, []) ∧
      (dueNow State.reset 10 0).dueEntry 1023 (fun a => decide (10 ≤ a)) = some (dueRec 10 0, []) ∧
      (dueNow State.reset 15 0).dueEntry 1023 (fun a => decide (10 ≤ a)) = some (dueRec 15 0, []) ∧
      (dueNow State.reset 7 0x81).dueEntry 1023 (· == 7) = some (dueRec 7 0x81, []) ∧
      (dueNow State.reset 8 0x83).dueEntry 1023 (· == 8) = some (dueRec 8 0x83, [])) ∧
    ((dueNow gateUp 1 0x8001).dueEntry 1023 (· == 1) = some (dueRec 1 0x8001, []) ∧ gateUp.flag .SEC_GATE [] 0 = true ∧ gateUp.up = true) ∧
    ((dueNow gateUp 2 0x800003FF).dueEntry 1023 (· == 2) = some (dueRec 2 0x800003FF, []) ∧ gateUp.flag .PAD_I3Cc_CTRL [bits 0x800003FF 1 0] 0 = true ∧
      (gateUp.i3cQueue 3).length < 16) ∧
    ((dueNow i3cFull 2 3).dueEntry 1023 (· == 2) = some (dueRec 2 3, []) ∧ i3cFull.flag .PAD_I3Cc_CTRL [bits 3 1 0] 0 = true ∧ 16 ≤ (i3cFull.i3cQueue 3).length) ∧
    ((dueNow State.reset 4 0xF).dueEntry 1023 (· == 4) = some (dueRec 4 0xF, []) ∧ State.reset.events = []) ∧
    ((dueNow camOn 5 0x80000000).dueEntry 1023 (· == 5) = some (dueRec 5 0x80000000, []) ∧ (0x80000000 : Nat).testBit 31 = true ∧ camOn.ingEn 31 = true) := by
  unfold State.Inv; and_intros <;> decide +kernel

/-- A job of queue 255 that runs context 0 of logical tile 0. -/
def job : Job :=
  { q := 255, core := 0, seq := 1, fence := false, tag := 7, dlSweeps := 1, dlPhase := 0, arg := 0, out := 1, sched := 0, mctx := 0,
    ents := [⟨0, 0, 0, 0x1000⟩], st := .admitted, jid := 9, rel := (0, 0), launch := [], loads := [], killed := false, miss := none, done := none, traced := false }
def withJobs (s : State) (js : List Job) : State := { s with fw := { s.fw with jobs := js } }
def picked : State := withJobs State.reset [job]
def dl (missed : Bool) (ph : Nat) : DlEnt := ⟨9, 255, 7, 5, ph, missed⟩
def dlState (ph flag : Nat) (full : Bool) : State :=
  let s := State.reset.setFld .SWP_QCFGq [255] 1 0 flag
  { s with swp := { s.swp with store := [dl false ph], miss := if full then List.replicate 64 ⟨0, 0, 0, 0, 0⟩ else [] } }

theorem test_meets_PhaseTableJobsAndDeadlines : picked.Inv ∧ State.reset.Inv ∧ (dlState 9 1 true).Inv ∧
    ((dueNow picked 3 255).dueEntry 1023 (· == 3) = some (dueRec 3 255, []) ∧ picked.up = true ∧ picked.prs.cave = false ∧ picked.fw.jobs = [job] ∧
      job.q = bits 255 7 0 ∧ job.st = .admitted ∧ job.killed = false ∧ picked.swp.store.length < 4096 ∧ 1 ≤ job.dlSweeps) ∧
    ((dueNow State.reset 6 0x3F5).dueEntry 1023 (· == 6) = some (dueRec 6 0x3F5, []) ∧ State.reset.opsetReady 0x3F5 = true) ∧
    ((dueNow State.reset 9 255).dueEntry 1023 (· == 9) = some (dueRec 9 255, []) ∧ State.reset.swp.store = []) ∧
    (∀ flag ∈ [0, 1], ∀ full ∈ [false, true], (dueNow (dlState 9 flag full) 9 255).dueEntry 1023 (· == 9) = some (dueRec 9 255, []) ∧
      (dlState 9 flag full).up = true ∧ (dlState 9 flag full).swp.store = [dl false 9] ∧ (dl false 9).missed = false ∧ (dl false 9).queue < 256 ∧
      (dl false 9).queue = bits 255 7 0 ∧ pointLe ((dl false 9).sweep, (dl false 9).phase) (5, 9) = true ∧ (dlState 9 flag full).fld .SWP_QCFGq [255] 1 0 = flag ∧
      ((dlState 9 flag full).swp.miss.length = if full then 64 else 0)) ∧
    ((dlState 10 0 false).swp.store = [dl false 10] ∧ pointLe ((dl false 10).sweep, (dl false 10).phase) (5, 9) = false ∧ (dl false 9).queue ≠ bits 254 7 0) := by
  unfold State.Inv; and_intros <;> decide +kernel

/-! #### Tiles -/

/-- Tile `t` enabled and READY at clock 10. -/
def up (t : Nat) : State := (State.reset.setFlag .TILE_CTRL (tix t) 0 true).updTile t (fun x => { x with ready := true, everOn := true, clk := 10 })
/-- Context `k` of tile `t` as `f` makes it, READY at 0x1000 before that. -/
def upCtx (t k : Nat) (f : Ctx → Ctx) : State := (up t).updCtx t k (fun c => f { c with st := .ready, pc := 0x1000 })
def setS (i : Nat) (v : DWord) (c : Ctx) : Ctx := { c with s := c.s.put i v }
def setA (i : Nat) (v : DWord) (c : Ctx) : Ctx := { c with a := c.a.put i v }
def clash : State := State.reset.setFld .CLU_REMAPl [3, 31] 5 0 0
def brined : State := { (State.reset.updTile 135 (fun x => { x with brining := true, unlanded := [4095], poison := [4095], clk := 9 })) with
  mem := State.reset.mem.wr (spadBase 135 + 0xFFFFF) 0xAB }

theorem test_meets_TileEnableStartsUp : State.reset.Inv ∧ clash.Inv ∧ brined.Inv ∧
    State.reset.takes isl .TILE_CTRL (tix 135) (bitOf State.reset .TILE_CTRL (tix 135) 0 1) ∧ State.reset.flag .TILE_CTRL (tix 135) 0 = false ∧
    State.reset.bindingsDistinct (clusterOf 135) = true ∧ clash.takes isl .TILE_CTRL (tix 135) (bitOf clash .TILE_CTRL (tix 135) 0 1) ∧
    clash.flag .TILE_CTRL (tix 135) 0 = false ∧ clash.bindingsDistinct (clusterOf 135) = false ∧ brined.clocked 135 ∧ (brined.tile 135).brining = true := by
  unfold State.Inv State.takes State.clocked; and_intros <;> decide +kernel

theorem test_meets_ContextStartStopLockstep : (upCtx 135 3 id).Inv ∧
    (upCtx 135 3 id).takes isl .TILE_CTRL (tix 135) (bitOf (upCtx 135 3 id) .TILE_CTRL (tix 135) 0 0) ∧ (upCtx 135 3 id).flag .TILE_CTRL (tix 135) 0 = true ∧
    (upCtx 135 3 id).takes isl .TILE_CTXk_CMD (tix 135 ++ [3]) 1 ∧ (upCtx 135 3 id).takes isl .TILE_CTXk_CMD (tix 135 ++ [3]) 2 ∧
    ((upCtx 135 3 id).tile 135).ready = true ∧ ((upCtx 135 3 id).tile 135).killed = false ∧ ((upCtx 135 3 id).ctxOf 135 3).st = .ready ∧
    (up 135).takes isl .TILE_CTXk_CMD (tix 135 ++ [3]) 1 ∧ ((up 135).ctxOf 135 3).st = .idle ∧ ((upCtx 135 3 id).ctxOf 135 3).st ≠ .idle ∧
    (up 135).takes isl .TILE_CTRL (tix 135) (bitOf (up 135) .TILE_CTRL (tix 135) 1 1) ∧ (up 135).flag .TILE_CTRL (tix 135) 1 = false ∧
    (up 135).takes isl .TILE_CTRL (tix 135) (bitOf (up 135) .TILE_CTRL (tix 135) 1 0) ∧ (up 135).takes isl .TILE_STALLCLR (tix 135) 1 := by
  unfold State.Inv State.takes; and_intros <;> decide +kernel

/-- A result due at `due` on its way to s31 of context 3, under a debug hold that lets no context issue. -/
def heldTile (due : Nat) : State :=
  ((up 135).setFlag .TILE_CTRL (tix 135) 2 true).updCtx 135 3 (fun c => { c with pend := [⟨due, none, .s 31 0x1234⟩] })
def starting : State := (State.reset.setFlag .TILE_CTRL (tix 135) 0 true).updTile 135 (fun x => { x with brining := true })
def waiting : State := upCtx 135 3 (fun c => { c with st := .wait, held := some [⟨.YIELD, gon, .sn⟩] })
def parked (woken : Bool) (b : BarSt) : State := upCtx 135 3 (fun c => { c with st := .park, held := some [⟨.YIELD, gon, .sn⟩], woken := woken, bar := b })

theorem test_meets_TileClockAndContextReady : State.reset.clocked 135 ∧ State.reset.flag .TILE_CTRL (tix 135) 0 = false ∧
    (starting.clocked 135 ∧ starting.flag .TILE_CTRL (tix 135) 0 = true ∧ (starting.tile 135).ready = false) ∧
    (∀ due ∈ [11, 12], (heldTile due).clocked 135 ∧ (heldTile due).flag .TILE_CTRL (tix 135) 0 = true ∧ ((heldTile due).tile 135).ready = true ∧
      (heldTile due).dbgHold 135 = true ∧ ((heldTile due).tile 135).mq = [] ∧ ((heldTile due).tile 135).reqs = [] ∧ ((heldTile due).ctxOf 135 2).pend = [] ∧
      ((heldTile due).ctxOf 135 3).pend = [⟨due, none, .s 31 0x1234⟩] ∧ ((heldTile due).ctxOf 135 3).s.wf = true ∧ ((heldTile due).tile 135).clk + 1 = 11) ∧
    (waiting.clocked 135 ∧ (waiting.ctxOf 135 3).st = .wait ∧ (waiting.ctxOf 135 3).held = some [⟨.YIELD, gon, .sn⟩] ∧
      waiting.holdOf 135 3 [⟨.YIELD, gon, .sn⟩] = none) ∧
    ((parked true .no).clocked 135 ∧ ((parked true .no).ctxOf 135 3).st = .park ∧ ((parked true .no).ctxOf 135 3).woken = true ∧
      ((parked false .woken).ctxOf 135 3).bar = .woken ∧ ((parked false .sent).ctxOf 135 3).woken = false ∧ ((parked false .sent).ctxOf 135 3).bar ≠ .woken) := by
  unfold State.clocked; and_intros <;> decide +kernel

theorem other_contexts_idle (due j : Nat) (h : j ≠ 3) : ((heldTile due).ctxOf 135 j).pend = [] := by
  rw [heldTile, State.ctxOf_updCtx_ne (Or.inr h)]; rfl

/-- Words of a tile's context, one per slot or kind of hold. -/
def wAdd : RWord := ⟨.ADD, gon, .sa ⟨31, 1, 0, .imm 0xFFFFFFFF⟩⟩
def wOff : RWord := ⟨.ADD, goff, .sa ⟨31, 1, 0, .imm 0xFFFFFFFF⟩⟩
def wIll : RWord := ⟨.AND, gon, .sa ⟨31, 1, 1, .imm 0⟩⟩
def wRet : RWord := ⟨.RET, gon, .sn⟩
def wVadd : RWord := ⟨.VADD, gon, .vr ⟨1, false, 2, true, 3, false, 0, 0, 0, false, 0, 0⟩⟩
def wSidx : RWord := ⟨.SIDX, gon, .ts ⟨15, 4, 5, 0, 0⟩⟩
def wFence : RWord := ⟨.FENCE, gon, .tb ⟨8, 0, 0, false, false⟩⟩
def wBar : RWord := ⟨.BAR, gon, .tb ⟨0, 0, 0, false, false⟩⟩
def wRnwait : RWord := ⟨.RNWAIT, gon, .tr ⟨true, 16383, 0, false, 0, 1⟩⟩
def wMclr : RWord := ⟨.MCLR, gon, .mx ⟨1, 0, false, 0, 0, 0, 0, 0, 0, 0, false, false, false⟩⟩
def looping (fin count : Nat) : State := upCtx 135 3 (fun c => { c with loops := [⟨0x800, fin, count⟩] })
/-- A gather read of 256-byte elements, and a block read. -/
def idxDesc : Desc := ⟨0x10000, 0x801, 256, 0x20000, 100, List.replicate 16 0⟩
def blkDesc : Desc := ⟨0x10000, 0x2, 256, 0x20000, 100, List.replicate 16 0⟩
def reqAt (id addr : Nat) : Req :=
  { id := id, ctx := 3, pc := 0x1000, mctx := 0, d := idxDesc, addr := addr, c := 1, f := 0, iss := 0, idx := .empty, bad := [], nextIdx := 0, next := 0,
    plan := [], fills := [], landed := .empty, badRows := [], cut := [], disc := [], failed := [], starved := false, queued := true }
def ment (id : Nat) (mn : Mn) (f : MX) (run : Option MRun) : MEnt := ⟨id, 3, 0x1000, mn, f, 0, 9, run⟩
def mclr1 : MX := ⟨1, 0, false, 0, 0, 0, 0, 0, 0, 0, false, false, false⟩
/-- A context that each kind of hold of R81, R82, R107, R131 and R134 keeps from issuing, with its word. -/
def heldBy : Hold → State × RWord
  | .oldVal => (upCtx 135 3 (fun c => { c with oldWait := true }), wAdd)
  | .rnt => (upCtx 135 3 id, wRnwait)
  | .rows => ((upCtx 135 3 (setA 3 0xFFF00)).updTile 135 (fun x => { x with unlanded := [4095] }), ⟨.VADD, gon, .vr ⟨1, false, 3, true, 3, false, 0, 0, 0, false, 0, 0⟩⟩)
  | .full => ((upCtx 135 3 (fun c => setS 5 1 { c with d := c.d.put 15 idxDesc })).updTile 135 (fun x => { x with reqs := List.replicate 16 (reqAt 1 0) }), wSidx)
  | .grant => ((upCtx 135 3 (setA 2 0x300)).updTile 135 (fun x => { x with rdBanks := [3] }), wVadd)
  | .fence => ({ upCtx 135 3 id with fab := { Fab.zero with ops := [⟨5, .add 1, 135, some (135, 3), none⟩] } }, wFence)
  | .mqueue => ((upCtx 135 3 id).updTile 135 (fun x => { x with mq := List.replicate 8 (ment 1 .MCLR mclr1 none) }), wMclr)
  | .barWait => (upCtx 135 3 (fun c => { c with bar := .sent }), wBar)
  | .barFence => ({ upCtx 135 3 id with fab := { Fab.zero with ops := [⟨5, .add 1, 135, some (135, 3), none⟩] } }, wBar)
  | .barArrive => (upCtx 135 3 id, wBar)

theorem test_meets_GuardedOffHeldAndFaultingWords :
    (∀ s ∈ [upCtx 135 3 id, looping 0x2000 5, looping 0x1000 2, looping 0x1000 1], s.issues 135 3 wOff ∧ (s.ctxOf 135 3).enables wOff = false) ∧
    (upCtx 135 3 id).Inv ∧ (upCtx 135 3 id).tries 135 3 ∧ bundleLegal [wIll] = false ∧ bundleLegal [wRet] = true ∧ (upCtx 135 3 id).holdOf 135 3 [wRet] = none ∧
    (upCtx 135 3 id).bundleFault 135 3 [wRet] = some 0x0B ∧ ((upCtx 135 3 id).tile 135).reqs = [] ∧
    (∀ h ∈ [Hold.oldVal, .rnt, .rows, .full, .grant, .fence, .mqueue, .barWait, .barFence, .barArrive],
      (heldBy h).1.tries 135 3 ∧ bundleLegal [(heldBy h).2] = true ∧ (heldBy h).1.holdOf 135 3 [(heldBy h).2] = some h) := by
  unfold State.issues State.tries State.clocked State.Inv; and_intros <;> decide +kernel

/-- Context 3 of tile 135 with values in its registers: s2 = 40, s5 = 2, s6 = 1; a1 to a3 name rows, a2 the last 8 bytes of the scratchpad; a return address; two descriptors;
at a9 a descriptor in the scratchpad. -/
def cx (c : Ctx) : Ctx :=
  { c with
    s := (((((Tab.empty.put 1 0xFFFFFFFF80000001).put 2 40).put 5 2).put 6 1).put 7 0),
    a := ((((Tab.empty.put 1 0x100).put 2 0xFFFF8).put 3 0x300).put 4 0x400).put 9 0x800,
    v := ((Tab.empty.put 2 (List.replicate 64 0x3F800000)).put 3 (List.replicate 64 0x40000000)).put 4 (List.replicate 64 0x40400000),
    p := (Tab.empty.put 1 1).put 5 0x8000000000000001, rets := [0x2000], d := (Tab.empty.put 15 idxDesc).put 14 blkDesc }
def descBytes : List Byte := leBytes 8 0xFFF0 ++ leBytes 4 0x801 ++ leBytes 4 256 ++ leBytes 8 0x20000 ++ leBytes 4 100 ++ List.replicate 36 0
def busy : State :=
  { (upCtx 135 3 cx).setFld .TILE_JOB (tix 135) 8 0 0x109 with
    mem := (State.reset.mem.wrBytes (spadBase 135 + 0xFFFF8) [0x80, 0xFF, 1, 2, 3, 4, 5, 0x86]).wrBytes (spadBase 135 + 0x800) descBytes }
/-- The same context at the end bundle of its innermost loop, at a BAR's end, with no return address. -/
def busyIn (f : Ctx → Ctx) : State := busy.updCtx 135 3 f
def atEnd (n : Nat) : State := busyIn (fun c => { c with loops := [⟨0x800, 0x1000, n⟩, ⟨0x700, 0x3000, 5⟩] })
def sa (mn : Mn) (fn : BitVec 8) (src : Src2) : RWord := ⟨mn, ⟨1, false⟩, .sa ⟨8, 1, fn, src⟩⟩

theorem test_meets_ScalarArithmeticAndMemory : busy.Inv ∧ (busy.ctxOf 135 3).guardS ⟨1, false⟩ = true ∧
    (∀ w ∈ [sa .ADD 0 (.reg 1), sa .ADD 1 (.imm 0xFFFFFFFF), sa .SUB 1 (.reg 2), sa .AND 0 (.reg 1), sa .OR 0xC0 (.reg 1), sa .XOR 0 (.imm 0xFFFFFFFF), sa .SHL 1 (.reg 2),
        sa .SHR 3 (.reg 2), sa .SHR 2 (.reg 2), ⟨.LDN, ⟨1, false⟩, .sm ⟨7, 2, 3, 0⟩⟩, ⟨.LDN, ⟨1, false⟩, .sm ⟨7, 2, 0x94, 8⟩⟩, ⟨.STN, ⟨1, false⟩, .sm ⟨1, 2, 3, 0⟩⟩,
        ⟨.STN, ⟨1, false⟩, .sm ⟨1, 2, 0x11, 2⟩⟩], busy.issues 135 3 w) := by
  unfold State.issues State.tries State.clocked State.Inv; and_intros <;> decide +kernel

theorem test_meets_ControlRegistersFencesStatistics : (busy.ctxOf 135 3).guardS gon = true ∧ busy.csrValue 135 3 3 = some 0 ∧
    (busy.csrValue 135 3 16).isSome = true ∧ (busy.csrValue 135 3 31).isSome = true ∧
    (∀ w ∈ [⟨.CSRRD, gon, .sc ⟨8, 0, 31⟩⟩, ⟨.CSRWR, gon, .sc ⟨8, 1, 3⟩⟩, ⟨.CSRWR, gon, .sc ⟨8, 1, 31⟩⟩, (⟨.FENCE, gon, .tb ⟨15, 0, 0, false, false⟩⟩ : RWord),
        ⟨.MSEST, gon, .tb ⟨0, 0, 1024, true, true⟩⟩, ⟨.MSEST, gon, .tb ⟨0, 1023, 1, true, false⟩⟩], busy.issues 135 3 w) ∧
    (busyIn (fun c => { c with bar := .woken })).issues 135 3 wBar := by
  unfold State.issues State.tries State.clocked; and_intros <;> decide +kernel

def sb (mn : Mn) (a b : BitVec 5) (fn : BitVec 8) (off : BitVec 32) : RWord := ⟨mn, gon, .sb ⟨a, b, fn, off⟩⟩
theorem test_meets_ControlFlowYieldHalt : (busy.ctxOf 135 3).guardS gon = true ∧ (0x0FF8 : Int) = (((busy.ctxOf 135 3).pc : Int) + (0xFFFFFFF8 : BitVec 32).toInt) % 2 ^ 48 ∧
    0x1008 = ((busy.ctxOf 135 3).pc + 8) % 2 ^ 48 ∧
    (∀ w ∈ [sb .BR 0 0 0 0xFFFFFFF8, sb .BRC 1 2 0 8, sb .BRC 1 2 1 8, sb .BRC 1 2 2 8, sb .BRC 1 2 3 8, sb .BRC 1 2 4 8, sb .BRC 1 2 5 0xFFFFFFF8, sb .CALL 0 0 0 8, wRet,
        sb .LOOP 5 0 0 16, sb .LOOP 7 0 0 16, ⟨.YIELD, gon, .sn⟩, ⟨.HALT, gon, .sn⟩], busy.issues 135 3 w) ∧
    (busy.ctxOf 135 3).rdS 5 ≠ 0 ∧ (busy.ctxOf 135 3).rdS 7 = 0 ∧ (busy.tile 135).reqs = [] ∧
    (∀ n ∈ [1, 2], ∀ w ∈ [sb .BRC 1 2 0 8, sb .LOOP 5 0 0 16, sb .LOOP 7 0 0 16], (atEnd n).issues 135 3 w) := by
  unfold State.issues State.tries State.clocked; and_intros <;> decide +kernel

theorem test_meets_StreamInstructions : (busy.ctxOf 135 3).guardS gon = true ∧
    (∀ w ∈ [⟨.SOPEN, gon, .ts ⟨0, 9, 6, 0, 0⟩⟩, ⟨.SIDX, gon, .ts ⟨15, 4, 5, 6, 0⟩⟩, ⟨.SBLK, gon, .ts ⟨14, 4, 5, 6, 0⟩⟩, ⟨.SIDX, gon, .ts ⟨15, 4, 7, 6, 0⟩⟩,
        (⟨.SBLK, gon, .ts ⟨15, 4, 5, 6, 0⟩⟩ : RWord), ⟨.SLAND, gon, .ts ⟨0, 4, 5, 0, 0xFFFFFC00⟩⟩],
      (busyIn (setS 6 16)).issues 135 3 w) ∧
    ((busyIn (setS 6 16)).ctxOf 135 3).requestOf .SIDX ⟨15, 4, 5, 6, 0⟩ = some (idxDesc, 2, 16) ∧
    ((busyIn (setS 6 16)).ctxOf 135 3).requestOf .SBLK ⟨14, 4, 5, 6, 0⟩ = some (blkDesc, 2, 16) ∧
    ((busyIn (setS 6 16)).ctxOf 135 3).requestOf .SIDX ⟨15, 4, 7, 6, 0⟩ = none ∧ ((busyIn (setS 6 16)).ctxOf 135 3).requestOf .SBLK ⟨15, 4, 5, 6, 0⟩ = none := by
  unfold State.issues State.tries State.clocked; and_intros <;> decide +kernel

theorem test_meets_SendAndCounterInstructions : (busy.ctxOf 135 3).guardS gon = true ∧
    (∀ w ∈ [⟨.SEND, gon, .tx ⟨1, 3, 7, 127, 16383⟩⟩, ⟨.RNADD, gon, .tr ⟨false, 16383, 0, false, 0, 0⟩⟩, ⟨.RNADD, gon, .tr ⟨true, 16381, 5, true, 0, 9⟩⟩,
        ⟨.RNADD, gon, .tr ⟨true, 5, 0, false, 31, 0x1FFFFFF⟩⟩, ⟨.RNSET, gon, .tr ⟨false, 5, 0, false, 1, 0⟩⟩, (⟨.RNSET, gon, .tr ⟨true, 5, 0, false, 8, 1⟩⟩ : RWord),
        ⟨.RNWAIT, gon, .tr ⟨true, 16383, 0, false, 0, 0⟩⟩], busy.issues 135 3 w) := by
  unfold State.issues State.tries State.clocked; and_intros <;> decide +kernel

def vr (mn : Mn) (ty : BitVec 3) (pd : BitVec 3) (xf : BitVec 4) (fn : BitVec 16) (two three : Bool) : RWord :=
  ⟨mn, ⟨5, false⟩, .vr ⟨if mn = .VCMP then 0 else 1, false, 2, false, if two then 3 else 0, false, if three then 4 else 0, ty, pd, false, xf, fn⟩⟩
/-- The first source a row at a3, the destination the row at a1, both advanced. -/
def vrow (mn : Mn) : RWord := ⟨mn, ⟨5, false⟩, .vr ⟨1, true, 3, true, 3, false, if mn = .VFMA then 4 else 0, 1, 0, true, 0, 0⟩⟩

theorem test_meets_VectorArithmetic : (busy.ctxOf 135 3).guardMask ⟨5, false⟩ = 0x8000000000000001 ∧ (0x8000000000000001 : BitVec 64) ≠ 0 ∧
    (∀ w ∈ [vr .VADD 0 0 0 0 true false, vr .VSUB 3 0 0 0 true false, vr .VMUL 1 0 0 0 true false, vr .VFMA 2 0 0 0 true true, vr .VMAX 0 0 0 0 true false,
        vr .VMIN 3 0 0 0 true false, vr .VEXP 0 0 0 1 false false, vr .VRCP 1 0 0 0 false false, vr .VRSQ 2 0 0 0 false false, vrow .VADD, vrow .VFMA, vrow .VMIN],
      busy.issues 135 3 w) := by
  unfold State.issues State.tries State.clocked; and_intros <;> decide +kernel

theorem test_meets_VectorConversionsAndSelections : (∀ l ∈ [0, 63], (fun l => 1023 + 0 * l) l = bits 0x7FF 9 0 + if (0x7FF : BitVec 16).getLsbD 10 then 0 else l) ∧
    (∀ w ∈ [vr .VCVT 0 0 12 1 false false, vr .VCVT 0 0 0 0 false false, vr .VQNT 0 0 0 0x7FF false false, vr .VQNT 0 0 2 0 false false, vr .VDQNT 0 0 1 0x3C0 false false,
        vr .VRED 0 0 0 2 false false, vr .VPERM 0 0 0 0 true false, vr .VSEL 0 1 0 0 true false, vr .VCMP 0 7 0 5 true false],
      busy.issues 135 3 w) := by
  unfold State.issues State.tries State.clocked; and_intros <;> decide +kernel

def mx (slm : BitVec 4) (fmt : BitVec 4) (mcnt : BitVec 7) (ofmt : BitVec 4) (mode : BitVec 2) (acc inc : Bool) : MX :=
  ⟨slm, 0, false, if mode = 0 ∧ inc then 3 else 0, fmt, 0, mcnt, 0, ofmt, mode, acc, inc, false⟩
theorem test_meets_MatrixInstructionsQueue :
    (∀ w ∈ [⟨.MLDI, gon, .mx (mx 1 3 0 0 0 false true)⟩, ⟨.MSTW, gon, .mx (mx 15 0 64 0 0 true true)⟩, ⟨.MDRN, gon, .mx (mx 1 0 4 0 0 false true)⟩,
        (⟨.MPART, gon, .mx (mx 1 0 0 0 2 false false)⟩ : RWord), ⟨.MCLR, gon, .mx mclr1⟩], (busy.updTile 135 (fun x => { x with slices := (Tab.empty.put 0 ⟨some 3, 0, false, 0, false⟩) })).issues 135 3 w) := by
  unfold State.issues State.tries State.clocked; decide +kernel

/-- Tile 135 with its first slice held by context 3 and a matrix queue. -/
def queue (q : List MEnt) : State := busy.updTile 135 (fun x => { x with slices := Tab.empty.put 0 ⟨some 3, 0, false, 0, false⟩, mq := q })
def running (occ : Nat) (sat : Bool) : MRun := ⟨0, 9, 0, [], 0, 0, [], sat, some occ⟩
def mpart (acc : Bool) : MX := mx 1 0 0 0 0 acc false

theorem test_meets_MatrixQueueEvents : busy.clocked 135 ∧ (busy.tile 135).startable .loader = none ∧ (queue []).Inv ∧
    (((queue [ment 1 .MDRN (mx 2 0 4 0 0 false true) none]).tile 135).startable .drainer = some ([], ment 1 .MDRN (mx 2 0 4 0 0 false true) none, []) ∧
      ((queue []).tile 135).startFault (ment 1 .MDRN (mx 2 0 4 0 0 false true) none) = some 0x0A ∧ (ment 1 .MDRN (mx 2 0 4 0 0 false true) none).ctx < 4 ∧
      ((queue [ment 1 .MDRN (mx 2 0 4 0 0 false true) none]).ctxOf 135 3).live = true) ∧
    (∀ e ∈ [ment 1 .MPART (mpart false) none, ment 1 .MPART (mpart true) none, ment 1 .MCLR mclr1 none, ment 1 .MLDI (mx 1 3 0 0 0 false true) none],
      ((queue [e]).tile 135).startable e.mn.engine = some ([], e, []) ∧ ((queue [e]).tile 135).startFault e = none ∧ (queue [e]).clocked 135) ∧
    (∀ sat ∈ [false, true], takeFirst (fun (e : MEnt) => decide (e.mn.engine = .drainer) && e.run.isSome)
        ((queue [ment 1 .MDRN (mx 1 0 4 0 0 false true) (some (running 2 sat))]).tile 135).mq =
      some (ment 1 .MDRN (mx 1 0 4 0 0 false true) (some (running 2 sat)), []) ∧
      ((ment 1 .MDRN (mx 1 0 4 0 0 false true) (some (running 2 sat))).latPoint).isSome = true) := by
  unfold State.clocked State.Inv; and_intros <;> decide +kernel

/-! #### Slices, lines, streams -/

def released (rel : Nat) : State := (queue []).updTile 135 (fun x =>
  { x with slices := Tab.empty.put 3 ⟨some 3, 0, true, rel, true⟩, sets := Tab.empty.put 7 ⟨some 0, 1, 1, .empty⟩, banks := Tab.empty.put 15 ⟨true, .empty⟩ })
def page (x : Bool) : Tlb := ⟨0, 0x10000, 0x100010000, 65536, true, true, x⟩
/-- Context 3 misses the line 0x1FF00; its page is known; region 63 seals it. -/
def missing (x : Bool) (sealed : Bool) : State :=
  let s := (upCtx 135 3 (fun c => { c with miss := some 0x1FF00 })).updTile 135 (fun t => { t with tlb := [page x] })
  let s := (s.setFld .FAB_SEALr_BASE [63] 27 0 0x10001).setFld .FAB_SEALr_SIZE [63] 27 0 1
  if sealed then s.setReg .FAB_SEALr_CTRL [63] 3 else s

theorem test_meets_SlicesAndInstructionLines : busy.clocked 135 ∧ ((busy.tile 135).slice 3).releasing = false ∧
    ((released 7).clocked 135 ∧ ((released 7).tile 135).clk < (((released 7).tile 135).slice 3).rel + 4) ∧
    ((released 6).clocked 135 ∧ (((released 6).tile 135).slice 3).releasing = true ∧ (((released 6).tile 135).slice 3).rel + 4 ≤ ((released 6).tile 135).clk ∧
      ((released 6).tile 135).mq = [] ∧ ((released 6).tile 135).sets.wf = true ∧ ((released 6).tile 135).banks.wf = true) ∧
    (busy.ctxOf 135 3).miss = none ∧ ((upCtx 135 3 (fun c => { c with miss := some 0x1FF00 })).ctxOf 135 3).miss = some 0x1FF00 ∧
    lookupTlb ((upCtx 135 3 (fun c => { c with miss := some 0x1FF00 })).tile 135).tlb 0 0x1FF00 = none ∧
    (∀ x ∈ [false, true], ∀ q ∈ [false, true], (missing x q).clocked 135 ∧ ((missing x q).ctxOf 135 3).miss = some 0x1FF00 ∧
      0 = (missing x q).fld .TILE_CTXk_CFG (tix 135 ++ [3]) 13 8 ∧ ((missing x q).tile 135).iline 0 0x1FF00 = none ∧
      lookupTlb ((missing x q).tile 135).tlb 0 0x1FF00 = some (page x) ∧ (page x).x = x ∧ ((missing x q).sealedAt ((page x).map 0x1FF00)).isSome = q) ∧
    (∀ i, i < 256 → (missing true true).inTags ((page true).map 0x1FF00 + i) = false) := by
  unfold State.clocked; and_intros <;> decide +kernel

def seg (sp a n : Nat) : Seg := ⟨sp, a, n⟩
def planned (write : Bool) (a : Nat) : State :=
  busy.updTile 135 (fun x => { x with reqs := [{ reqAt 1 0xFFF00 with d := { idxDesc with ctl := if write then 0x805 else 0x801 }, plan := [[seg 0xFFF00 a 256]] }] })
/-- The bucket of tile 135's logical tile empty and in use. -/
def starved : State := (((planned false 0x100000000).setReg .FAB_CSELc [3] 0xFFFFFFFF).setReg .FAB_TLVLg [127] 0).setFld .CLU_REMAPl [3, 31] 5 0 33
def fetch (write fail : Bool) (g : Seg) : Fetch := ⟨1, 3, write, .data, [g], if write then List.replicate 256 0xA5 else [], false, fail⟩

theorem test_meets_StreamFetchSends : busy.clocked 135 ∧ (busy.tile 135).nextRequester (busy.tile 135).rrq = none ∧
    256 ≤ ((busy.updTile 135 (fun x => { x with fetches := List.replicate 256 (fetch false false (seg 0 0 1)) })).tile 135).fetches.length ∧
    ((State.reset.tile 135).ready = false) ∧
    (∀ s ∈ [planned false 0x100000000, planned true 0x13FFFFF00, starved], s.clocked 135 ∧ (s.tile 135).ready = true ∧ (s.tile 135).fetches.length < 256 ∧
      (s.tile 135).nextRequester (s.tile 135).rrq = some 3 ∧ ((s.tile 135).headReq 3).isSome = true ∧
      (((s.tile 135).headReq 3).map (fun r => r.plan.length)) = some 1) ∧
    (starved.regulate 135 0x100000000 256 = none) ∧ ((planned false 0x100000000).regulate 135 0x100000000 256).isSome = true ∧
    ((planned true 0x13FFFFF00).regulate 135 0x13FFFFF00 256).isSome = true := by
  unfold State.clocked; and_intros <;> decide +kernel

/-- A fetch in flight for the last row, its request issued at `iss`; its tile at clock 30. -/
def inFlight (write fail : Bool) (iss : Nat) : State :=
  busy.updTile 135 (fun x => { x with clk := 30, unlanded := [4095], poison := [4095], fetches := [fetch write fail (seg 0xFFF00 0x13FFFFF00 256)],
                                      reqs := [{ reqAt 1 0xFFF00 with iss := iss, queued := false, next := 256 }] })
def discarded (clk : Nat) : State := busy.updTile 135 (fun x => { x with disc := [⟨4095, clk, 1⟩], unlanded := [4095] })

theorem test_meets_StreamRowsLand :
    (∀ fail ∈ [false, true], ∀ iss ∈ [14, 15], (inFlight false fail iss).clocked 135 ∧ (inFlight false fail iss).Inv ∧
      takeNth (fun (f : Fetch) => !f.write && !f.isScale) 0 ((inFlight false fail iss).tile 135).fetches = some (fetch false fail (seg 0xFFF00 0x13FFFFF00 256), []) ∧
      ((inFlight false fail iss).tile 135).reqOf 1 = some { reqAt 1 0xFFF00 with iss := iss, queued := false, next := 256 } ∧ ((inFlight false fail iss).tile 135).clk = 14 + 16 ∧
      ((inFlight false fail iss).ctxOf 135 3).live = true ∧ (inFlight false fail iss).poisoned 0x13FFFFF00 256 = false ∧ (inFlight false fail iss).blockedRegions = []) ∧
    ((reqAt 1 0xFFF00).d.local = false ∧ 0 < (seg 0xFFF00 0x13FFFFF00 256).len ∧ (reqAt 1 0xFFF00).disc = [] ∧ (seg 0xFFF00 0x13FFFFF00 256).sp % 256 = 0 ∧
      (seg 0xFFF00 0x13FFFFF00 256).sp < 0x100000 ∧ (reqAt 1 0xFFF00).landed.get 0 (0xFFF00 / 256) = 0 ∧ (reqAt 1 0xFFF00).rowBytes (0xFFF00 / 256) = 256 ∧
      (reqAt 1 0xFFF00).badRows = []) ∧
    (takeNth (fun (f : Fetch) => f.write) 0 ((inFlight true false 14).tile 135).fetches = some (fetch true false (seg 0xFFF00 0x13FFFFF00 256), []) ∧
      (inFlight true false 14).region 0x13FFFFF00 ≠ .spad 135 ∧ (inFlight true false 14).blockedRegions = []) ∧
    ((∀ d ∈ ((discarded 11).tile 135).disc, ((discarded 11).tile 135).clk < d.clk) ∧
      takeFirst (fun (d : DiscRow) => decide (d.clk ≤ ((discarded 10).tile 135).clk)) ((discarded 10).tile 135).disc = some (⟨4095, 10, 1⟩, []) ∧ (discarded 10).Inv ∧
      (discarded 10).clocked 135) := by
  unfold State.clocked State.Inv; and_intros <;> decide +kernel

/-- Tile 0 sends its last row to tile 33 of its cluster, whose job is 9. -/
def sendJob (iss left : Nat) : SendJob := ⟨3, 9, 0xFFF00, 33, 0xFFF00, left, 16383, iss⟩
def sending (iss left : Nat) (ready : Bool) : State :=
  let s := (((State.reset.setFlag .TILE_CTRL (tix 0) 0 true).updTile 0 (fun x => { x with ready := true, clk := 10, sends := [sendJob iss left], poison := [4095] })).updTile 33
    (fun x => { x with ready := ready, unlanded := [4095] }))
  (s.setReg .TILE_JOB (tix 33) 0x109).setReg .RNT_VALk [16383] 0xFFFFFFFF

theorem test_meets_SendRowsAndRegulators :
    (∀ iss ∈ [9, 10], ∀ left ∈ [1, 2], ∀ ready ∈ [false, true], (sending iss left ready).clocked 0 ∧ (sending iss left ready).Inv ∧
      ((sending iss left ready).tile 0).sends = [sendJob iss left] ∧ (sending iss left ready).spareHolds 33 = false ∧ ((sending iss left ready).tile 0).clk = 10 ∧
      ((sending iss left ready).tile 33).ready = ready ∧ (sending iss left ready).jobOf 33 = some 9 ∧ ((sending iss left ready).tile 33).killed = false ∧
      (sendJob iss left).cnt < 16384) ∧
    (sending 9 1 true).hoopsSound ∧ State.reset.up = true ∧ State.reset.Inv := by
  unfold State.clocked State.Inv State.hoopsSound; and_intros <;> decide +kernel

def goData (first count : Nat) : Word := BitVec.ofNat 32 (first + count * 1024 + 63 * 2 ^ 21)
def loading (fail : Bool) : State :=
  (busy.setFlag .TILE_SFLD_CTL (tix 135) 30 true).updTile 135 (fun x =>
    { x with load := some ⟨0, 0x10000, 1023, 1, 1, 0, []⟩, fetches := [⟨0, 4, false, .scale 0, [seg 0 0x100010000 8], [], false, fail⟩] })
def counted : State := busy.updTile 135 (fun x => { x with stat := Tab.empty.put 1023 ⟨2 ^ 33 + 5, 2 ^ 32 + 7, true⟩ })

theorem test_meets_ScaleLoadsAndStatistics : busy.Inv ∧ (loading false).Inv ∧
    busy.takes isl .TILE_SFLD_CTL (tix 135) (putBits (goData 0 0).toNat 31 31 1) ∧
    busy.takes isl .TILE_SFLD_CTL (tix 135) (putBits (goData 1 1024).toNat 31 31 1) ∧ busy.takes isl .TILE_SFLD_CTL (tix 135) (putBits (goData 1023 1).toNat 31 31 1) ∧
    (loading false).takes isl .TILE_SFLD_CTL (tix 135) (putBits (goData 1023 1).toNat 31 31 1) ∧ (loading false).flag .TILE_SFLD_CTL (tix 135) 30 = true ∧
    busy.flag .TILE_SFLD_CTL (tix 135) 30 = false ∧ bits (goData 0 0).toNat 20 10 = 0 ∧ 1024 < bits (goData 1 1024).toNat 9 0 + bits (goData 1 1024).toNat 20 10 ∧
    bits (goData 1023 1).toNat 20 10 ≠ 0 ∧ bits (goData 1023 1).toNat 9 0 + bits (goData 1023 1).toNat 20 10 ≤ 1024 ∧
    (∀ fail ∈ [false, true], (loading fail).clocked 135 ∧ ((loading fail).tile 135).load = some ⟨0, 0x10000, 1023, 1, 1, 0, []⟩ ∧
      ((loading fail).tile 135).fetches = [⟨0, 4, false, .scale 0, [seg 0 0x100010000 8], [], false, fail⟩] ∧ (loading fail).blockedRegions = [] ∧
      (loading fail).poisoned 0x100010000 8 = false) ∧
    counted.takes isl .TILE_STATCTL (tix 135) 1 ∧ (counted.tile 135).stat.wf = true ∧ (counted.tile 135).stat.find 1023 = some ⟨2 ^ 33 + 5, 2 ^ 32 + 7, true⟩ ∧
    (∀ e ∈ (counted.tile 135).stat.entries, e.1 < 1024) ∧ counted.takes isl .TILE_STATCTL (tix 135) 2 := by
  unfold State.clocked State.Inv State.takes; and_intros <;> decide +kernel

/-! #### Counters, windows, hoops, barriers, kills -/

/-- Context 3 of tile 135 parked on counter 16383 with a threshold; operations on the counter in flight. -/
def ops (th : BitVec 25) (ms : List CtrMsg) : State :=
  { (upCtx 135 3 (fun c => { c with st := .park, held := some [⟨.RNWAIT, gon, .tr ⟨true, 16383, 0, false, 0, th⟩⟩] })).setReg .RNT_VALk [16383] 0xFFFFFFFE with
    fab := { Fab.zero with ops := ms, olds := [⟨135, 3, 31, 0xFFFFFFFF⟩] } }
def addOp (v : Nat) (back : Option (Nat × Nat × Nat)) : CtrMsg := ⟨16383, .add v, 135, some (135, 2), back⟩

theorem test_meets_CountersCountAndWake : (ops 1 []).up = true ∧ (ops 1 []).Inv ∧ (ops 1 []).hoopsSound ∧ (takeOps 16383 1 (ops 1 []).fab.ops).1 = [] ∧
    takeOps 16383 1 (ops 1 [addOp 3 (some (135, 2, 4))]).fab.ops = ([addOp 3 (some (135, 2, 4))], []) ∧
    takeOps 16383 2 (ops 2 [addOp 1 none, addOp 2 none, addOp 4 none]).fab.ops = ([addOp 1 none, addOp 2 none], [addOp 4 none]) ∧
    (14336 ≤ 16383 ∨ State.reset.clusterRuns (16383 / 3584) = true) ∧ (14336 ≤ 0 ∨ State.reset.clusterRuns (0 / 3584) = true) ∧
    ((ops 1 []).ctxOf 135 3).st = .park ∧ ((ops 1 []).ctxOf 135 3).rnWait [⟨.RNWAIT, gon, .tr ⟨true, 16383, 0, false, 0, 1⟩⟩] = some (16383, 1) ∧
    takeFirst (fun (o : OldVal) => o.tile == 135 && o.ctx == 3) (ops 1 []).fab.olds = some (⟨135, 3, 31, 0xFFFFFFFF⟩, []) ∧
    (ops 1 []).takes isl .RNT_VALk [16383] 0xFFFFFFFF ∧ (ops 1 []).takes isl .RNT_ADDk [16383] 0xFFFFFFFF := by
  unfold State.Inv State.takes State.hoopsSound; and_intros <;> decide +kernel

/-- Window 255 of peer 254 onto `base` with LIMIT 4,095 bytes on; counter 16383. -/
def win (base cfg : Nat) : State :=
  ((((State.reset.setReg64 .FAB_WINw_BASE_LO .FAB_WINw_BASE_HI [255] base).setReg64 .FAB_WINw_LIMIT_LO .FAB_WINw_LIMIT_HI [255] (base + 0xFFFF)).setReg
    .FAB_WINw_CFG [255] (254 * 65536 + cfg + 16383)).setReg .FAB_WINw_CTRL [255] 1)
def winSpad : State := ((win (spadBase 135) 0xC000).setFlag .TILE_CTRL (tix 135) 0 true).updTile 135 (fun x => { x with ready := true, unlanded := [255] })

theorem test_meets_WindowMessages : (∀ s ∈ [win 0x13FFF0000 0xC000, win 0x13FFF0000 0x8000, winSpad], s.up = true ∧ s.Inv ∧ s.hoopsSound ∧
      254 = s.fld .FAB_WINw_CFG [255] 23 16 ∧ s.flag .FAB_WINw_CTRL [255] 0 = true ∧ s.fab.winHeld.contains 255 = false ∧ s.winSound 255 = true ∧
      s.reg64 .FAB_WINw_LIMIT_LO .FAB_WINw_LIMIT_HI [255] = s.reg64 .FAB_WINw_BASE_LO .FAB_WINw_BASE_HI [255] + 0xFFFF) ∧
    (253 ≠ (win 0x13FFF0000 0xC000).fld .FAB_WINw_CFG [255] 23 16 ∧ State.reset.flag .FAB_WINw_CTRL [255] 0 = false) ∧
    0x13FFFFFFF < 0x13FFF0000 + 0x10000 ∧ 0x13FFFFFFF + 1 < 0x13FFF0000 + 0xFFFF + [1, 2].length ∧ (win 0x13FFF0000 0x8000).flag .FAB_WINw_CFG [255] 14 = false ∧
    (0x13FFF0000 + 0xFFFF ≤ 0x13FFFFFFF ∧ 0x13FFF0000 + 0xFFFF + 1 ≤ 0x13FFFFFFF + 1 ∧ (win 0x13FFF0000 0xC000).flag .FAB_WINw_CFG [255] 14 = true ∧
      (win 0x13FFF0000 0xC000).flag .FAB_WINw_CFG [255] 15 = true ∧ (win 0x13FFF0000 0xC000).sleeping (0x13FFF0000 + 0xFFFF) = none ∧
      (win 0x13FFF0000 0xC000).region (0x13FFF0000 + 0xFFFF) = .vat 3 ∧ (win 0x13FFF0000 0xC000).blockedRegions = []) ∧
    (winSpad.region (spadBase 135 + 0xFFFF) = .spad 135 ∧ winSpad.sleeping (spadBase 135 + 0xFFFF) = none ∧ winSpad.spareHolds 135 = false ∧ winSpad.apertureOpen 135 = true ∧
      (win (spadBase 135) 0xC000).apertureOpen 135 = false ∧ (win (spadBase 135) 0xC000).winSound 255 = true) := by
  unfold State.Inv State.hoopsSound; and_intros <;> decide +kernel

/-- Hoop record 63 of cluster 3 on counters `f` and `d`. -/
def hoop (f d : Nat) : State := ((State.reset.setReg .CLU_HOOPh_FILL [3, 63] f).setReg .CLU_HOOPh_DRAIN [3, 63] d).setReg .RNT_VALk [f] 7
def latched (armed : Bool) : State :=
  { ((State.reset.setFlag .CLU_HOOPh_CFG [3, 63] 31 armed).setFld .CLU_HOOPh_LOG [3, 63] 30 29 3) with fab := { Fab.zero with hoopLogs := [(3, 63)] } }
/-- Barrier 255 with EXPECT 2, `n` arrived, and an arrival on its way; the member parked. -/
def barrier (n : Nat) : State :=
  let s := ((up 135).setReg .TILE_JOB (tix 135) 0x1FF).updCtx 135 3 (fun c => { c with st := .park, bar := .sent })
  { s.setReg .FAB_BARj [255] (n * 65536 + 2) with fab := { Fab.zero with bars := [⟨255, 135, 3⟩] } }

theorem test_meets_HoopsAndBarriers : State.reset.Inv ∧ State.reset.up = true ∧
    (∀ p ∈ [(10752, 14335), (14335, 10752), (10751, 10752), (10752, 14336)], (hoop p.1 p.2).takes isl .CLU_HOOPh_CFG [3, 63] (putBits 5 31 31 1) ∧
      (hoop p.1 p.2).flag .CLU_HOOPh_CFG [3, 63] 31 = false ∧ p.1 = (hoop p.1 p.2).fld .CLU_HOOPh_FILL [3, 63] 13 0 ∧ p.2 = (hoop p.1 p.2).fld .CLU_HOOPh_DRAIN [3, 63] 13 0) ∧
    (3 * 3584 ≤ 10752 ∧ 14335 < 3 * 3584 + 3584 ∧ ¬ 3 * 3584 ≤ 10751 ∧ ¬ 14336 < 3 * 3584 + 3584) ∧
    (∀ b ∈ [false, true], takeFirst (fun (e : Nat × Nat) => e.1 == 3 && e.2 == 63) (latched b).fab.hoopLogs = some ((3, 63), []) ∧
      (latched b).flag .CLU_HOOPh_CFG [3, 63] 31 = b ∧ (latched b).fld .CLU_HOOPh_LOG [3, 63] 30 29 ≠ 0) ∧
    (∀ n ∈ [0, 1], (barrier n).Inv ∧ takeFirst (fun (m : BarMsg) => m.tile == 135 && m.ctx == 3) (barrier n).fab.bars = some (⟨255, 135, 3⟩, []) ∧
      (barrier n).barArrived 255 = n ∧ (barrier n).barExpect 255 = 2 ∧ (barrier n).barBroken 255 = false ∧ (barrier n).spares = .empty ∧
      (barrier n).jobOf 135 = some 255 ∧ ((barrier n).ctxOf 135 3).bar = .sent) ∧
    (barrier 1).takes isl .FAB_BARj [255] 5 ∧ bits 5 31 16 = 0 ∧ (barrier 1).takes isl .FAB_BARj [255] 0xFFFF0002 ∧ bits 0xFFFF0002 31 16 ≠ 0 ∧
    (barrier 1).barArrived 255 < bits 0xFFFF0002 15 0 := by
  unfold State.Inv State.takes; and_intros <;> decide +kernel

/-- JID 255 on tile 135, with a window, a counter and a context; its kill pending, or running. -/
def victim : State :=
  ((((upCtx 135 3 id).setReg .TILE_JOB (tix 135) 0x1FF).setReg .FAB_WINw_CFG [255] 0xFF000000).setReg .FAB_WINw_CTRL [255] 1).setReg .RNT_CFGk [16383] 0x1FF
def doomed : State := { victim with fab := { Fab.zero with killPend := [255] } }
def dying (dbg : Bool) : State :=
  { ((victim.setFlag .TILE_CTRL (tix 135) 2 dbg).updTile 135 (fun x => { x with killed := true })) with fab := { Fab.zero with kill := some ⟨255, false⟩ } }

theorem test_meets_KillsOfJobs : victim.up = true ∧ victim.Inv ∧ 255 ∉ victim.fab.killPend ∧ victim.fab.kill.map (·.jid) ≠ some 255 ∧ 255 ∈ doomed.fab.killPend ∧
    victim.takes isl .FAB_KILL [] (2 ^ 31 + 255) ∧ victim.fab.killPend = [] ∧ doomed.fab.kill = none ∧ doomed.fab.killPend = [255] ∧
    (∀ t ∈ doomed.tilesOf 255, doomed.clusterRuns (clusterOf t) = true) ∧ doomed.jobOf 135 = some 255 ∧ doomed.fld .FAB_WINw_CFG [255] 31 24 = 255 ∧
    doomed.flag .RNT_CFGk [16383] 8 = true ∧ doomed.fld .RNT_CFGk [16383] 7 0 = 255 ∧ (dying true).fab.kill = some ⟨255, false⟩ ∧
    (∃ t ∈ (dying true).killedTiles, (dying true).dbgHold t = true) ∧ (∀ t ∈ (dying false).killedTiles, (dying false).dbgHold t = false) ∧ (dying false).spares = .empty ∧
    ((dying false).tile 135).killed = true ∧ ((dying false).tile 135).ready = true := by
  unfold State.Inv State.takes; and_intros <;> decide +kernel

/-! #### Attention engines -/

/-- MMU context 0 maps its first 2 MiB onto vat at 0x100200000: tables at 0x100000000 and 0x100010000 (R298). -/
def mapped (s : State) : State :=
  { s.setReg .MMU_ROOTc [0] 0x80008000 with
    mem := (s.mem.wrBytes 0x100000000 (leBytes 8 (0x100010000 + 3))).wrBytes 0x100010000 (leBytes 8 (0x100200000 + 0x1D)) }
def passDesc (ctl : Nat) : List Byte := leBytes 4 ctl ++ [1, 0, 1, 0, 1, 0, 1, 0, 0, 0, 0x80, 0x3F] ++ leBytes 8 0x1000 ++ leBytes 8 0x2000 ++ leBytes 8 0x3000 ++ leBytes 8 0x4000 ++ List.replicate 16 0
def attState (a : Att) : State := (mapped (State.reset.setReg .ATT_CTRL [3] 1)).setAtt 3 a
def aseq (code : Nat) : AttSeq := ⟨code, 256, 1, 0x10000, 0, if code = 0 then 1 else 0, false, false, false⟩
def aTlb (va : Nat) : Tlb := ⟨0, va, 0x100200000 + va, 65536, true, true, true⟩
def aRun (ctl : Nat) (qs : List AttSeq) (tlb : List Tlb) (started : Nat) : AttRun := ⟨passDesc ctl, qs, 1, tlb, 0, 0, .empty, started, 0⟩
def attRunning (r : AttRun) (fences : Nat) : State := (attState ⟨[], fences, some r⟩).setReg .ATT_CNT [3] (16383 * 65536 + 14336)

theorem test_meets_AttentionQueueAndFences : (attState Att.zero).up = true ∧ (attState Att.zero).Inv ∧ (attState Att.zero).hoopsSound ∧
    (∀ n ∈ [3, 4], (attState ⟨List.replicate n 0, 0, none⟩).takes isl .ATT_GO [3] 1 ∧ ((attState ⟨List.replicate n 0, 0, none⟩).attn 3).queue.length = n) ∧
    (attState Att.zero).takes isl .ATT_TFENCE [3] 1 ∧
    (attRunning (aRun 0 [aseq 0] [] 0) 2).takes isl .ATT_CTRL [3] (bitOf (attRunning (aRun 0 [aseq 0] [] 0) 2) .ATT_CTRL [3] 0 0) ∧
    (attState Att.zero).clusterRuns 3 = true ∧ ((attState Att.zero).attn 3).run = none ∧ 0 < ((attState ⟨[], 2, none⟩).attn 3).fences ∧
    ((attRunning (aRun 0 [aseq 0] [] 0) 2).attn 3).run = some (aRun 0 [aseq 0] [] 0) ∧ (aRun 0 [aseq 0] [] 0).seqs.all (·.merged) = false ∧
    (aRun 0 [{ aseq 0 with merged := true }] [] 0).seqs.all (·.merged) = true ∧
    14336 = (attRunning (aRun 0 [aseq 0] [] 0) 2).fld .ATT_CNT [3] 13 0 ∧ 16383 = (attRunning (aRun 0 [aseq 0] [] 0) 2).fld .ATT_CNT [3] 29 16 := by
  unfold State.Inv State.takes State.hoopsSound; and_intros <;> decide +kernel

theorem test_meets_AttentionPassWork : (attState Att.zero).up = true ∧ (attState Att.zero).clusterRuns 3 = true ∧ (attState Att.zero).Inv ∧
    (((attState ⟨[0xFC0], 0, none⟩).attn 3).queue = [0xFC0] ∧ (attState ⟨[0xFC0], 0, none⟩).flag .ATT_CTRL [3] 0 = true ∧ (attState ⟨[0xFC0], 0, none⟩).blockedRegions = []) ∧
    (match (attState ⟨[0xFC0], 0, none⟩).attWalk 3 0xFC0 false with | .ok e => e.r | .error _ => false) = true ∧
    (aRun 0 [aseq 0] [] 0).waiter (512 * 1) = some (0, aseq 0) ∧ (aRun 0 [aseq 0] [] 0).waiter (512 * 3) = none ∧
    lookupTlb (aRun 0 [aseq 0] [] 0).tlb ((attRunning (aRun 0 [aseq 0] [] 0) 0).attMctx 3) (1 * 65536) = none ∧
    (match (attRunning (aRun 0 [aseq 0] [] 0) 0).attWalk 3 (1 * 65536) false with | .ok _ => true | .error _ => false) = true ∧
    (match ((attRunning (aRun 0 [{ aseq 0 with wheel := 0x200000 }] [] 0) 0)).attWalk 3 (32 * 65536) false with | .ok _ => false | .error _ => true) = true ∧
    (aRun 0 [{ aseq 0 with wheel := 0x200000 }] [] 0).waiter (32 * 512) = some (0, { aseq 0 with wheel := 0x200000 }) ∧
    lookupTlb (aRun 0 [aseq 0] [aTlb 0x10000] 0).tlb 0 (512 * 128) = some (aTlb 0x10000) ∧
    ((aRun 1 [aseq 0] [] 0).bucket = true ∧ 0 < (aRun 1 [aseq 0] [] 0).items ∧ (aRun 1 [aseq 0] [] 0).started = 0) ∧
    ((aseq 0).reads = true ∧ (aRun 1 [aseq 0] [] 1).itemDone 0 (aseq 0) (1 - 1 - (aseq 0).item0) = false ∧ (aRun 0 [aseq 0] [] 0).bucket = false) ∧
    (∀ code ∈ [1, 2, 5, 6, 7], (aRun 0 [aseq code] [aTlb 0] 0).seqDone 0 (aseq code) = true ∧ (aseq code).merged = false) ∧
    ((aRun 0 [aseq 0] [] 0).seqDone 0 (aseq 0) = false) ∧
    (lookupTlb (aRun 0 [aseq 7] [aTlb 0] 0).tlb 0 ((aRun 0 [aseq 7] [aTlb 0] 0).sbase + 4 * 0) = some (aTlb 0) ∧ (aRun 0 [aseq 7] [aTlb 0] 0).sbase % 65536 + 4 ≤ 65536) := by
  unfold State.Inv; and_intros <;> decide +kernel

/-! #### Camera, image pipeline and codecs -/

def frm (row : Nat) (ended : Bool) : CamFrame :=
  ⟨4, 0, 5, 9, 0, 3, row, 0, 8, 2, .zero, [row, 0, 0, 0], .empty, row, 0, 1, .empty, 0, row, false, ended, none, 1, 0, [], .empty, .empty⟩
def ipkt (kind : CsiKind) (data : List Nat) (bytes : Nat) : IngPkt := ⟨31, kind, data, bytes, true, 7, 0x20, 12, 0⟩
/-- Context 31 takes virtual channel 2 of port 7, 8 by 2 pixels; its window 3 is phase 0x10 to 0x8000; ring and records stand in vat. -/
def camera (fs : List CamFrame) (buf : List IngPkt) (claimed held : List Nat) : State :=
  let s := ((State.reset.setReg .ING_CTXn_SRC [31] 0x2F).setReg .ING_PORTp_CFG [7] 1).setReg .ING_CTXn_GEOM [31] 0x20008
  let s := (s.setReg .ING_CTXn_WINk [31, 3] 0x80000010).setReg .ING_CTXn_DT [31] 0x2A
  let s := ((s.setReg .ING_CTXn_RBASE_HI [31] 1).setReg .ING_CTXn_REC_HI [31] 1).setReg .ING_CTXn_REC_LO [31] 0x8000
  let s := ((s.setReg .ING_CTXn_EMBj [31, 15] 0x15).setReg .ISP_CTXn_STAT_CFG [31] 1).setReg .ISP_CTXn_STAT_BASE [31] 0x100010
  { s with vis := { s.vis with ports := Tab.empty.put 7 ⟨buf, false, true, true⟩, ingHeld := held,
                               ctxs := Tab.empty.put 31 { CamCtx.zero with frames := fs, nextUid := 5, claimed := claimed } } }
def cpkt (kind : CsiKind) : CsiPkt := ⟨2, kind, .good, true, []⟩

theorem test_meets_CameraPacketsAndFrames : (camera [] [] [] []).up = true ∧ (camera [] [] [] []).Inv ∧
    (State.reset.flag .ING_PORTp_CFG [7] 0 = false) ∧ ((State.reset.updPort 7 (fun x => { x with lost := true })).port 7).lost = true ∧
    ((camera [] [] [] []).flag .ING_PORTp_CFG [7] 0 = true ∧ ((camera [] [] [] []).port 7).lost = false) ∧
    ((cpkt .frameStart).vc.toNat ≤ 3 ∧ (camera [] [] [] []).routed 7 (cpkt .frameStart).vc.toNat = some 31 ∧ (camera [] [] [] []).routed 7 3 = none) ∧
    (((camera [] [ipkt .frameEnd [] 131072] [] []).port 7).buf.map (·.bytes)).sum ≤ 131072 ∧
    ((camera [] [ipkt .frameStart [] 0] [] []).port 7).buf = ipkt .frameStart [] 0 :: [] ∧
    ((camera [] [ipkt .frameEnd [] 0] [] []).port 7).buf = ipkt .frameEnd [] 0 :: [] ∧
    ((camera [] [ipkt .frameStart [] 0] [] []).ingEn 31 = true ∧ (camera [] [ipkt .frameStart [] 0] [] []).vis.ingHeld.contains 31 = false ∧
      ((camera [] [ipkt .frameStart [] 0] [] []).cam 31).openFrame = none) ∧
    (∀ w, w < 4 → (camera [] [] [3] []).inWindow 31 w 0x20 = false ∨ ((camera [] [] [3] []).cam 31).claimed.contains w = true) ∧
    ((camera [] [] [] []).inWindow 31 3 0x20 = true ∧ ((camera [] [] [] []).cam 31).claimed.contains 3 = false ∧
      ∀ v, v < 3 → (camera [] [] [] []).inWindow 31 v 0x20 = false ∨ ((camera [] [] [] []).cam 31).claimed.contains v = true) ∧
    (((camera [frm 1 false] [] [] []).cam 31).frames = [frm 1 false] ∧ (frm 1 false).ended = false ∧ (camera [] [] [] []).flag .ING_CTXn_CTRL [31] 0 = false) ∧
    ((camera [] [] [] [31]).vis.ingHeld.contains 31 = true ∧ ((camera [] [] [] [31]).cam 31).openFrame = none) ∧
    ((frm 1 false).row < (frm 1 false).height ∧ (frm 2 false).height ≤ (frm 2 false).row) ∧
    ((camera [] [] [] []).fld .ING_CTXn_CTRL [31] 15 4 = 0 ∧ ((camera [] [] [] []).setReg .ING_CTXn_CTRL [31] 0x10).fld .ING_CTXn_CTRL [31] 15 4 ≠ 0) ∧
    ((camera [] [] [] []).takes isl .ING_CTXn_SRC [31] (bitOf (camera [] [] [] []) .ING_CTXn_SRC [31] 0 0) ∧ (camera [] [] [] []).ingEn 31 = true) ∧
    (State.reset.takes isl .ING_CTXn_SRC [31] (bitOf State.reset .ING_CTXn_SRC [31] 0 1) ∧ State.reset.ingEn 31 = false) := by
  unfold State.Inv State.takes; and_intros <;> decide +kernel

theorem test_meets_CameraLinesAndRecords : (camera [] [] [] []).up = true ∧ (camera [] [] [] []).Inv ∧ (camera [] [] [] []).blockedRegions = [] ∧
    ((camera [frm 1 false] [ipkt (.long 0x12) [0, 0xAB] 2] [] []).port 7).buf = ipkt (.long 0x12) [0, 0xAB] 2 :: [] ∧
    (ipkt .frameEnd [] 0).kind = .frameEnd ∧ (((camera [frm 1 false] [] [] []).cam 31).frames = [frm 1 false] ∧ (frm 1 false).ended = false) ∧
    ((camera [] [] [] []).flag .ING_CTXn_EMBj [31, 15] 2 = true ∧ (camera [] [] [] []).fld .ING_CTXn_EMBj [31, 15] 1 0 = (frm 1 false).embLines ∧
      (camera [] [] [] []).flag .ING_CTXn_EMBj [31, 15] 3 = false ∧ (ipkt (.long 0x12) [0, 0xAB] 2).data[(camera [] [] [] []).fld .ING_CTXn_EMBj [31, 15] 15 4]? = some 0xAB) ∧
    (camera [] [] [] []).flag .ING_CTXn_EMBj [31, 0] 2 = false ∧
    ((camera [] [] [] []).exposureOf 31 0x2A = some 0 ∧ (camera [] [] [] []).ingExps 31 = 1 ∧ (frm 1 false).overrun = false ∧ (frm 1 false).row < (frm 1 false).height ∧
      (frm 1 false).cnt = [(frm 1 false).row, 0, 0, 0] ∧ (frm 1 false).part = .empty) ∧
    (∀ t, t < 4 → (camera [] [] [] []).flag .ISP_CTXn_TAPt_CFG [31, t] 0 = false) ∧
    ((((camera [] [] [] []).cam 31).slotBusy ((camera [] [] [] []).ringSlots 31) 1 = false) ∧ (((camera [frm 1 false] [] [] []).cam 31).slotBusy ((camera [] [] [] []).ringSlots 31)
      (((frm 1 false).s0 + (frm 1 false).row) % (camera [] [] [] []).ringSlots 31) = false)) ∧
    ((camera [] [] [] []).region ((camera [] [] [] []).reg64 .ING_CTXn_RBASE_LO .ING_CTXn_RBASE_HI [31] + 1 * (camera [] [] [] []).ringPitch 31)).isVatOrLpx = true ∧
    (State.reset.ingEn 31 = false ∧ (camera [] [] [] []).fld .ING_CTXn_WINk [31, 0] 15 0 = (camera [] [] [] []).fld .ING_CTXn_WINk [31, 0] 31 16) ∧
    ((camera [] [] [] []).ingEn 31 = true ∧ (camera [] [] [] []).fld .ING_CTXn_WINk [31, 3] 15 0 ≠ (camera [] [] [] []).fld .ING_CTXn_WINk [31, 3] 31 16 ∧
      ((camera [] [] [3] []).cam 31).claimed.contains 3 = true ∧ ((camera [] [] [] []).cam 31).claimed.contains 3 = false ∧
      ((camera [] [] [] []).region ((camera [] [] [] []).reg64 .ING_CTXn_REC_LO .ING_CTXn_REC_HI [31] + 0 % 256 * 128)).isVatOrLpx = true) := by
  unfold State.Inv; and_intros <;> decide +kernel

/-- A pipe that holds strip `k` of the frame of context 31. -/
def inPipe (f : CamFrame) (k : Nat) : State :=
  let s := camera [f] [] [] []
  { s with vis := { s.vis with pipes := Tab.empty.put 3 ⟨31, 4, k⟩ } }
def stored (ended : Bool) : CamFrame := { frm 2 ended with taken := 0, stored := 2, fillRows := 0 }
def pubState : State := (camera [] [] [] []).updCam 31 (fun c => { c with pub := some ⟨none, 2 ^ 32 - 1, 65535, 3⟩ })
def sensor (epoch : Bool) : State := { gateUp with vis := { gateUp.vis with i3c := Tab.empty.put 3 [⟨31 * 65536, 0, 5, 0, epoch⟩] } }

theorem test_meets_StripsStatisticsAndSensors : (inPipe (frm 2 true) 0).up = true ∧ (inPipe (frm 2 true) 0).Inv ∧ (inPipe (frm 2 true) 0).vis.pipes.wf = true ∧
    ((inPipe (frm 2 true) 0).vis.pipes.find 3).isSome = true ∧ (∀ m, m < 32 → State.reset.readyStrip m = none) ∧
    ((camera [stored true] [] [] []).vis.pipes.find 3 = none ∧ (camera [stored true] [] [] []).readyStrip 31 = some (4, 0) ∧
      ∀ x, x < 32 → x ≠ 31 → (camera [stored true] [] [] []).readyStrip x = none) ∧
    (inPipe (frm 2 true) 0).vis.pipes.find 3 = some ⟨31, 4, 0⟩ ∧
    (((inPipe (frm 2 true) 0).cam 31).frames.find? (fun g => g.uid == 4) = some (frm 2 true) ∧ 0 + 1 = (frm 2 true).strips ∧ (frm 2 true).ended = true) ∧
    (((inPipe (frm 2 false) 0).cam 31).frames.find? (fun g => g.uid == 4) = some (frm 2 false) ∧ (frm 2 false).ended = false) ∧
    (((inPipe { frm 2 false with height := 65 } 0).cam 31).frames.find? (fun g => g.uid == 4) = some { frm 2 false with height := 65 } ∧ 0 + 1 ≠ { frm 2 false with height := 65 }.strips) ∧
    ((camera [] [] [] []).cam 31).pub = none ∧ (pubState.cam 31).pub = some ⟨none, 2 ^ 32 - 1, 65535, 3⟩ ∧
    (pubState.fld .ISP_CTXn_STAT_CFG [31] 7 0 = 1 ∧ (pubState.region (pubState.reg .ISP_CTXn_STAT_BASE [31] * 4096)).isVatOrLpx = true ∧ pubState.blockedRegions = []) ∧
    (State.reset.i3cQueue 3 = [] ∧ State.reset.flag .SEC_GATE [] 0 = false) ∧
    ((sensor true).i3cQueue 3 = ⟨31 * 65536, 0, 5, 0, true⟩ :: [] ∧ (sensor false).i3cQueue 3 = ⟨31 * 65536, 0, 5, 0, false⟩ :: [] ∧
      (sensor true).flag .SEC_GATE [] 0 = true) ∧
    (gateUp.takes isl .PAD_I3Cc_DCMD [3] (putBits 0x400008 31 31 0) ∧ gateUp.flag .PAD_I3Cc_CTRL [3] 0 = true ∧
      (0x400008 : Nat).testBit 3 = true ∧ 4 ≤ bits 0x400008 22 20) := by
  unfold State.Inv State.takes; and_intros <;> decide +kernel

def codState (c : CodCore) : State := { (mapped (State.reset.setReg .COD_COREk_CTRL [2] 1)) with cod := ⟨Tab.empty.put 2 c, [], 0⟩ }
/-- A job whose status record stands at 0x2000, with counter 0. -/
def codJob (code : Nat) (waiting : Bool) (walks : List Nat) : CodJob := ⟨(List.replicate 64 0).set 57 0x20, code, 0, waiting, walks, false⟩
def codRun (j : CodJob) : State := codState ⟨[], some j, [aTlb 0]⟩

theorem test_meets_CodecJobs : (codState .zero).up = true ∧ (codState .zero).Inv ∧ (codState .zero).hoopsSound ∧
    ((codState ⟨List.replicate 7 0, none, []⟩).takes isl .COD_COREk_GO [2] 1 ∧ ((codState ⟨List.replicate 7 0, none, []⟩).codec 2).queue.length < 8) ∧
    ((codState ⟨List.replicate 8 0, none, []⟩).takes isl .COD_COREk_GO [2] 1 ∧ 8 ≤ ((codState ⟨List.replicate 8 0, none, []⟩).codec 2).queue.length) ∧
    ((codRun (codJob 1 false [])).takes isl .COD_COREk_CTRL [2] (bitOf (codRun (codJob 1 false [])) .COD_COREk_CTRL [2] 0 0) ∧
      ((codRun (codJob 1 false [])).codec 2).run.isSome = true ∧ ((codState ⟨[0], none, []⟩).codec 2).queue ≠ []) ∧
    (((codState .zero).codec 2).run = none ∧ ((codState .zero).codec 2).queue = [] ∧ State.reset.flag .COD_COREk_CTRL [2] 0 = false) ∧
    (((codState ⟨[2 ^ 48], none, []⟩).codec 2).queue = 2 ^ 48 :: [] ∧ (codState ⟨[2 ^ 48], none, []⟩).flag .COD_COREk_CTRL [2] 0 = true) ∧
    (((codState ⟨[0xFFC0], none, [aTlb 0]⟩).codec 2).queue = 0xFFC0 :: [] ∧ 0xFFC0 % 65536 + 64 ≤ 65536 ∧
      lookupTlb ((codState ⟨[0xFFC0], none, [aTlb 0]⟩).codec 2).tlb ((codState ⟨[0xFFC0], none, [aTlb 0]⟩).codMctx 2) 0xFFC0 = some (aTlb 0) ∧ (aTlb 0).r = true ∧
      (codState .zero).blockedRegions = [] ∧ (codState .zero).poison = []) ∧
    (((codRun (codJob 0 true [])).codec 2).run = some (codJob 0 true []) ∧ (codRun (codJob 0 true [])).codConflict 2 (codJob 0 true []) = false) ∧
    ((codRun (codJob 0 false [])).codec 2).run = some (codJob 0 false []) ∧ (codJob 0 false [1]).walks ≠ [] ∧
    ((codJob 1 false []).waiting = false ∧ (codJob 1 false []).walks = [] ∧ (codJob 1 false []).stat < 2 ^ 48 ∧ (codJob 1 false []).stat % 65536 + 16 ≤ 65536 ∧
      lookupTlb ((codRun (codJob 1 false [])).codec 2).tlb ((codRun (codJob 1 false [])).codMctx 2) (codJob 1 false []).stat = some (aTlb 0) ∧ (aTlb 0).w = true ∧
      (codJob 1 false []).cnt ≤ 16383) := by
  unfold State.Inv State.takes State.hoopsSound; and_intros <;> decide +kernel

/-! #### Memory -/

/-- Region 63: `size` pages of vat of cluster 0 at 0x100010000, with tags behind them. -/
def sealer (size ctrl : Nat) (st : SealSt) (q : List BrineReq) : State :=
  let s := ((State.reset.setReg .FAB_SEALr_BASE [63] 0x10001).setReg .FAB_SEALr_SIZE [63] size).setReg .FAB_SEALr_CTRL [63] ctrl
  { s with fab := { Fab.zero with seals := Tab.empty.put 63 st, brine := q } }
def toBrine (page : Nat) (q : List BrineReq) : State := (sealer 1 0 ⟨0, false, false⟩ q).setReg .FAB_BRN_ADDR [] page
def sealedNear : State := (sealer 1 3 ⟨0, false, false⟩ []).setReg .FAB_BRN_ADDR [] 0x10000

theorem test_meets_SealedRegionsAndBrine : (sealer 1 0 ⟨0, false, false⟩ []).up = true ∧ (sealer 1 0 ⟨0, false, false⟩ []).Inv ∧ (sealer 1 0 ⟨0, false, false⟩ []).hoopsSound ∧
    ((sealer 1 0 ⟨2 ^ 32 - 1, false, false⟩ []).takes isl .FAB_SEALr_CTRL [63] 1 ∧ (sealer 1 0 ⟨2 ^ 32 - 1, false, false⟩ []).sealBit 63 = false ∧
      ((sealer 1 0 ⟨2 ^ 32 - 1, false, false⟩ []).sealSt 63).unsealing = false ∧ (sealer 1 0 ⟨2 ^ 32 - 1, false, false⟩ []).sealable 63 = true) ∧
    ((sealer 0x1000 0 ⟨0, false, false⟩ []).takes isl .FAB_SEALr_CTRL [63] 1 ∧ (sealer 0x1000 0 ⟨0, false, false⟩ []).sealable 63 = false) ∧
    ((sealer 1 0 ⟨0, false, false⟩ []).sealSt 63).tagging = false ∧
    (((sealer 1 1 ⟨5, true, false⟩ []).sealSt 63).tagging = true ∧ (sealer 1 1 ⟨5, true, false⟩ []).sealRange 63 = (0x100010000, 0x100020000, 0x100022000)) ∧
    ((sealer 1 3 ⟨5, false, false⟩ []).takes isl .FAB_SEALr_CTRL [63] 0 ∧ (sealer 1 3 ⟨5, false, false⟩ []).sealBit 63 = true) ∧
    (((sealer 1 2 ⟨5, false, true⟩ []).sealSt 63).unsealing = true ∧ (sealer 1 2 ⟨5, false, true⟩ []).sealBit 63 = false) ∧
    ((toBrine 0x10FFF (List.replicate 15 ⟨0, 1, 0⟩)).takes isl .FAB_BRN_CTL [] (putBits 0x3FFF 31 31 1) ∧
      0x10FFF = (toBrine 0x10FFF (List.replicate 15 ⟨0, 1, 0⟩)).fld .FAB_BRN_ADDR [] 27 0 ∧ 1 = max 1 (min 4096 (bits 0x3FFF 26 14)) ∧
      (toBrine 0x10FFF (List.replicate 15 ⟨0, 1, 0⟩)).fab.brine.length < 16 ∧ ((toBrine 0 []).region (0x10FFF * 65536)).isVatOrLpx = true ∧
      (toBrine 0 []).oneRegion (0x10FFF * 65536) (1 * 65536) = true ∧ (toBrine 0 []).blockedBy (0x10FFF * 65536) (1 * 65536) = none) ∧
    (16 ≤ (toBrine 0 (List.replicate 16 ⟨0, 1, 0⟩)).fab.brine.length ∧ ((toBrine 0 []).region (0x4000 * 65536)).isVatOrLpx = false ∧
      (toBrine 0 []).oneRegion (0x10FFF * 65536) (2 * 65536) = false ∧ sealedNear.blockedBy (0x10000 * 65536) (2 * 65536) ≠ none) ∧
    ((toBrine 0 [⟨0x10FFF, 1, 16383⟩]).fab.brine = ⟨0x10FFF, 1, 16383⟩ :: [] ∧ (toBrine 0 [⟨0x10FFF, 1, 16383⟩]).blockedBy (0x10FFF * 65536) (1 * 65536) = none) := by
  unfold State.Inv State.takes State.hoopsSound; and_intros <;> decide +kernel

/-- LPDDR5X with training in progress or over, channel 31 enabled, a refresh debt, its controller permitted or not. -/
def dram (gstat : Nat) (debt : Int) (permit : Bool) : State :=
  let s := (((State.reset.setReg .LPX_GSTAT [] gstat).setFlag .LPX_REFk [7] 0 permit).setFlag .LPX_PPRk [7] 31 true).setReg .LPX_CHEN [] 0x80000000
  { s with fab := { Fab.zero with lpxEn := 0x80000000, debt := Tab.empty.put 31 debt } }
def dram0 (inv : Bool) : State := { State.reset.setReg .LPX_GSTAT [] 2 with fab := { Fab.zero with inv := inv } }

theorem test_meets_MemoryUpkeep : (dram 1 0 true).up = true ∧ (dram 1 0 true).Inv ∧
    (∀ g ∈ [0x10101, 2], (dram g 0 true).takes isl .LPX_GCTRL [] (putBits 0x10 0 0 1)) ∧
    ((dram 2 0 true).flag .LPX_GSTAT [] 1 = true ∧ (dram 0x10101 0 true).flag .LPX_GSTAT [] 1 = false) ∧
    ((dram 2 0 true).fab.lpxEn < 2 ^ 32 ∧ (dram 2 0 true).fab.lpxEn ≠ 0 ∧ Nat.land (dram 2 0 true).fab.lpxEn 0x7FFFFFFF = 0) ∧
    (Nat.land (dram 2 0 true).fab.lpxEn 0xFFFFFFFF ≠ 0 ∧ (dram0 false).fab.lpxEn = 0 ∧ (dram 2 0 true).flag .LPX_PPRk [7] 31 = true) ∧
    ((dram 2 0 true).flag .LPX_GSTAT [] 0 = false ∧ (dram 0x10101 0 true).fab.lpxEn.testBit 30 = false) ∧
    ((dram 0x10101 (-8) true).flag .LPX_GSTAT [] 0 = true ∧ (dram 0x10101 (-8) true).fab.lpxEn.testBit 31 = true ∧ (dram 0x10101 (-8) true).flag .LPX_REFk [31 / 4] 0 = true ∧
      (dram 0x10101 (-8) false).flag .LPX_REFk [31 / 4] 0 = false ∧ (dram 0x10101 (-8) false).refDebt 31 - 1 < -8 ∧ ¬ (dram 0x10101 (-7) false).refDebt 31 - 1 < -8) ∧
    (∀ b ∈ [false, true], (dram0 b).takes isl .MMU_INV_CTL [] (putBits 0x8000 31 31 1) ∧ (dram0 b).fab.inv = b) ∧
    State.reset.takes isl .VAT_RPRc_k [3, 255] (putBits 63 31 31 1) ∧
    (State.reset.flag .VAT_RPRc_k [3, 255] 31 = false ∧ (State.reset.setReg .VAT_RPRc_k [3, 255] 0xC0000000).flag .VAT_RPRc_k [3, 255] 30 = true) ∧
    ((State.reset.setReg .VAT_RPRc_k [3, 255] 0x80000000).flag .VAT_RPRc_k [3, 255] 31 = true ∧ (State.reset.setReg .VAT_RPRc_k [3, 255] 0x80000000).flag .VAT_RPRc_k [3, 255] 30 = false) := by
  unfold State.Inv State.takes; and_intros <;> decide +kernel

/-- A tile and a codec with a walk in their queues, for a page that the tables map and one that they do not. -/
def walker (page : Nat) : State :=
  { (mapped (up 135)).updTile 135 (fun x => { x with walks := [⟨.ifetch 3, 0, page * 65536⟩] }) with
    cod := ⟨Tab.empty.put 2 ⟨[], some (codJob 0 false [page]), []⟩, [], 0⟩ }
def walkOk (s : State) (va : Nat) : Bool := match s.walk 0 va false with | .ok _ => true | .bad _ => false
def lockedSched : State := State.reset.setReg .SCH_CTRL [3] 0x3F04

theorem test_meets_InitiatorWritesAndWalks : State.reset.up = true ∧ State.reset.Inv ∧
    ([1, 2] : List Byte) ≠ [] ∧ State.reset.region (0x10FFFFFFE : PAddr).toNat = .vat 0 ∧ State.reset.region ((0x10FFFFFFE : PAddr).toNat + 1) = .vat 0 ∧
    State.reset.permits app (0x10FFFFFFE : PAddr).toNat 2 true = false ∧ State.reset.permits isl (0x10FFFFFFE : PAddr).toNat 2 true = true ∧
    State.reset.sleeping (0x10FFFFFFE : PAddr).toNat = none ∧ State.reset.blockedBy (0x10FFFFFFE : PAddr).toNat 2 = none ∧
    (sealedNear.blockedBy (0x10000FFFF : PAddr).toNat 2 = some 63 ∧ sealedNear.permits isl (0x10000FFFF : PAddr).toNat 2 true = true) ∧
    (State.reset.region (spadBase 135 + 0xFFFFE) = .spad 135 ∧ (up 135).apertureOpen 135 = true ∧ State.reset.apertureOpen 135 = false ∧
      State.reset.permits isl (spadBase 135 + 0xFFFFE) 2 true = true) ∧
    (lockedSched.region (schBase 3) = .sched 3 ∧ lockedSched.meetsLock (schBase 3) = true ∧ lockedSched.meetsLock (schBase 3 + 0x3FFFE) = false ∧
      lockedSched.permits isl (schBase 3) 2 true = true) ∧
    (State.reset.tile 135).walks = [] ∧ ((walker 1).tile 135).walks = ⟨.ifetch 3, 0, 65536⟩ :: [] ∧ (walkOk (walker 1) 65536 = true ∧ walkOk (walker 32) (32 * 65536) = false) ∧
    (((walker 1).codec 2).run = some (codJob 0 false [1]) ∧ (codJob 0 false [1]).walks = 1 :: [] ∧ (walker 1).codMctx 2 = 0) := by
  unfold State.Inv; and_intros <;> decide +kernel

/-! #### Scheduler cores and their firmware -/

/-- The base point of P-256 as a public key: the key of d = 1 (FIPS 186-5). -/
def keyG : List Byte := beBytes 32 p256.gx ++ beBytes 32 p256.gy
/-- An image of `kind` with four zero bytes of body, signed under that key with per-message number 1; the digests and `s` were computed outside the model. -/
def image (kind : BitVec 8) (s : Nat) : List Byte :=
  leBytes 4 0x4D595349 ++ [1, 0, kind, 0, 0, 0, 0, 0] ++ leBytes 4 4 ++ leBytes 4 0x200 ++ List.replicate 12 0 ++
  beBytes 32 0xdf3f619804a92fdb4057192dc43dd748ea778adc52bc498ce80524c014b81119 ++ List.replicate 16 0 ++ keyG ++ List.replicate 240 0 ++
  beBytes 32 p256.gx ++ beBytes 32 s ++ List.replicate 64 0 ++ [0, 0, 0, 0]
/-- Root key 0 is that key's hash. -/
def trusting (s : State) : State :=
  { s with sec := { s.sec with rootHash := Tab.empty.put 0 (beBytes 32 0xd875db7def232236aec738c6b0bb3e80142f5d0fd8f4df24fed6eef5cbb50d9f) } }

/-- A memory with a list of bytes at an address, without the blank ones; `m` holds nothing from there on. -/
def laid (m : Mem) (a : Nat) (bs : List Byte) : Mem := ⟨m.cells ++ (bs.zipIdx.filter (fun (p : Byte × Nat) => p.1 != 0)).map (fun (p : Byte × Nat) => (a + p.2, p.1))⟩
/-- An image with the zeros that follow it up to 4 KiB, and a memory that holds nothing else. -/
def padded (kind : BitVec 8) (s : Nat) : List Byte := image kind s ++ List.replicate 3580 0
def inMemory (s : State) (a : Nat) (bs : List Byte) : State := { s with mem := Mem.wrBytes ⟨[]⟩ a bs }
theorem check_inMemory (s : State) (kind a : Nat) (bs : List Byte) (h : s.sec.log = []) :
    ((inMemory s a bs).runCheck kind a bs.length true).1 = some (decide (512 + imgLen bs ≤ bs.length) && s.imageCheck kind bs == 0, bs) := by
  have hr : (Mem.wrBytes ⟨[]⟩ a bs).rdBytes a bs.length = bs := Mem.rdBytes_wrBytes rfl a bs
  have hi : (inMemory s a bs).imageCheck kind bs = s.imageCheck kind bs := rfl
  unfold State.runCheck
  rw [if_neg (by simp [inMemory, h])]
  simp only [show (inMemory s a bs).mem = Mem.wrBytes ⟨[]⟩ a bs from rfl, hr, hi, Bool.true_and]

theorem inMemory_inv (s : State) (a : Nat) (bs : List Byte) (h : s.Inv) : (inMemory s a bs).Inv :=
  ⟨Mem.wf_wrBytes rfl a bs, h.2.1, h.2.2⟩

def schImage0 : State := trusting ((State.reset.setReg .SCH_CTRL [3] 0x104).setReg .SCH_STATUS [3] 2)
def schPadded : List Byte := padded 4 0x74f3c79f966d49a28908747662298fbe06560653d6e14c68831d7e160df13d16
def schImage : State := inMemory schImage0 (schBase 3) schPadded
def unlocked : State := State.reset.setReg .SCH_STATUS [3] 2

theorem test_sch_image_passes : schImage.Inv ∧ schImage.schLocked 3 = 4096 ∧ (schImage.runCheck 4 (schBase 3) 4096 true).1 = some (true, schPadded) := by
  refine ⟨inMemory_inv _ _ _ (by unfold State.Inv; and_intros <;> decide +kernel), by decide +kernel, ?_⟩
  rw [show (4096 : Nat) = schPadded.length by decide +kernel, schImage, check_inMemory _ _ _ _ rfl]
  rw [show (decide (512 + imgLen schPadded ≤ schPadded.length) && schImage0.imageCheck 4 schPadded == 0) = true by decide +kernel]
/-- The firewall's entry 0 grants every class the whole space; core 3 runs, with its ring table at 0x100000000; queue 255 is its own, with entry `seq` of `kind` posted behind 5. -/
def firmware : State := { State.reset.setReg .SEC_FWe_PERM [0] 0x400003FF with fw := { Fw.zero with cores := Tab.empty.put 3 ⟨true, 0x100000000, 0, 0, 0, 0, 0⟩ } }
def posted (seq kind : Nat) : State :=
  let r : List Byte := [1, 3, 1, 1, 3, 3, 0, 0] ++ leBytes 8 0x100008000 ++ leBytes 8 0x100009000 ++ leBytes 4 5
  { firmware with mem := laid (laid ⟨[]⟩ (0x100000000 + 64 * 255) r) (0x100008000 + 128 * 5) (leBytes 4 seq ++ leBytes 1 kind ++ [0, 7, 0]), events := [.scan 3 0] }

theorem test_meets_SchedulerCoresAndScans : schImage.up = true ∧ unlocked.Inv ∧ (posted 6 2).Inv ∧ (posted 6 2).fw.cores.wf = true ∧
    (State.reset.takes isl .SCH_CTRL [3] (State.reset.rwPart .SCH_CTRL [3] + 1) ∧ State.reset.takes isl .SCH_CTRL [3] (State.reset.rwPart .SCH_CTRL [3] + 8) ∧
      State.reset.takes isl .SCH_CTRL [3] (127 * 256 + 4)) ∧
    (State.reset.flag .SCH_STATUS [3] 3 = false ∧ (State.reset.setReg .SCH_STATUS [3] 8).flag .SCH_STATUS [3] 3 = true ∧ State.reset.flag .SCH_STATUS [3] 1 = false) ∧
    (schImage.flag .SCH_STATUS [3] 1 = true ∧ unlocked.flag .SCH_STATUS [3] 1 = true ∧ (unlocked.runCheck 4 (schBase 3) (unlocked.schLocked 3) true).1.map (·.1) ≠ some true) ∧
    (State.reset.events = [] ∧ (posted 6 2).events = SchEv.scan 3 0 :: [] ∧ State.reset.fwRuns 3 = false ∧ (posted 6 2).fw.cores.find 3 = some ⟨true, 0x100000000, 0, 0, 0, 0, 0⟩ ∧
      (⟨true, 0x100000000, 0, 0, 0, 0, 0⟩ : FwCore).logOk = false) ∧
    (upTo 256).filter (fun x => ((posted 6 2).ring 0x100000000 x).en && ((posted 6 2).ring 0x100000000 x).home == 3) = [255] ∧
    (((posted 6 2).ring 0x100000000 255).sound = true ∧ ((posted 6 2).ring 0x100000000 255).head = 5 ∧ ((posted 6 2).ring 0x100000000 255).pick = 1 ∧
      ((posted 6 2).ring 0x100000000 255).sring + 128 * (5 % 2 ^ ((posted 6 2).ring 0x100000000 255).slog) = 0x100008280) ∧
    ((posted 6 2).schRd 0x100008280 4 = (5 + 1) % 2 ^ 32 ∧ (posted 6 2).schRd (0x100008280 + 4) 1 = 2 ∧ (posted 5 2).schRd 0x100008280 4 ≠ (5 + 1) % 2 ^ 32) := by
  unfold State.Inv State.takes; and_intros <;> decide +kernel

/-- A job of queue 255 at core 3, for context 3 of global tile 127, which is physical tile 133. -/
def jobAt (f : Job → Job) : Job := f { job with core := 3, ents := [⟨127, 3, 1, 0x2008⟩] }
def ran (js : List Job) (f : Tile → Tile) : State := withJobs { firmware with tiles := Tab.empty.put 133 (f { Tile.zero with ready := true }) } js
def fresh : Job := jobAt (fun j => { j with st := .taken, jid := 0 })
def fence (seq : Nat) : Job := jobAt (fun j => { j with st := .taken, jid := 0, fence := true, seq := seq, ents := [] })
def launched : Job := jobAt (fun j => { j with st := .released, launch := [3] })
def going : Job := jobAt (fun j => { j with st := .released })
def halted : Tile → Tile := fun x => { x with ctx := Tab.empty.put 3 { Ctx.zero with st := .halted } }
def faulted : State := { ran [going] id with events := [.fault 133 3] }

theorem test_meets_JobsOfTheFirmware : (ran [] id).up = true ∧ (ran [fresh] id).Inv ∧ (ran [fresh] id).hoopsSound ∧
    (ran [] id).fw.jobs.find? (fun j => j.q == 255 && (j.st == .taken || j.st == .loading)) = none ∧
    (ran [fresh] id).fw.jobs.find? (fun j => j.q == 255 && (j.st == .taken || j.st == .loading)) = some fresh ∧
    (withJobs State.reset [fresh]).fwRuns 3 = false ∧ ((ran [fresh] id).fwRuns 3 = true ∧ fresh.st = .taken ∧
      ∀ e ∈ fresh.ents, e.gtile < 128 ∧ e.ctx < 4 ∧ (ran [fresh] id).clusterRuns (e.gtile / 32) = true) ∧
    ((fence 1).fence = true ∧ (ran [fence 1] id).fw.jobs.find? (fun i => i.q == 255) = some (fence 1)) ∧
    (fresh.fence = false ∧ (∃ i ∈ (ran [fence 0, fresh] id).fw.jobs, i.q = 255 ∧ i.fence = true ∧ i.seq < fresh.seq) ∧
      ∀ i ∈ (ran [fresh, fence 2] id).fw.jobs, i.q = 255 → i.fence = true → fresh.seq ≤ i.seq) ∧
    (((ran [fresh] id).setReg .TILE_JOB (tix 133) 0x1FF).waitsFor fresh = some 1 ∧ fresh.traced = false ∧ { fresh with traced := true }.traced = true) ∧
    ((ran [fresh] id).waitsFor fresh = none ∧ ∀ e ∈ fresh.ents, (ran [fresh] id).physG e.gtile < 136 ∧ ((ran [fresh] id).tile ((ran [fresh] id).physG e.gtile)).ready = true ∧
      (ran [fresh] id).fwAllows .sch (Reg.adr .TILE_JOB (tix ((ran [fresh] id).physG e.gtile))) 4 true = true) ∧
    (State.reset.fwRuns 3 = false ∧ ∀ j ∈ (ran [going] id).fw.jobs, ¬ (j.q = 255 ∧ j.st = .released ∧ j.launch.contains 3 = true)) ∧
    ((ran [launched] id).fwRuns 3 = true ∧ (ran [launched] id).clusterRuns 3 = true ∧
      (ran [launched] id).fw.jobs.filter (fun j => j.q == 255 && j.st == .released && j.launch.contains 3) = [launched] ∧
      launched.ents.filter (fun e => e.gtile / 32 == 3) = [⟨127, 3, 1, 0x2008⟩] ∧ 133 = (ran [launched] id).physG 127 ∧ ((ran [launched] id).tile 133).ready = true ∧
      ((ran [launched] id).tile 133).killed = false ∧ (ran [launched] id).fwAllows .sch (Reg.adr .TILE_CTXk_CMD (tix 133 ++ [3])) 4 true = true ∧
      ((ran [launched] id).ctxOf 133 3).st = .idle ∧ (ran [launched] id).fwAllows .sch (Reg.adr .TILE_CTXk_ENTRY_HI (tix 133 ++ [3])) 4 true = true) ∧
    (State.reset.jobOfJid 9 = none ∧ (ran [going] halted).jobOfJid 9 = some going ∧ (ran [going] id).allHalted going = false ∧ going.done = none) ∧
    (going.st = .released ∧ going.launch = [] ∧ going.miss = none ∧ going.killed = false ∧ (ran [going] halted).allHalted going = true ∧
      (ran [going] halted).fwRuns going.core = true ∧ (ran [going] halted).fw.jobs = [going] ∧ (ran [going] halted).fwAllows .sch (Reg.adr .FAB_KILL []) 4 true = true) ∧
    ((withJobs State.reset [going]).jobOfJid 9 = some going ∧ (withJobs State.reset [going]).fwRuns going.core = false ∧ (ran [going] id).firstFault going = none) ∧
    (faulted.jobOfJid 9 = some going ∧ faulted.firstFault going ≠ none ∧ { going with killed := true }.killed = true ∧ { going with miss := some 3 }.miss ≠ none) := by
  unfold State.Inv State.hoopsSound; and_intros <;> decide +kernel

/-! #### Ethernet, vehicle time, PCIe -/

def src : NetSrc := ⟨1, [0, 0, 0, 5], 99⟩
/-- A VWP payload (R343): OP, window 255, offset, LEN, and data; `pad` stands in a byte that must be 0. -/
def vwp (op : BitVec 8) (off len : Nat) (data : List Byte) (pad : BitVec 8) : List Byte :=
  [1, op, 255, 0] ++ [0, 0, 0, 0] ++ beBytes 8 off ++ beBytes 4 len ++ [0, 0, 0, 0, 0, 0, 0, 0, 0, 0, 0, pad] ++ data
def ether (len : Nat) (m : Macsec) (p : List Byte) : EthFrame := ⟨len, m, none, .udp src 40000 false true p⟩
/-- Port 2 with a link, MACsec as told, a receive buffer that holds `held` bytes. -/
def port2 (macsec : Nat) (held : Nat) : State :=
  let s := ((State.reset.setReg .NET_PORTp_CFG [2] (1 + macsec * 32)).setReg .NET_PORTp_STAT [2] 1).setReg .NET_VWP_CFG [] (40000 * 65536 + 1)
  { s with net := { Net.zero with rx := [⟨2, held, none, []⟩] } }
def clock (tb : TbSt) (goods : Nat) : State := { State.reset with net := { Net.zero with tb := tb, goods := goods, first := true, time := 5000 } }
def gates (on : Nat) (adm : Option (GateList × Nat)) : State :=
  { State.reset.setReg .NET_QBVp_CTRL [2] on with net := { Net.zero with qbv := Tab.empty.put 2 ⟨⟨[(1, 100), (2, 100)], 1000⟩, 0, adm⟩, time := 7 } }
def cbPeer : State := State.reset.setReg .NET_PEERi_CFG [255] 0xA0

theorem test_meets_EthernetAndVehicleTime : (port2 0 0).up = true ∧ (port2 0 0).Inv ∧
    State.reset.ethLink 2 = false ∧ 9018 < (ether 9019 .good []).len ∧ ((port2 0 253126).ethLink 2 = true ∧ (ether 9018 .good []).len ≤ 9018) ∧
    (262144 < (port2 0 253127).rxBytes 2 + (ether 9018 .good []).len ∧ (port2 0 253126).rxBytes 2 + (ether 9018 .good []).len ≤ 262144) ∧
    ((port2 1 0).flag .NET_PORTp_CFG [2] 5 = true ∧ (ether 64 .failed []).macsec = .failed) ∧
    ((port2 0 0).flag .NET_PORTp_CFG [2] 5 = false ∧ (ether 64 .unprotected (vwp 1 0 1 [7] 0)).body = .udp src 40000 false true (vwp 1 0 1 [7] 0) ∧
      (port2 0 0).flag .NET_VWP_CFG [] 0 = true ∧ (40000 : BitVec 16).toNat = (port2 0 0).fld .NET_VWP_CFG [] 31 16) ∧
    (vwpSound (vwp 1 0 1 [7] 1) = false ∧ vwpSound (vwp 1 (2 ^ 32 - 1) 1 [7] 0) = true ∧ vwpOp (vwp 1 (2 ^ 32 - 1) 1 [7] 0) ≠ 4 ∧ (port2 0 0).peerOf src false = none) ∧
    ((port2 0 0).flag .NET_PORTp_CFG [2] 0 = true ∧ State.reset.flag .NET_PORTp_CFG [2] 0 = false) ∧
    (State.reset.net.tb = .disabled ∧ (clock .acquire 15).net.tb = .acquire ∧ (15 : Nat) ≤ (clock .acquire 15).net.goods ∧ (clock .acquire 14).net.goods < 15 ∧
      (100 : Int).natAbs ≤ 100 ∧ 100 < (-101 : Int).natAbs) ∧
    ((clock .sync 0).net.tb = .sync ∧ 1000 < (-1001 : Int).natAbs ∧ (1000 : Int).natAbs ≤ 1000) ∧
    ((clock .holdover 0).net.tb = .holdover ∧ (clock .holdover 0).net.first = true) ∧
    ((gates 0 none).flag .NET_QBVp_CTRL [2] 0 = false ∧ (gates 1 none).flag .NET_QBVp_CTRL [2] 0 = true ∧ ((gates 1 none).qbv 2).adm = none) ∧
    (((gates 1 (some (GateList.reset, 7))).qbv 2).adm = some (GateList.reset, 7) ∧ 7 ≤ (gates 1 (some (GateList.reset, 7))).net.time ∧
      (gates 1 (some (GateList.reset, 8))).net.time < 8) ∧
    (State.reset.flag .NET_PEERi_CFG [255] 5 = false ∧ cbPeer.flag .NET_PEERi_CFG [255] 5 = true) := by
  unfold State.Inv; and_intros <;> decide +kernel

/-- Window 255 of peer 254 over a vat at 0x100000000, of 256 bytes; a message waits; PCIe is up with link IDE as told. -/
def remote (rx : List RxMsg) (ide : Nat) (insecure gate : Bool) : State :=
  let s := (((win 0x100000000 0xC000).setReg .PCI_CTRL [] (1 + 4 * ide)).setReg .PCI_STAT [] 1).setReg .NET_VWP_CFG [] 3
  { (s.setReg .NET_PEERi_CFG [254] 0xC2).setFlag .SEC_GATE [] 0 gate with net := { Net.zero with rx := rx, insecure := insecure } }
def island (s : State) : State := { s with sec := { s.sec with island := some 0 } }

theorem test_meets_WindowAccessesFromOutside : (remote [] 0 false true).up = true ∧ (remote [] 0 false true).Inv ∧ (remote [] 0 false true).net.rx = [] ∧
    (∀ op ∈ [(1 : BitVec 8), 2], (remote [⟨2, 64, some 254, vwp op 0 1 [] 0⟩] 0 false true).net.rx = ⟨2, 64, some 254, vwp op 0 1 [] 0⟩ :: [] ∧
      (vwpOp (vwp op 0 1 [] 0) = 1 ∨ vwpOp (vwp op 0 1 [] 0) = 2)) ∧
    (vwp 2 0 1 [] 0 ≠ vwp 2 0 2 [] 0 ∧ (some 254 : Option Nat) = (some (254 : Fin 256)).map (·.val) ∧ (255 : Fin 256).val = vwpWin (vwp 2 0 1 [] 0)) ∧
    ((remote [] 0 false true).readWaits 255 (some 254) 0 1 = none ∧ ((remote [] 0 false true).setPst 0 2).readWaits 255 (some 254) 0 1 ≠ none) ∧
    ((remote [] 0 false true).gateOpen = true ∧ (remote [] 0 false false).gateOpen = false) ∧
    ((remote [] 0 false true).windowReadValue 255 (some 1) 0 1 = .dropped ∧ (remote [] 0 false true).windowReadValue 255 (some 254) (2 ^ 31) 1 = .refused ∧
      (remote [] 0 false true).windowReadValue 255 (some 254) 0 1 = .data [0]) ∧
    (State.reset.pcieLink = false ∧ (remote [] 0 false true).pcieLink = true ∧ (remote [] 0 false true).flag .PCI_CTRL [] 2 = false ∧ (remote [] 1 false true).flag .PCI_CTRL [] 2 = true ∧
      (remote [] 1 false true).net.insecure = false ∧ (remote [] 1 true true).net.insecure = true) ∧
    (((remote [] 0 false true).setReg .NET_VWP_CFG [] 0).flag .NET_VWP_CFG [] 1 = false ∧ 2 ^ 40 ≤ (0x10000000000 : DWord).toNat) ∧
    ((remote [] 0 false true).flag .NET_VWP_CFG [] 1 = true ∧ (255 : Fin 256).val = (0xFF00000000 : DWord).toNat / 2 ^ 32 ∧ (remote [] 0 false true).pciePeer 0 = some 254) ∧
    (State.reset.sec.island = none ∧ State.reset.flag .NET_PEERi_CFG [254] 6 = false) ∧
    ((island (remote [] 0 false true)).sec.island ≠ none ∧ (island (remote [] 0 false true)).peerValid 254 = true ∧ (island (remote [] 0 false true)).flag .NET_PEERi_CFG [254] 6 = true ∧
      (island (remote [] 0 false true)).region (0x13FFFFFFF : PAddr).toNat = .vat 3 ∧ ∀ v < 4, (island (remote [] 0 false true)).region (0x40000000 : PAddr).toNat ≠ .vat v) := by
  unfold State.Inv; and_intros <;> decide +kernel

/-- Ring 3 at 0x100000000, with a slot for its next entry; peer 0 on Ethernet, peer 1 on PCIe. -/
def entry (seq op len : Nat) (pad : BitVec 8) : List Byte :=
  leBytes 4 seq ++ [BitVec.ofNat 8 op, if op ≤ 2 then 0 else 1, 7, pad] ++ leBytes 4 0 ++ leBytes 4 len ++ leBytes 8 0x100 ++ leBytes 8 0x100010000
def ent (op len : Nat) (got : List (Nat × Nat)) : TxEnt := ⟨op, if op ≤ 2 then 0 else 1, 7, len, 0x100, 0x100010000, got⟩
def ring (e : Option TxEnt) (slot : List Byte) (links : Nat) : State :=
  let s := ((gateUp.setReg .NET_TXq_CFG [3] 0x80003FFF).setReg .NET_TXq_BASE [3] 0x100000).setReg .NET_PEERi_CFG [0] 0xA1
  let s := ((s.setReg .NET_PEERi_CFG [1] 0xC2).setReg .NET_PORTp_STAT [0] (links % 2)).setReg .PCI_STAT [] (links / 2 * 0x29)
  { s.setReg .PCI_CTRL [] (links / 2) with mem := laid ⟨[]⟩ 0x100000000 slot, net := { Net.zero with rings := Tab.empty.put 3 ⟨0, e⟩, rx := [⟨0, 64, some 0, vwp 3 0x110 2 [9, 8] 0⟩] } }
def shut (s : State) : State := (s.setReg .NET_QBVp_CTRL [0] 1).updQbv 0 (fun _ => ⟨⟨[(0, 0)], 1000⟩, 0, none⟩)

theorem test_meets_TransmitRingsAndPcieLink : (ring none [] 3).up = true ∧ (ring none (entry 1 1 1 0) 3).Inv ∧ (ring none [] 3).hoopsSound ∧ (ring none [] 3).blockedRegions = [] ∧
    (State.reset.flag .NET_TXq_CFG [3] 31 = false ∧ State.reset.gateOpen = false ∧ ((ring (some (ent 1 1 [])) [] 3).txRing 3).ent.isSome = true) ∧
    ((ring none [] 3).flag .NET_TXq_CFG [3] 31 = true ∧ (ring none [] 3).gateOpen = true ∧ ((ring none [] 3).txRing 3).ent = none ∧
      0x100000000 = (ring none [] 3).reg .NET_TXq_BASE [3] * 4096 + ((ring none [] 3).txRing 3).seq % 2 ^ max 3 (min 12 ((ring none [] 3).fld .NET_TXq_CFG [3] 19 16)) * 32 ∧
      16383 = (ring none [] 3).fld .NET_TXq_CFG [3] 13 0) ∧
    (∀ p ∈ [(1, 1), (1, 0x100000), (5, 4)], txEntry ((ring none (entry 1 p.1 p.2 0) 3).mem.rdBytes 0x100000000 32) = (1, ent p.1 p.2 [], true) ∧
      (ring none [] 3).txSound (ent p.1 p.2 []) = true ∧ (ring none [] 3).txLink (ent p.1 p.2 []) = true) ∧
    (txEntry (entry 2 1 1 0) = (2, ent 1 1 [], true) ∧ { ring none [] 3 with poison := [0x10000000] }.poisoned 0x100000000 32 = true ∧ (ring none [] 3).poisoned 0x100000000 32 = false) ∧
    (txEntry (entry 1 1 1 1) = (1, ent 1 1 [], false) ∧ (ring none [] 3).txSound (ent 5 5 []) = false ∧ (ring none [] 2).txLink (ent 1 1 []) = false ∧
      (ring none [] 1).txLink (ent 5 4 []) = false) ∧
    (missingRuns 4 [(0, 2)] ≠ [] ∧ missingRuns 4 [(2, 2), (0, 2)] = []) ∧
    ((ent 1 1 []).op ≠ 2 ∧ (ring none [] 3).txMayLeave 3 (ent 1 1 []) = true ∧ (shut (ring none [] 3)).txMayLeave 3 (ent 1 1 []) = false) ∧
    ((ent 4 4 []).op % 2 = 0 ∧ (ent 4 4 []).got = [] ∧ 0 < (ent 4 4 []).len ∧ ((ring none [] 3).region (ent 4 4 []).loc).isVatOrLpx = true ∧ (ent 5 4 []).op % 2 = 1) ∧
    ((ring none [] 3).net.rx = [⟨0, 64, some 0, vwp 3 0x110 2 [9, 8] 0⟩] ∧ some 0 = some (ent 2 0x12 []).peer ∧ vwpOp (vwp 3 0x110 2 [9, 8] 0) = 3 ∧
      vwpWin (vwp 3 0x110 2 [9, 8] 0) = 255 ∧ { ent 2 0x12 [] with win := 255 }.win = 255 ∧ (ent 2 0x12 []).remote ≤ vwpOffset (vwp 3 0x110 2 [9, 8] 0) ∧
      vwpOffset (vwp 3 0x110 2 [9, 8] 0) + (vwpData (vwp 3 0x110 2 [9, 8] 0)).length ≤ (ent 2 0x12 []).remote + (ent 2 0x12 []).len) ∧
    (∀ d ∈ [0, 1, 3], (ring none [] 3).takes isl .PCI_CTRL [] d ∧ State.reset.takes isl .PCI_CTRL [] d) ∧
    ((ring none [] 3).flag .PCI_CTRL [] 0 = true ∧ State.reset.flag .PCI_CTRL [] 0 = false ∧ (ring none [] 3).net.dead = false) ∧
    ((ring none [] 3).pcieLink = true ∧ (ring none [] 3).fld .PCI_STAT [] 3 1 = 4 ∧ ((ring none [] 3).setReg .PCI_STAT [] 5).fld .PCI_STAT [] 3 1 = 2 ∧ State.reset.pcieLink = false) := by
  unfold State.Inv State.takes State.hoopsSound; and_intros <;> decide +kernel

/-! #### Boot, keys, fuses, debug -/

def starter : List Byte := image 1 0x53c0096d9276b7b82bd6ec67111b98aa51e40ac205db86a476a558ecc8d5ba0e
def powered (porst bor : Bool) (lc : Nat) : State := { State.reset.setReg .SEC_LC [] lc with rst := ⟨porst, bor, false⟩ }
def uploading (b : BootRun) (isl : Option Nat) (gate : Nat) : State :=
  let s := trusting (State.reset.setReg .SEC_GATE [] gate)
  { s with sec := { s.sec with boot := some b, island := isl, booted := true } }
def good : BootRun := ⟨starter, 0, some 1⟩
def bad (f : Option Nat) : BootRun := ⟨[1, 2, 3], 0, f⟩
def appImage0 : State := trusting (State.reset.setReg .SEC_APPg [1] 0x28001)
def appPadded : List Byte := padded 3 0x61fc238be3462351b4da5c58ad7e807f2df78a641916877ee28a5504af444bb0
def appImage : State := inMemory appImage0 (appBase 1) appPadded
def appUnlocked : State := State.reset.setReg .SEC_APPg [1] 0x20000

theorem test_app_image_passes : appImage.Inv ∧ appImage.appLocked 1 = 4096 ∧ (appImage.runCheck 3 (appBase 1) 4096 true).1 = some (true, appPadded) := by
  refine ⟨inMemory_inv _ _ _ (by unfold State.Inv; and_intros <;> decide +kernel), by decide +kernel, ?_⟩
  rw [show (4096 : Nat) = appPadded.length by decide +kernel, appImage, check_inMemory _ _ _ _ rfl]
  rw [show (decide (512 + imgLen appPadded ≤ appPadded.length) && appImage0.imageCheck 3 appPadded == 0) = true by decide +kernel]

theorem test_meets_BootAndLockedGroups : State.reset.Inv ∧ State.reset.sec.apps.wf = true ∧
    ((powered true true 0).rst.porst = true ∧ (powered true true 0).rst.bor = true) ∧
    ((powered true false 0).rst.porst = true ∧ (powered true false 0).rst.bor = false ∧ (powered true false 0).rst.trip = false ∧ (powered true false 4).lcState = 4 ∧
      (powered true false 3).lcState ≠ 4) ∧
    (State.reset.up = true ∧ (uploading good none 0).sec.booted = true ∧ State.reset.sec.boot = none ∧ (uploading good none 0).sec.boot = some good) ∧
    ((uploading good (some 0) 0).sec.island ≠ none ∧ (uploading good none 0).sec.island = none) ∧
    (uploading good none 0).imageCheck 1 starter = 0 ∧ starter[515]? = some 0 ∧
    ((uploading good none 0).flag .SEC_GATE [] 1 = false ∧ (uploading good none 2).flag .SEC_GATE [] 1 = true) ∧
    ((uploading (bad none) none 0).imageCheck 1 (bad none).img ≠ 0 ∧ (bad (some 1)).fallback = some 1 ∧ (1 : Nat) ≠ (bad (some 1)).slot ∧ (bad none).fallback = none) ∧
    (State.reset.takes isl .SEC_GATE [] 2 ∧ State.reset.takes isl .SEC_APPg [1] (127 + 2 ^ 15) ∧
      State.reset.takes isl .SEC_APPg [1] (State.reset.rwPart .SEC_APPg [1] + 2 ^ 16) ∧ State.reset.takes isl .SEC_APPg [1] (State.reset.rwPart .SEC_APPg [1] + 2 ^ 14)) ∧
    (State.reset.flag .SEC_APPg [1] 17 = false ∧ appImage.flag .SEC_APPg [1] 17 = true ∧ appUnlocked.flag .SEC_APPg [1] 17 = true) ∧
    (appUnlocked.runCheck 3 (appBase 1) (appUnlocked.appLocked 1) true).1.map (·.1) ≠ some true := by
  unfold State.Inv State.takes; and_intros <;> decide +kernel

/-- A key command's descriptor: OP, KIND, FLAGS, SRC, DST, A, B, C. -/
def kdesc (op kind fl src dst : BitVec 8) (a b c : Nat) : List Byte := [op, kind, fl, src, dst, 0, 0, 0] ++ leBytes 8 a ++ leBytes 4 b ++ leBytes 4 c ++ List.replicate 40 0
def keyed (d : List Byte) (gate : Nat) (logs : Nat) : State :=
  let s := State.reset.setReg .SEC_GATE [] gate
  { s with sec := { s.sec with kcmd := some d, slots := Tab.empty.put 15 ⟨3, beBytes 32 1⟩, log := List.replicate logs (.unlock 0) } }
def kposted (op : BitVec 8) : State := { State.reset with mem := ⟨[(islandBase + 0xFFFC0, op)]⟩ }
def fused (lc : Nat) (j : Option FuseJob) : State :=
  let s := ((State.reset.setReg .SEC_GATE [] 1).setReg .SEC_LC [] lc).setReg .SEC_FUSEADV [] (if j.isSome then 2 ^ 31 else 0)
  { s with sec := { s.sec with fuse := j } }
/-- A challenge whose digest with scope 3 is the x of a point R, and the public key R - G: r = s = the digest verifies. -/
def dbgPub : List Byte := beBytes 32 0x5264d349a1e99fc912ef51b0ff47bb367a564092c12ec0b8e954216de520b0b8 ++
  beBytes 32 0x508de5353571653d574a74f13af198559beccbf62732875d72df3af9fb00680d
def dbgSig : List Byte := beBytes 32 0xc7c5e48e3b86a90a8fc0b22804a3f5b1ca40b68bc69dd9f4f3ec1240f6ba85e1 ++
  beBytes 32 0xc7c5e48e3b86a90a8fc0b22804a3f5b1ca40b68bc69dd9f4f3ec1240f6ba85e1
def challenged (n : Nat) : State :=
  { State.reset with sec := { State.reset.sec with chal := some [1], rejected := n, dbgHash := beBytes 32 0x5bd9787bfa6c59242f12f520fcf24e541e1d2fe6b972ed5c02e62dddcc6c69ee } }

theorem test_meets_KeysFusesAndDebug : State.reset.up = true ∧ State.reset.Inv ∧ (keyed [] 1 0).sec.slots.wf = true ∧
    (State.reset.mem.rdLE (islandBase + 0x3FFF * 64) 1 ≠ 1 ∧ (kposted 5).mem.rdLE (islandBase + 0x3FFF * 64) 1 = 5 ∧ (kposted 1).mem.rdLE (islandBase + 0x3FFF * 64) 1 = 1 ∧
      (kposted 2).mem.rdLE (islandBase + 0x3FFF * 64) 1 = 2 ∧ (kposted 3).mem.rdLE (islandBase + 0x3FFF * 64) 1 = 3 ∧ (kposted 4).mem.rdLE (islandBase + 0x3FFF * 64) 1 = 4 ∧
      (kposted 5).takes isl .SEC_KCMD [] (0x3FFF * 64) ∧ (kposted 5).reg .SEC_KCMD [] = 0) ∧
    (State.reset.sec.kcmd = none ∧ (keyed (kdesc 5 0 0 0 15 0 0 0) 0 0).sec.kcmd = some (kdesc 5 0 0 0 15 0 0 0) ∧ fieldAt (kdesc 5 0 0 0 15 0 0 0) 0 1 ≠ 1 ∧
      (keyed (kdesc 5 0 0 0 15 0 0 0) 0 0).gateOpen = false ∧ (keyed (kdesc 5 0 0 0 15 0 0 0) 1 0).gateOpen = true) ∧
    (∀ d ∈ [kdesc 1 5 1 0 0 0x400FFFFF 0 0, kdesc 2 0 4 15 15 0xFFFF0 256 0xFFF00, kdesc 3 0 0 15 0 0xFFFD0 0xFFFC0 0, kdesc 4 0 0 15 0 0 0xFFFC0 0, kdesc 5 0 0 0 15 0 0 0],
      allZero ((d.drop 5).take 3) = true ∧ allZero (d.drop 24) = true ∧ fieldAt d 3 1 ≤ 15) ∧
    (fieldAt (kdesc 1 5 1 0 0 0x400FFFFF 0 0) 0 1 = 1 ∧ 32 ≤ (keyed [] 1 32).sec.log.length ∧ fieldAt (kdesc 1 5 1 0 0 0x400FFFFF 0 0) 1 1 = 5 ∧
      fieldAt (kdesc 1 5 1 0 0 0x400FFFFF 0 0) 2 1 ≤ 1 ∧ State.reset.region (fieldAt (kdesc 1 5 1 0 0 0x400FFFFF 0 0) 8 8) = .island) ∧
    (fieldAt (kdesc 2 0 4 15 15 0xFFFF0 256 0xFFF00) 0 1 = 2 ∧ (keyed [] 1 0).slot (fieldAt (kdesc 2 0 4 15 15 0xFFFF0 256 0xFFF00) 3 1) = some ⟨3, beBytes 32 1⟩ ∧
      fieldAt (kdesc 2 0 4 15 15 0xFFFF0 256 0xFFF00) 2 1 = 2 * 2 ∧ fieldAt (kdesc 2 0 4 15 15 0xFFFF0 256 0xFFF00) 4 1 = 15 ∧
      fieldAt (kdesc 2 0 4 15 15 0xFFFF0 256 0xFFF00) 8 8 = 0xFFFF0 ∧ fieldAt (kdesc 2 0 4 15 15 0xFFFF0 256 0xFFF00) 16 4 = 256 ∧
      fieldAt (kdesc 2 0 4 15 15 0xFFFF0 256 0xFFF00) 20 4 = 0xFFF00 ∧ 0xFFFF0 + 16 ≤ 0x100000 ∧ 0xFFF00 + 256 ≤ 0x100000) ∧
    (fieldAt (kdesc 5 0 0 0 15 0 0 0) 0 1 = 5 ∧ fieldAt (kdesc 5 0 0 0 15 0 0 0) 2 1 = 0 ∧ fieldAt (kdesc 5 0 0 0 15 0 0 0) 4 1 = 15) ∧
    (fieldAt (kdesc 4 0 0 15 0 0 0xFFFC0 0) 0 1 = 4 ∧ (keyed [] 1 0).ecdsaKey (fieldAt (kdesc 4 0 0 15 0 0 0xFFFC0 0) 3 1) = some 1 ∧
      fieldAt (kdesc 4 0 0 15 0 0 0xFFFC0 0) 16 4 + 2 * (curveOf (keyed [] 1 0).sec.algsel).len ≤ 0x100000 ∧
      (curveOf (keyed [] 1 0).sec.algsel).pub 1 = (p256.gx, p256.gy)) ∧
    (fieldAt (kdesc 3 0 0 15 0 0xFFFD0 0xFFFC0 0) 0 1 = 3 ∧ fieldAt (kdesc 3 0 0 15 0 0xFFFD0 0xFFFC0 0) 8 8 + 48 ≤ 0x100000) ∧
    ((fused 0 none).takes isl .SEC_FUSEADV [] 64 ∧ (fused 0 none).flag .SEC_FUSEADV [] 31 = false ∧ (fused 0 none).gateOpen = true ∧ ones (fused 0 none).minver 64 < 64 ∧
      State.reset.gateOpen = false ∧ State.reset.takes isl .SEC_FUSEADV [] 64) ∧
    ((fused 0 (some (.minver 1))).flag .SEC_FUSEADV [] 31 = true ∧ (fused 0 (some (.minver 1))).takes isl .SEC_FUSEADV [] 0 ∧ 0 ≤ ones (fused 0 none).minver 64) ∧
    (((fused 0x282 none).takes isl .SEC_LC [] (3 * 16) ∧ (fused 0x282 none).flag .SEC_FUSEADV [] 31 = false ∧ (fused 0x282 none).gateOpen = true ∧ (fused 0x282 none).lcAllowed 3 = true) ∧
      (fused 0x182 none).lcAllowed 3 = false ∧ State.reset.takes isl .SEC_LC [] (1 * 16)) ∧
    (State.reset.sec.fuse = none ∧ (fused 0 (some (.minver 64))).sec.fuse = some (.minver 64) ∧ (fused 0 (some (.lc 4))).sec.fuse = some (.lc 4) ∧ (fused 0 (some (.lc 4))).lcState < 4) ∧
    (3 ≤ (challenged 3).sec.rejected ∧ (challenged 2).sec.rejected < 3 ∧ (challenged 2).responseGood (2 : Word).toNat dbgPub dbgSig = false ∧
      (challenged 2).responseGood (3 : Word).toNat dbgPub dbgSig = true) ∧
    (State.reset.takes isl .SEC_MPUr_CFG [7] (putBits 0x3F 31 31 1) ∧ State.reset.takes isl .SEC_FWe_PERM [31] (putBits 0x3FF 31 31 1)) := by
  unfold State.Inv State.takes; and_intros <;> decide +kernel

/-! #### Press -/

/-- A fused curve that allows FSEL 30 at every voltage: OP4 fits, OP5 and above do not. -/
def curve (s : State) : State := foldState (fun s i => { s with regs := s.regs.put (Reg.adr .PRS_VFi [i]) 30 }) s (upTo 8)
def warm : PressSample := ⟨1500, 5000, 75, 400, -200, 60, 84⟩
def press (f : Prs → Prs) : State := let s := curve State.reset; { s with prs := f s.prs }
def held2 : State := (curve State.reset).setReg .PRS_CTRL [] 4
def slow (v f tv tf sw : Nat) : State := press (fun p => { p with cl := Tab.empty.put 3 ⟨v, f, tv, tf, sw⟩ })
def after (m : PressSample) : State := (curve State.reset).controlInterval m

theorem test_meets_PressPointsAndBounds : (curve State.reset).up = true ∧ (curve State.reset).Inv ∧
    (((curve State.reset).setReg .PRS_CTRL [] 2).flag .PRS_CTRL [] 1 = true ∧ held2.flag .PRS_CTRL [] 2 = true) ∧
    ((after warm).prs.allow.getD 0 0 < 1500 ∧ 7 * (after warm).prs.allow.getD 2 0 < 8 * 75 ∧ 75 ≤ (after warm).prs.allow.getD 2 0 ∧
      8 * 10 ≤ 7 * (after ⟨10, 10, 10, 0, 0, 0, 0⟩).prs.allow.getD 2 0) ∧
    ((curve State.reset).thr = 115 ∧ (curve State.reset).hyst = 3) ∧
    (∀ d, d < 7 → (curve State.reset).takes isl .PRS_DOMd [d] 0x1F4) ∧
    ((curve State.reset).eff 3 ≠ 5 ∧ (curve State.reset).fmax ((curve State.reset).opPoint 5).1 < ((curve State.reset).opPoint 5).2 ∧
      ((curve State.reset).opPoint 4).2 ≤ (curve State.reset).fmax ((curve State.reset).opPoint 4).1) ∧
    ((slow 46 30 46 30 0).clOp 3 = ⟨46, 30, 46, 30, 0⟩ ∧ (slow 46 30 46 20 2).clOp 3 = ⟨46, 30, 46, 20, 2⟩ ∧ (slow 46 30 46 20 1).clOp 3 = ⟨46, 30, 46, 20, 1⟩ ∧
      (slow 46 30 48 40 0).clOp 3 = ⟨46, 30, 48, 40, 0⟩ ∧ (slow 48 30 48 40 0).clOp 3 = ⟨48, 30, 48, 40, 0⟩ ∧ (slow 48 30 46 30 0).clOp 3 = ⟨48, 30, 46, 30, 0⟩) ∧
    ((press (fun p => { p with thrDie := [2] })).prs.thrDie = [dieNum .iod] ∧ dieNum .cd1 ∉ State.reset.prs.thrDie ∧ dieOf 6 = dieNum .iod ∧ dieOf 3 = dieNum .cd1) ∧
    ((press (fun p => { p with stretch := [3] })).prs.stretch = [3] ∧ 3 ∉ State.reset.prs.stretch ∧ State.reset.prs.thrPower = false ∧ 1 ∉ State.reset.prs.thrDie) := by
  unfold State.Inv State.takes; and_intros <;> decide +kernel

/-- An entry of a domain; a cluster in a power state; the device in CAVE, with an exit or none. -/
def entering (d target delays : Nat) (com lat : Bool) : State := State.reset.setEntry d ⟨target, delays, com, lat⟩
def down (c st : Nat) : State := State.reset.setPst c st
def caved (exit : Bool) : State :=
  let s := foldState (fun s c => s.setPst c stREST) State.reset (upTo 4)
  { s with prs := { s.prs with cave := true, caveExit := exit } }
def waking (cfg pins : Nat) : State :=
  let s := (down 3 stTRIM).setReg .PRS_WAKECFG [] cfg
  { s with prs := { s.prs with pins := pins } }
def exiting : State := { down 3 stEXIT with held := [.reg isl (Reg.adr .TILE_JOB [3, 33]) 32 5] }

theorem test_meets_EntryWakeAndExit : State.reset.up = true ∧ State.reset.Inv ∧ (entering 3 stTRIM 14 false false).prs.entry.wf = true ∧
    (State.reset.prs.entry.find (domainNum (.cluster 3)) = none ∧ (entering 4 stCAVE 0 true false).prs.entry.find (domainNum .device) = some ⟨stCAVE, 0, true, false⟩) ∧
    ((entering 3 stTRIM 14 false false).prs.entry.find 3 = some ⟨stTRIM, 14, false, false⟩ ∧ (entering 3 stTRIM 14 false false).idleFor 3 stTRIM = true ∧
      (gateUp.setEntry 4 ⟨stCAVE, 15, false, false⟩).idleFor 4 stCAVE = false ∧ (gateUp.setEntry 4 ⟨stCAVE, 15, false, false⟩).prs.entry.find 4 = some ⟨stCAVE, 15, false, false⟩) ∧
    ((entering 3 stREST 0 true true).prs.entry.find 3 = some ⟨stREST, 0, true, true⟩ ∧ (entering 3 stTRIM 0 true false).prs.entry.find 3 = some ⟨stTRIM, 0, true, false⟩) ∧
    (State.reset.prs.entry.find 3 = none ∧ (down 3 stREST).asleep 3 = true ∧ (down 3 stEXIT).asleep 3 = false) ∧
    ((waking 0x3000 0).flag .PRS_WAKECFG [] (4 * 3) = true ∧ (waking 0x3000 0).flag .PRS_WAKECFG [] (4 * 3 + 1) = true ∧ (true = !(waking 0x3000 0).flag .PRS_WAKECFG [] (4 * 3 + 2)) ∧
      (waking 0x5000 8).prs.pins.testBit 3 = !false ∧ (false = !(waking 0x5000 8).flag .PRS_WAKECFG [] (4 * 3 + 2)) ∧ (waking 0x5000 8).asleep 3 = true ∧
      (waking 0x5000 8).prs.entry.find 3 = none) ∧
    ((waking 0 0).flag .PRS_WAKECFG [] (4 * 3) = false ∧ true = (waking 0x5000 8).flag .PRS_WAKECFG [] (4 * 3 + 2) ∧
      ((waking 0x1000 8).flag .PRS_WAKECFG [] (4 * 3 + 1) = false ∧ (waking 0x1000 8).prs.pins.testBit 3 = true)) ∧
    ((caved false).prs.entry.find 4 = none ∧ (caved false).prs.cave = true ∧ (caved false).prs.caveExit = false) ∧
    ((down 3 stREST).takes isl .PRS_WAKE [] 24 ∧ (caved false).takes isl .PRS_WAKE [] 16 ∧ (entering 3 stREST 0 true false).takes isl .PRS_WAKE [] 8 ∧
      (entering 3 stREST 0 false false).takes isl .PRS_WAKE [] 8) ∧
    (State.reset.held = [] ∧ State.reset.pst 3 ≠ stEXIT ∧ (down 3 stEXIT).held = [] ∧ (down 3 stEXIT).pst 3 = stEXIT) ∧
    (exiting.held = [.reg isl (pa .TILE_JOB [3, 33]).toNat 32 5] ∧ exiting.pst 3 = stEXIT) ∧
    ((caved true).held = [] ∧ (caved true).prs.cave = true ∧ (caved true).prs.caveExit = true ∧ State.reset.prs.cave = false) := by
  unfold State.Inv State.takes; and_intros <;> decide +kernel

/-! #### Errors, watchdogs, comparison and sparing -/

def rec (c : Nat) : ErrRec := ⟨c, 1, 2, 3, 0x100000000, 5, 6⟩
/-- A signal of a class on its way under an action, with the log as long as given, at GLB_CYCLES `now`. -/
def sig (c act len now : Nat) (ce : Option Nat) : State :=
  let s := State.reset.setReg .MGT_CLSc [c] act
  { s with swp := { s.swp with cycle := now }, mgt := { s.mgt with inflight := [rec c, rec 0], log := List.replicate len (rec 1), ceLogged := ce, errLow := false } }
def outPad (low : Bool) (eout now : Nat) : State :=
  let s := State.reset.setReg .MGT_EOUT [] eout
  { s with swp := { s.swp with cycle := now }, mgt := { s.mgt with errLow := low, fellAt := some 100 } }
/-- Watchdog `w` has run for `now` cycles of 2.5 ns with a count of 1; all processors are out of reset. -/
def dog (w : Nat) (action : Bool) (now : Nat) : State :=
  let s := ((((State.reset.setReg .MGT_WDGw [w] (2 ^ 28 + b2n action * 2 ^ 29 + 1)).setReg .SCH_STATUS [3] 3).setReg .SCH_CTRL [3] 0x104).setReg .SEC_APPg [1] 0xA8001)
  { s with swp := { s.swp with cycle := now }, sec := { s.sec with island := some 0 } }

theorem test_meets_ErrorsLogAndWatchdogs : State.reset.up = true ∧ (sig 3 3 255 0 none).Inv ∧ State.reset.mgt.inflight = [] ∧
    ((sig 3 3 255 0 none).mgt.inflight = rec 3 :: [rec 0] ∧ (rec 3).cls = 3) ∧
    ((sig 15 0 0 0 none).actOf 15 = 0 ∧ (sig 15 2 255 0 none).actOf 15 = 2 ∧ (sig 15 2 255 0 none).mgt.log.length < 256 ∧ 256 ≤ (sig 15 3 256 0 none).mgt.log.length ∧
      (sig 15 3 256 0 none).actOf 15 = 3) ∧
    ((sig 3 3 0 250000 (some 0)).mgt.ceLogged = some 0 ∧ 0 + 100000 ≤ (sig 3 3 0 250000 (some 0)).pressNow ∧ (sig 3 3 0 249999 (some 1)).pressNow < 1 + 100000) ∧
    ((sig 3 3 256 0 none).takes isl .MGT_ELOG_CTL [] (2 ^ 31) ∧ (outPad true 0x40000000 0).takes isl .MGT_EOUT [] ((outPad true 0x40000000 0).rwPart .MGT_EOUT [] + 2 ^ 31)) ∧
    ((outPad true 0x80000000 2749).mgt.fellAt = some 100 ∧ (outPad true 0x80000000 2749).pressNow < 100 + 1000 ∧ (outPad true 0x80008000 0).fld .MGT_EOUT [] 15 0 ≠ 0 ∧
      (outPad false 0 0).mgt.errLow = false ∧ (outPad true 0 0).flag .MGT_EOUT [] 31 = false ∧ (outPad true 0xC0000000 0).flag .MGT_EOUT [] 30 = true) ∧
    ((outPad true 0x80000000 2750).mgt.errLow = true ∧ (outPad true 0x80000000 2750).flag .MGT_EOUT [] 31 = true ∧ (outPad true 0x80000000 2750).fld .MGT_EOUT [] 15 0 = 0 ∧
      (outPad true 0x80000000 2750).flag .MGT_EOUT [] 30 = false ∧ 100 + 1000 ≤ (outPad true 0x80000000 2750).pressNow) ∧
    (State.reset.takes isl .MGT_CLSc [15] (State.reset.rwPart .MGT_CLSc [15] + 4) ∧ (State.reset.setReg .SEC_FWe_PERM [0] 0x400003FF).takes app .MGT_WDGw [6] (State.reset.rwPart .MGT_WDGw [6] + 2 ^ 31) ∧
      State.reset.takes isl .CTL_HARTOFF [] 0xFFF) ∧
    ((dog 6 true 2499).wdgDue 6 = false ∧ (dog 0 true 2500).wdgDue 0 = true ∧
      ((dog 6 false 2500).wdgDue 6 = true ∧ (dog 6 false 2500).flag .MGT_WDGw [6] 29 = false) ∧ ((dog 4 true 2500).wdgDue 4 = true ∧ (dog 4 true 2500).flag .MGT_WDGw [4] 29 = true) ∧
      (dog 6 true 2500).wdgDue 6 = true ∧ (dog 6 true 2500).flag .MGT_WDGw [6] 29 = true) := by
  unfold State.Inv State.takes; and_intros <;> decide +kernel

/-- A comparison of 16-bit values, of which the third differs by `d`. -/
def comparing (fmt tol cnt : Nat) (d : Byte) : State :=
  let s := State.reset
  { s with mem := (s.mem.wr (vatBase 3) 1).wr (vatBase 3 + 4) d, mgt := { s.mgt with cmp := some ⟨vatBase 3, vatBase 3 + 0x1000, 256, fmt, tol, cnt⟩ } }
def fetching : Fetch := ⟨0, 3, false, .data, [], [], false, false⟩
/-- Logical tile 31 of cluster 3, in slot 31, spared into slot 33. -/
def sparing (st : SpareSt) (f : Tile → Tile) : State :=
  let s := (((upCtx 133 3 (fun c => { c with bar := .sent })).updTile 133 f).updTile 135 (fun x => { x with ready := true })).setReg .TILE_JOB [3, 31] 0x102
  { s with spares := Tab.empty.put 3 ⟨31, 31, 33, none, st⟩, mem := (s.mem.wr (spadBase 133 + 0xFFFFF) 7).wr (spadBase 135) 9 }

theorem test_meets_ComparisonAndSparing : (sparing .copying id).up = true ∧ (sparing .copying id).Inv ∧ (sparing .copying id).hoopsSound ∧ (sparing .copying id).spares.wf = true ∧
    (33 = bits (0x8021001F : Word).toNat 21 16 ∧ 31 = bits (0x8021001F : Word).toNat 4 0) ∧
    (State.reset.takes isl .MGT_CMP_CTL [] (putBits 0x7000001 31 31 1) ∧ State.reset.mgt.cmp = none) ∧
    ((comparing 1 3 16383 3).mgt.cmp = some ⟨vatBase 3, vatBase 3 + 0x1000, 256, 1, 3, 16383⟩ ∧
      (∀ i, i < 128 → (comparing 1 3 0 3).cmpBad (vatBase 3 + i * 2) 2 = false ∧ (comparing 1 3 0 3).cmpBad (vatBase 3 + 0x1000 + i * 2) 2 = false ∧
        cmpEqual 1 3 ((comparing 1 3 0 3).mem.rdLE (vatBase 3 + i * 2) 2) ((comparing 1 3 0 3).mem.rdLE (vatBase 3 + 0x1000 + i * 2) 2) = true) ∧
      cmpEqual 1 3 ((comparing 1 3 0 4).mem.rdLE (vatBase 3 + 2 * 2) 2) ((comparing 1 3 0 4).mem.rdLE (vatBase 3 + 0x1000 + 2 * 2) 2) = false) ∧
    (State.reset.takes isl .CLU_SPARE [3] (putBits 0x21001F 31 31 1) ∧ ((sparing .holding id).spares.find 3).isSome = true ∧ State.reset.spares.find 3 = none ∧
      (State.reset.tile (34 * 3 + 33)).ready = false ∧ (State.reset.logicalOf (34 * 3 + 31)).isSome = true ∧ 33 < bits 0x22001F 21 16) ∧
    ((up 135).spares.find 3 = none ∧ (up 135).logicalOf (34 * 3 + 33) = none ∧ ((up 135).tile (34 * 3 + 33)).ready = true ∧ (up 135).jobOf (34 * 3 + 33) = none) ∧
    ((sparing .holding id).spares.find 3 = some ⟨31, 31, 33, none, .holding⟩ ∧ ((sparing .holding id).tile (34 * 3 + 31)).reqs = [] ∧ ((sparing .holding id).tile (34 * 3 + 31)).fetches = [] ∧
      ((sparing .holding (fun x => { x with fetches := [fetching] })).tile (34 * 3 + 31)).fetches ≠ []) ∧
    ((sparing .copying id).spares.find 3 = some ⟨31, 31, 33, none, .copying⟩ ∧ (sparing .copying id).held = [] ∧ ((sparing .copying id).tile (34 * 3 + 31)).reqs = []) := by
  unfold State.Inv State.hoopsSound State.takes; and_intros <;> decide +kernel

/-! #### Reset, balls and the whole block -/

def dead (bor trip : Bool) : State := { State.reset with rst := ⟨false, bor, trip⟩ }
def alerted (b : Bool) : State := { State.reset with mgt := { State.reset.mgt with alerted := b } }

theorem test_meets_ResetSourcesAndBalls : State.reset.Inv ∧ State.reset.up = true ∧ State.reset.sec.fuse = none ∧
    (dead true true).rst.bor = true ∧ (dead true false).up = false ∧
    State.reset.takes isl .GLB_RSTREQ [] 1 ∧ State.reset.mgt.alerted = false ∧ (alerted true).mgt.alerted = true := by
  unfold State.Inv State.takes; and_intros <;> decide +kernel

theorem test_meets_SyncPpsTimestamp : State.reset.up = true ∧ State.reset.Inv ∧ State.reset.flag .NET_TCFG [] 0 = false ∧
    (State.reset.setReg .NET_TCFG [] 1).flag .NET_TCFG [] 0 = true := by unfold State.Inv; and_intros <;> decide +kernel

theorem test_meets_RalokDecodeEncode : RWord.legal ⟨.BRC, ⟨7, true⟩, .sb ⟨63, 62, 5, 0xFFFFFFF0⟩⟩ = true ∧
    (decodeWord 0x8000000000000000).2 = none := by and_intros <;> decide +kernel

theorem test_meets_StepKeepsCanonicalForms : State.reset.Inv ∧ step State.reset = .next State.reset := ⟨by unfold State.Inv; and_intros <;> decide +kernel, rfl⟩

theorem test_meets_StepKeepsTables : State.reset.tablesSound ∧ step State.reset = .next State.reset :=
  ⟨by unfold State.tablesSound State.hoopsSound; and_intros <;> first | decide | exact fun _ => ⟨rfl, rfl, rfl, fun _ => rfl⟩, rfl⟩

end Sys2Proof.Tests
end

section
/-! SUPPORT. The statements of 00_scope: every command answers, and what a register write stores. -/

namespace Sys2Proof.Machine
open Sys2Proof

/-! ### The outcome of a command -/

/-- Each row runs under `live` or `liveIn`, or is one of the reset sources, and these answer `.next`; BROWN_OUT alone judges its operand first. -/
theorem exec_next_of_ne_brownOut {c : Instr} (h : ∀ mV ns, c ≠ .brownOut mV ns) (s : State) : ∃ t, exec c s = .next t := by
  cases c with
  | brownOut mV ns => exact absurd rfl (h mV ns)
  | _ => exact ⟨_, rfl⟩

/-- A supply above its range is outside the limits (R4, R426). -/
theorem exec_brownOut_above {mV : Nat} (h : 772 < mV) (ns : Nat) (s : State) : exec (.brownOut mV ns) s = .fault .outsideLimits := if_pos h

/-- A supply in or below its range has the effect of R426. -/
theorem exec_brownOut_within {mV : Nat} (h : ¬ 772 < mV) (ns : Nat) (s : State) : exec (.brownOut mV ns) s = .next (s.brownOut mV ns) := if_neg h

/-! ### A register write of any row -/

theorem exec_registerWrite_takes {ini : Initiator} {a : PAddr} {data : Word} {s : State} {r : Reg} {is : List Nat} (ha : a.toNat = r.adr is)
    (h : s.takes ini r is data.toNat) : exec (.registerWrite ini a 32 data) s = .next (s.regWrite ini r is (r.adr is) data.toNat) := by
  rw [← live_wr h]
  unfold State.wr
  rw [← ha]
  rfl

/-- A masked write is a register write of 32 bits; the mask is a matter of the register's access codes (R39). -/
theorem exec_maskedWrite_takes {ini : Initiator} {a : PAddr} {data : Word} {s : State} {r : Reg} {is : List Nat} (ha : a.toNat = r.adr is)
    (h : s.takes ini r is data.toNat) : exec (.maskedWrite ini a data) s = .next (s.regWrite ini r is (r.adr is) data.toNat) :=
  exec_registerWrite_takes ha h

/-! ### What a write stores -/

/-- A state whose register `r` has taken a write of `d`. -/
def State.stored (s : State) (r : Reg) (is : List Nat) (d : Nat) : State :=
  s.setReg r is (storeBits r.desc (s.writable r is) (s.reg r is) d)

theorem State.onlyRegs_setReg (s : State) (r : Reg) (is : List Nat) (v : Nat) : OnlyRegs s (s.setReg r is v) [r.adr is] :=
  ⟨rfl, fun _ hb => State.rg_setRg_ne (List.ne_of_not_mem_cons hb) s _⟩

theorem OnlyRegs.trans {s t u : State} {as bs : List Nat} (h : OnlyRegs s t as) (h' : OnlyRegs t u bs) : OnlyRegs s u (as ++ bs) := by
  obtain ⟨ht, hrg⟩ := h
  obtain ⟨hu, hrg'⟩ := h'
  refine ⟨by rw [hu, ht], fun a ha => ?_⟩
  rw [List.mem_append, not_or] at ha
  rw [hrg' a ha.2, hrg a ha.1]

theorem State.wf_stored {s : State} (hw : s.regs.wf = true) (r : Reg) (is : List Nat) (d : Nat) : (s.stored r is d).regs.wf = true :=
  State.wf_setReg hw r is _

theorem State.reg_stored_ne {r q : Reg} {is js : List Nat} (h : q.adr js ≠ r.adr is) (s : State) (d : Nat) :
    (s.stored r is d).reg q js = s.reg q js := State.reg_setReg_ne h s _

theorem State.onlyRegs_stored (s : State) (r : Reg) (is : List Nat) (d : Nat) : OnlyRegs s (s.stored r is d) [r.adr is] :=
  s.onlyRegs_setReg r is _

/-- Each bit of a register after a write, by its access code (R13, R39). -/
theorem State.testBit_reg_stored {s : State} (hw : s.regs.wf = true) (r : Reg) (is : List Nat) (d : Nat) {i : Nat} (hi : i < 32) :
    ((s.stored r is d).reg r is).testBit i = writtenBit r.desc (s.writable r is) (s.reg r is) d i := by
  rw [State.stored, State.reg_setReg_same hw, ← BitVec.toNat_ofNat, testBit_stored _ _ _ _ hi]

theorem State.regWrite_quiet {s : State} {ini : Initiator} {r : Reg} {is : List Nat} {d : Nat} (hq : r.quiet = true) (hlo : r.desc.kind ≠ .lo)
    (hhi : r.desc.kind ≠ .hi) : s.regWrite ini r is (r.adr is) d = s.stored r is d := by
  rw [State.regWrite_plain (Reg.quiet_ne_remap hq) hlo hhi, State.writeEffect_quiet hq]
  rfl

/-! ### The setting and the level of a regulator -/

theorem State.regWrite_treg (s : State) (ini : Initiator) (g d : Nat) :
    s.regWrite ini .FAB_TREGg [g] (Reg.adr .FAB_TREGg [g]) d = (s.stored .FAB_TREGg [g] d).cutLevel .FAB_TREGg .FAB_TLVLg g 512 := by
  rw [State.regWrite_plain (by decide) (by decide) (by decide)]
  rfl

theorem adr_treg_ne_tlvl (g : Nat) : Reg.adr .FAB_TREGg [g] ≠ Reg.adr .FAB_TLVLg [g] := by
  change 0x410000 + 4 * g ≠ 0x410400 + 4 * g
  omega

/-- A regulator setting has mask bits only: a bit of the low half takes the data where its mask bit is 1 (R39). -/
theorem writtenBit_treg (s : State) (is : List Nat) (old data : Nat) {i : Nat} (hi : i < 16) :
    writtenBit (Reg.desc .FAB_TREGg) (s.writable .FAB_TREGg is) old data i = if data.testBit (i + 16) then data.testBit i else old.testBit i := by
  have hrw : s.writable .FAB_TREGg is = 0 := rfl
  have hmw : (0xffffffff : Nat).testBit i = true := by
    rw [show (0xffffffff : Nat) = 2 ^ 32 - 1 from rfl, Nat.testBit_two_pow_sub_one]
    exact decide_eq_true (by omega)
  simp [writtenBit, Reg.desc, hmw, hi, hrw]

section CutLevel
variable {cfgR lvlR : Reg} {i : Nat} (hne : cfgR.adr [i] ≠ lvlR.adr [i]) (s : State) (u : Nat)
include hne

/-- The capacity stays as it was written. -/
theorem State.reg_cutLevel_cfg : (s.cutLevel cfgR lvlR i u).reg cfgR [i] = s.reg cfgR [i] := State.reg_setReg_ne hne s _

/-- The level is cut to the capacity (R199). -/
theorem State.reg_cutLevel_lvl (hw : s.regs.wf = true) :
    (s.cutLevel cfgR lvlR i u).reg lvlR [i] = min (s.reg lvlR [i]) (((s.cutLevel cfgR lvlR i u).fld cfgR [i] 15 8 + 1) * u) := by
  have hlt : min (s.reg lvlR [i]) ((s.fld cfgR [i] 15 8 + 1) * u) < 2 ^ 32 := lt_of_le_of_lt (min_le_left _ _) (s.reg_lt lvlR [i])
  rw [State.fld, State.reg_cutLevel_cfg hne, State.cutLevel, State.reg_setReg_same hw, Nat.mod_eq_of_lt hlt, State.fld]

end CutLevel

end Sys2Proof.Machine

open Sys2Proof Sys2Proof.Machine

/-- Settles O3: BROWN_OUT alone can stop, and only above its range. -/
theorem everyCommandAnswers : Obligations.EveryCommandAnswers := by
  intro c s
  by_cases hb : ∃ mV ns, c = .brownOut mV ns
  · obtain ⟨mV, ns, rfl⟩ := hb
    by_cases hmV : 772 < mV
    · exact .inr ⟨mV, ns, rfl, hmV, exec_brownOut_above hmV ns s⟩
    · exact .inl ⟨_, exec_brownOut_within hmV ns s⟩
  · exact .inl (exec_next_of_ne_brownOut (fun mV ns h => hb ⟨mV, ns, h⟩) s)

/-- Settles O6: a quiet register's write is `State.stored`; a regulator setting's is `State.stored` and then the cut of the level. -/
theorem registerWritesStore : Obligations.RegisterWritesStore := by
  refine ⟨fun ini a data s r is hInv ha htk hq hlo hhi => ?_, fun ini a data g s hInv ha htk => ?_⟩
  · obtain ⟨-, hregs, -⟩ := hInv
    refine ⟨s.stored r is data.toNat, ?_, ?_, s.onlyRegs_stored r is _, fun i hi => State.testBit_reg_stored hregs r is _ hi⟩
    · rw [exec_registerWrite_takes ha htk, State.regWrite_quiet hq hlo hhi]
    · rw [exec_maskedWrite_takes ha htk, State.regWrite_quiet hq hlo hhi]
  · obtain ⟨-, hregs, -⟩ := hInv
    have hne := adr_treg_ne_tlvl g.val
    refine ⟨(s.stored .FAB_TREGg [g.val] data.toNat).cutLevel .FAB_TREGg .FAB_TLVLg g.val 512, ?_, fun i hi => ?_, ?_, ?_⟩
    · rw [exec_maskedWrite_takes ha htk, State.regWrite_treg]
    · rw [State.reg_cutLevel_cfg hne, State.testBit_reg_stored hregs _ _ _ (by omega), writtenBit_treg s _ _ _ hi]
    · rw [State.reg_cutLevel_lvl hne _ _ (State.wf_stored hregs _ _ _), State.reg_stored_ne hne.symm]
    · exact (s.onlyRegs_stored .FAB_TREGg _ _).trans (State.onlyRegs_setReg _ .FAB_TLVLg _ _)
end

section
/-! SUPPORT. The statement of counters: what one operation, a batch of operations and a register write do to a counter, and whom they wake. -/

namespace Sys2Proof.Machine
open Sys2Proof

/-! ### The hoop audit writes registers of the cluster windows only -/

/-- Nothing has changed but registers from 0x2000000 up, where the windows of the clusters stand (R48). -/
structure OnlyHighRegs (s u : State) : Prop where
  only : u = { s with regs := u.regs }
  wf : s.regs.wf = true → u.regs.wf = true
  low : ∀ a, a < 0x2000000 → u.rg a = s.rg a

theorem OnlyHighRegs.refl (s : State) : OnlyHighRegs s s := ⟨rfl, id, fun _ _ => rfl⟩

theorem OnlyHighRegs.trans {s t u : State} (h : OnlyHighRegs s t) (h' : OnlyHighRegs t u) : OnlyHighRegs s u :=
  ⟨by rw [h'.only, h.only], h'.wf ∘ h.wf, fun a ha => (h'.low a ha).trans (h.low a ha)⟩

theorem Reg.base_le_adr (r : Reg) (is : List Nat) : r.desc.base ≤ r.adr is := spread_ge r.desc.dims is r.desc.base

theorem State.onlyHighRegs_setReg {r : Reg} (hr : 0x2000000 ≤ r.desc.base) (s : State) (is : List Nat) (v : Nat) : OnlyHighRegs s (s.setReg r is v) := by
  refine ⟨rfl, fun hw => State.wf_setReg hw r is v, fun a ha => State.rg_setRg_ne ?_ s _⟩
  have := r.base_le_adr is
  omega

theorem State.onlyHighRegs_hoopError (s : State) (is : List Nat) (kind started drained : Nat) : OnlyHighRegs s (s.hoopError is kind started drained) := by
  have hLog : 0x2000000 ≤ (Reg.desc .CLU_HOOPh_LOG).base := by decide
  have hTally : 0x2000000 ≤ (Reg.desc .CLU_HOOPh_TALLY).base := by decide
  unfold State.hoopError
  split
  · exact s.onlyHighRegs_setReg hLog is _
  · exact (s.onlyHighRegs_setReg hLog is _).trans (State.onlyHighRegs_setReg hTally _ is _)

theorem State.onlyHighRegs_hoopExamine (s : State) (k : Nat) (isSet : Bool) (e : Nat × Hoop) : OnlyHighRegs s (s.hoopExamine k isSet e) := by
  unfold State.hoopExamine
  dsimp only
  split_ifs
  · exact .refl s
  · exact s.onlyHighRegs_hoopError ..
  · exact s.onlyHighRegs_hoopError ..
  · exact s.onlyHighRegs_hoopError ..
  · exact .refl s

theorem State.onlyHighRegs_audit (k : Nat) (isSet : Bool) (es : List (Nat × Hoop)) (s : State) :
    OnlyHighRegs s (es.foldl (fun s e => s.hoopExamine k isSet e) s) := by
  induction es generalizing s with
  | nil => exact .refl s
  | cons e es ih => exact (s.onlyHighRegs_hoopExamine k isSet e).trans (ih _)

/-! ### Operations on one counter -/

/-- The value that an operation gives a counter that holds `old` (R170). -/
def CtrOp.result (op : CtrOp) (old : Nat) : Nat :=
  match op with
  | .add x => (old + x) % 2 ^ 32
  | .set x => x % 2 ^ 32

/-- The old value that an operation sends back, where a register waits for it (R131). -/
def CtrMsg.oldVals (m : CtrMsg) (old : Nat) : List OldVal :=
  match m.back with
  | some (b, i, r) => [⟨b, i, r, old⟩]
  | none => []

theorem adr_rntVal_lt {k : Nat} (hk : k < 16384) : Reg.adr .RNT_VALk [k] < 0x2000000 := by
  change 0x1000000 + 0x10 * k < 0x2000000
  omega

/-- Operations on counter `k` have left it at `v`: beside it only the hoop records and the old values on their way have changed. -/
structure CounterLeft (s u : State) (k v : Nat) : Prop where
  only : u = { s with regs := u.regs, fab := { s.fab with olds := u.fab.olds } }
  wf : u.regs.wf = true
  val : u.reg .RNT_VALk [k] = v
  low : ∀ a, a < 0x2000000 → a ≠ Reg.adr .RNT_VALk [k] → u.rg a = s.rg a

theorem CounterLeft.refl {s : State} (hw : s.regs.wf = true) (k : Nat) : CounterLeft s s k (s.reg .RNT_VALk [k]) := ⟨rfl, hw, rfl, fun _ _ _ => rfl⟩

theorem CounterLeft.trans {s t u : State} {k v w : Nat} (h : CounterLeft s t k v) (h' : CounterLeft t u k w) : CounterLeft s u k w :=
  ⟨by rw [h'.only, h.only], h'.wf, h'.val, fun a ha hne => (h'.low a ha hne).trans (h.low a ha hne)⟩

theorem CounterLeft.setOlds {s u : State} {k v : Nat} (h : CounterLeft s u k v) (os : List OldVal) :
    CounterLeft s { u with fab := { u.fab with olds := os } } k v :=
  ⟨by rw [h.only], h.wf, h.val, h.low⟩

theorem CounterLeft.mem {s u : State} {k v : Nat} (h : CounterLeft s u k v) : u.mem = s.mem := by rw [h.only]
theorem CounterLeft.ops {s u : State} {k v : Nat} (h : CounterLeft s u k v) : u.fab.ops = s.fab.ops := by rw [h.only]
theorem CounterLeft.tiles {s u : State} {k v : Nat} (h : CounterLeft s u k v) : u.tiles = s.tiles := by rw [h.only]

/-- An operation is a write of the counter, after which the audit examines it (R170, R178). -/
theorem State.counterOp_eq (s : State) (k : Nat) (op : CtrOp) :
    ∃ isSet, s.counterOp k op = s.fab.hoops.entries.foldl (fun s e => s.hoopExamine k isSet e)
      (s.setReg .RNT_VALk [k] (op.result (s.reg .RNT_VALk [k]))) := by
  cases op with
  | add x => exact ⟨false, rfl⟩
  | set x => exact ⟨true, rfl⟩

theorem CtrOp.result_lt (op : CtrOp) (old : Nat) : op.result old < 2 ^ 32 := by
  cases op with
  | add x => exact Nat.mod_lt _ (by decide)
  | set x => exact Nat.mod_lt _ (by decide)

theorem State.onlyHighRegs_counterOp (s : State) (k : Nat) (op : CtrOp) :
    OnlyHighRegs (s.setReg .RNT_VALk [k] (op.result (s.reg .RNT_VALk [k]))) (s.counterOp k op) := by
  obtain ⟨isSet, h⟩ := s.counterOp_eq k op
  rw [h]
  exact State.onlyHighRegs_audit k isSet _ _

theorem State.counterOp_fab (s : State) (k : Nat) (op : CtrOp) : (s.counterOp k op).fab = s.fab := by
  rw [(s.onlyHighRegs_counterOp k op).only]
  rfl

theorem State.counterLeft_counterOp {s : State} (hw : s.regs.wf = true) {k : Nat} (hk : k < 16384) (op : CtrOp) :
    CounterLeft s (s.counterOp k op) k (op.result (s.reg .RNT_VALk [k])) := by
  obtain ⟨honly, hwf, hlow⟩ := s.onlyHighRegs_counterOp k op
  refine ⟨?_, hwf (State.wf_setReg hw ..), ?_, fun a ha hne => ?_⟩
  · rw [honly]
    rfl
  · have hval := State.reg_setReg_same hw .RNT_VALk [k] (op.result (s.reg .RNT_VALk [k]))
    rw [Nat.mod_eq_of_lt (op.result_lt _)] at hval
    exact (congrArg BitVec.toNat (hlow _ (adr_rntVal_lt hk))).trans hval
  · rw [hlow a ha]
    exact State.rg_setRg_ne hne s _

/-! ### A batch of operations -/

/-- One message of a batch takes effect, and the old value that it asks for starts back (R131, R132). -/
def State.counterMsg (k : Nat) (s : State) (m : CtrMsg) : State :=
  match m.back with
  | some (b, i, r) =>
    { s.counterOp k m.op with
      fab := { (s.counterOp k m.op).fab with olds := (s.counterOp k m.op).fab.olds ++ [⟨b, i, r, s.reg .RNT_VALk [k]⟩] } }
  | none => s.counterOp k m.op

theorem State.counterBatch_eq (s : State) (k : Nat) (ms : List CtrMsg) :
    s.counterBatch k ms = ((sortBy (fun (m : CtrMsg) => m.order) ms).foldl (State.counterMsg k) s).wakeCounter k := rfl

theorem State.counterMsg_olds (k : Nat) (s : State) (m : CtrMsg) : (s.counterMsg k m).fab.olds = s.fab.olds ++ m.oldVals (s.reg .RNT_VALk [k]) := by
  unfold State.counterMsg CtrMsg.oldVals
  cases m.back with
  | none => simp [State.counterOp_fab]
  | some b => simp [State.counterOp_fab]

theorem State.counterLeft_counterMsg {s : State} (hw : s.regs.wf = true) {k : Nat} (hk : k < 16384) (m : CtrMsg) :
    CounterLeft s (s.counterMsg k m) k (m.op.result (s.reg .RNT_VALk [k])) := by
  have hop := State.counterLeft_counterOp hw hk m.op
  unfold State.counterMsg
  cases m.back with
  | none => exact hop
  | some b => exact hop.setOlds _

theorem State.counterLeft_foldl {k : Nat} (hk : k < 16384) (ms : List CtrMsg) {s : State} (hw : s.regs.wf = true) :
    CounterLeft s (ms.foldl (State.counterMsg k) s) k (ms.foldl (fun v m => m.op.result v) (s.reg .RNT_VALk [k])) := by
  induction ms generalizing s with
  | nil => exact .refl hw k
  | cons m ms ih =>
    have hm := State.counterLeft_counterMsg hw hk m
    have hrest := ih hm.wf
    rw [hm.val] at hrest
    exact hm.trans hrest

/-! ### Waking -/

theorem lookupKey_map {α β : Type} (f : Nat → α → β) (es : List (Nat × α)) (k : Nat) :
    lookupKey (es.map (fun e => (e.1, f e.1 e.2))) k = (lookupKey es k).map (f k) := by
  induction es with
  | nil => rfl
  | cons e es ih =>
    obtain ⟨a, v⟩ := e
    by_cases h : a = k
    · simp [lookupKey, h]
    · simp [lookupKey, h, ih]

/-- A context of the state that `f` has passed through; one that no table lists is `Ctx.zero`, which `f` must keep. -/
theorem State.ctxOf_mapCtx {f : Nat → Nat → Ctx → Ctx} {t k : Nat} (hf : f t k Ctx.zero = Ctx.zero) (s : State) :
    (s.mapCtx f).ctxOf t k = f t k (s.ctxOf t k) := by
  have htile := lookupKey_map (fun t (x : Tile) => { x with ctx := ⟨x.ctx.entries.map (fun (p : Nat × Ctx) => (p.1, f t p.1 p.2))⟩ }) s.tiles.entries t
  unfold State.ctxOf State.tile Tab.get Tab.find State.mapCtx
  rw [htile]
  cases lookupKey s.tiles.entries t with
  | none => exact hf.symm
  | some x =>
    change (lookupKey (x.ctx.entries.map (fun p => (p.1, f t p.1 p.2))) k).getD Ctx.zero = f t k ((lookupKey x.ctx.entries k).getD Ctx.zero)
    rw [lookupKey_map (f t)]
    cases lookupKey x.ctx.entries k with
    | none => exact hf.symm
    | some c => rfl

theorem State.ctxOf_wakeCounter (s : State) (k t c : Nat) :
    (s.wakeCounter k).ctxOf t c = (s.ctxOf t c).wakeOn k (s.reg .RNT_VALk [k]) :=
  State.ctxOf_mapCtx (f := fun _ _ c => c.wakeOn k (s.reg .RNT_VALk [k])) rfl s

@[simp] theorem State.wakeCounter_mem (s : State) (k : Nat) : (s.wakeCounter k).mem = s.mem := rfl
@[simp] theorem State.rg_wakeCounter (s : State) (k a : Nat) : (s.wakeCounter k).rg a = s.rg a := rfl
@[simp] theorem State.reg_wakeCounter (s : State) (k : Nat) (r : Reg) (is : List Nat) : (s.wakeCounter k).reg r is = s.reg r is := rfl

/-- A parked context whose threshold the value meets is woken (R131, R132). -/
theorem Ctx.woken_wakeOn {c : Ctx} {ws : List RWord} {k th v : Nat} (hst : c.st = .park) (hheld : c.held = some ws)
    (hwait : c.rnWait ws = some (k, th)) (hth : th ≤ v) : (c.wakeOn k v).woken = true := by
  simp [Ctx.wakeOn, hst, hheld, hwait, hth]

/-! ### One operation as a batch of its own -/

theorem State.counterNow_mem (s : State) (k : Nat) (op : CtrOp) : (s.counterNow k op).mem = s.mem := by
  rw [State.counterNow, State.wakeCounter_mem, (s.onlyHighRegs_counterOp k op).only]
  rfl

theorem State.reg_counterNow {s : State} (hw : s.regs.wf = true) {k : Nat} (hk : k < 16384) (op : CtrOp) :
    (s.counterNow k op).reg .RNT_VALk [k] = op.result (s.reg .RNT_VALk [k]) := by
  rw [State.counterNow, State.reg_wakeCounter, (State.counterLeft_counterOp hw hk op).val]

theorem State.rg_counterNow {s : State} (hw : s.regs.wf = true) {k : Nat} (hk : k < 16384) (op : CtrOp) {a : Nat} (ha : a < 0x2000000)
    (hne : a ≠ Reg.adr .RNT_VALk [k]) : (s.counterNow k op).rg a = s.rg a := by
  rw [State.counterNow, State.rg_wakeCounter, (State.counterLeft_counterOp hw hk op).low a ha hne]

/-! ### The commands -/

theorem exec_counterOpEffect {s : State} (hup : s.up = true) (k : BitVec 14) (n : Nat) :
    exec (.counterOpEffect k n) s = .next (s.counterOpEffect k.toNat n) := congrArg Host.Outcome.next (if_pos hup)

theorem exec_rnOldValueReturn {s : State} (hup : s.up = true) (t : TileId) (c : CtxId) :
    exec (.rnOldValueReturn t c) s = .next (s.oldValueReturn t.val c.val) := congrArg Host.Outcome.next (if_pos hup)

theorem State.counterOpEffect_none {s : State} {k n : Nat} (h : (takeOps k n s.fab.ops).1 = []) : s.counterOpEffect k n = s := if_pos h

theorem State.counterOpEffect_batch {s : State} {k n : Nat} {now rest : List CtrMsg} (h : takeOps k n s.fab.ops = (now, rest)) (hne : now ≠ [])
    (hrun : 14336 ≤ k ∨ s.clusterRuns (k / 3584) = true) :
    s.counterOpEffect k n = ({ s with fab := { s.fab with ops := rest } }).counterBatch k now := by
  have hawake : ¬ (k < 14336 ∧ (!s.clusterRuns (k / 3584)) = true) := by
    rintro ⟨hlt, hsleep⟩
    rcases hrun with hglobal | hlocal
    · omega
    · simp [hlocal] at hsleep
  simp only [State.counterOpEffect, h, hne, hawake, if_false]

theorem State.oldValueReturn_some {s : State} {t k : Nat} {o : OldVal} {rest : List OldVal}
    (h : takeFirst (fun (o : OldVal) => o.tile == t && o.ctx == k) s.fab.olds = some (o, rest)) :
    s.oldValueReturn t k =
      ({ s with fab := { s.fab with olds := rest } }).updCtx t k (fun c => { c.wrS o.rv (BitVec.ofNat 64 o.val) with oldWait := false }) := by
  simp only [State.oldValueReturn, h]

/-! ### Writes of VAL and ADD -/

/-- A register without a bit that a write sets, clears or selects keeps its value where its RW fields do not take the write. -/
theorem storeBits_keeps {d : RegDesc} (hclr : d.clr = 0) (hmw : d.mw = 0) (hs : d.w1s = 0) (hc : d.w1c = 0) (old data : Nat) :
    storeBits d 0 old data = old :=
  Nat.eq_of_testBit_eq fun i => by simp [storeBits_writtenBit, writtenBit, hclr, hmw, hs, hc]

theorem State.rg_stored_of_keeps {s : State} (hw : s.regs.wf = true) {r : Reg} {is : List Nat} {d : Nat}
    (hkeep : storeBits r.desc (s.writable r is) (s.reg r is) d = s.reg r is) (a : Nat) : (s.stored r is d).rg a = s.rg a := by
  by_cases ha : a = r.adr is
  · rw [ha, State.stored, hkeep, State.setReg, State.rg_setRg_same hw, State.reg, BitVec.ofNat_toNat, BitVec.setWidth_eq]
  · exact State.rg_setRg_ne ha s _

theorem State.regWrite_rntVal (s : State) (ini : Initiator) (k d : Nat) :
    s.regWrite ini .RNT_VALk [k] (Reg.adr .RNT_VALk [k]) d = (s.stored .RNT_VALk [k] d).counterNow k (.set d) := by
  rw [State.regWrite_plain (by decide) (by decide) (by decide)]
  rfl

theorem State.regWrite_rntAdd (s : State) (ini : Initiator) (k d : Nat) :
    s.regWrite ini .RNT_ADDk [k] (Reg.adr .RNT_ADDk [k]) d = (s.stored .RNT_ADDk [k] d).counterNow k (.add d) := by
  rw [State.regWrite_plain (by decide) (by decide) (by decide)]
  rfl

/-- VAL and ADD store nothing themselves: the counter changes by the operation that a write of them starts, and no other register below the clusters does. -/
theorem State.counterNow_stored {s : State} (hw : s.regs.wf = true) {k : Nat} (hk : k < 16384) {r : Reg} {d : Nat}
    (hkeep : storeBits r.desc (s.writable r [k]) (s.reg r [k]) d = s.reg r [k]) (op : CtrOp) :
    ((s.stored r [k] d).counterNow k op).reg .RNT_VALk [k] = op.result (s.reg .RNT_VALk [k]) ∧ ((s.stored r [k] d).counterNow k op).mem = s.mem ∧
      ∀ a, a < 0x2000000 → a ≠ Reg.adr .RNT_VALk [k] → ((s.stored r [k] d).counterNow k op).rg a = s.rg a := by
  have hrg := State.rg_stored_of_keeps hw hkeep
  have hws := State.wf_stored hw r [k] d
  refine ⟨?_, State.counterNow_mem _ k op, fun a ha hne => ?_⟩
  · rw [State.reg_counterNow hws hk, State.reg, hrg, State.reg]
  · rw [State.rg_counterNow hws hk op ha hne, hrg]

theorem exec_rntValWrite_takes {s : State} (hw : s.regs.wf = true) {ini : Initiator} {k : BitVec 14} {data : Word}
    (h : s.takes ini .RNT_VALk [k.toNat] data.toNat) :
    ∃ u, exec (.rntValWrite ini k data) s = .next u ∧ u.reg .RNT_VALk [k.toNat] = data.toNat ∧ u.mem = s.mem ∧
      ∀ a, a < 0x2000000 → a ≠ Reg.adr .RNT_VALk [k.toNat] → u.rg a = s.rg a := by
  obtain ⟨hval, hmem, hlow⟩ :=
    State.counterNow_stored hw k.isLt (r := .RNT_VALk) (d := data.toNat) (storeBits_keeps rfl rfl rfl rfl _ _) (.set data.toNat)
  refine ⟨_, (live_wr h).trans (congrArg Host.Outcome.next (s.regWrite_rntVal ini _ _)), ?_, hmem, hlow⟩
  rw [hval]
  exact Nat.mod_eq_of_lt data.isLt

theorem exec_rntAddWrite_takes {s : State} (hw : s.regs.wf = true) {ini : Initiator} {k : BitVec 14} {data : Word}
    (h : s.takes ini .RNT_ADDk [k.toNat] data.toNat) :
    ∃ u, exec (.rntAddWrite ini k data) s = .next u ∧ u.reg .RNT_VALk [k.toNat] = (s.reg .RNT_VALk [k.toNat] + data.toNat) % 2 ^ 32 ∧ u.mem = s.mem ∧
      ∀ a, a < 0x2000000 → a ≠ Reg.adr .RNT_VALk [k.toNat] → u.rg a = s.rg a :=
  ⟨_, (live_wr h).trans (congrArg Host.Outcome.next (s.regWrite_rntAdd ini _ _)),
    State.counterNow_stored hw k.isLt (r := .RNT_ADDk) (d := data.toNat) (storeBits_keeps rfl rfl rfl rfl _ _) (.add data.toNat)⟩

end Sys2Proof.Machine

open Sys2Proof Sys2Proof.Machine

/-- Settles O31: a batch is a fold of `State.counterMsg` in the order of the initiators, each of which leaves the counter at `CtrOp.result`, and then a wake of the
waiters; a write of VAL or ADD is one operation. -/
theorem countersCountAndWake : Obligations.CountersCountAndWake := by
  intro ini k n data t c s hup hInv _
  obtain ⟨-, hregs, -⟩ := hInv
  refine ⟨fun hnone => ?_, fun now rest htake hne hrun => ?_, fun o rest htake => ?_, exec_rntValWrite_takes hregs, exec_rntAddWrite_takes hregs⟩
  · rw [exec_counterOpEffect hup, State.counterOpEffect_none hnone]
  · have hleft := State.counterLeft_foldl k.isLt (sortBy (fun (m : CtrMsg) => m.order) now) (s := { s with fab := { s.fab with ops := rest } }) hregs
    have hexec := exec_counterOpEffect hup k n
    rw [State.counterOpEffect_batch htake hne hrun, State.counterBatch_eq] at hexec
    refine ⟨_, _, hexec, hleft.val, hleft.mem, hleft.ops, rfl, ?_, fun ws th hst hheld hwait hth => ?_, hleft.low⟩
    · rintro m rfl
      exact State.counterMsg_olds _ _ m
    · rw [State.ctxOf_wakeCounter, hleft.val, State.ctxOf, State.tile, hleft.tiles]
      exact Ctx.woken_wakeOn hst hheld hwait hth
  · rw [exec_rnOldValueReturn hup, State.oldValueReturn_some htake]
    exact ⟨_, rfl, rfl, State.ctxOf_updCtx_same .., rfl, fun x hx => State.tile_updTile_ne hx _ _⟩
end

section
/-! SUPPORT. The statements of the sweep unit: enable and disable, the wrap, one cycle, and SYNC_IDX pulses (R56 to R74). -/

namespace Sys2Proof.Machine
open Sys2Proof

/-! ### The writes of SWP_CTRL, SWP_CNTCLR and SWP_MISS_POP -/

theorem State.flag_stored {s : State} (hw : s.regs.wf = true) (r : Reg) (is : List Nat) (d : Nat) {i : Nat} (hi : i < 32) :
    (s.stored r is d).flag r is i = writtenBit r.desc (s.writable r is) (s.reg r is) d i := by
  rw [State.flag, bit_eq, State.testBit_reg_stored hw r is d hi]

theorem State.rg_stored_ne {r : Reg} {is : List Nat} {a : Nat} (h : a ≠ r.adr is) (s : State) (d : Nat) : (s.stored r is d).rg a = s.rg a :=
  State.rg_setRg_ne h s _

/-- EN, SRC and FREE take the data. -/
theorem State.flag_stored_swpCtrl {s : State} (hw : s.regs.wf = true) (d : Nat) {i : Nat} (hi : i < 3) :
    (s.stored .SWP_CTRL [] d).flag .SWP_CTRL [] i = d.testBit i := by
  have hrw : (7 : Nat).testBit i = true := by
    rw [show (7 : Nat) = 2 ^ 3 - 1 from rfl, Nat.testBit_two_pow_sub_one]
    exact decide_eq_true hi
  have hrw' : s.writable .SWP_CTRL [] = 7 := rfl
  rw [State.flag_stored hw _ _ _ (by omega)]
  simp [writtenBit, Reg.desc, hrw, hrw']

theorem State.regWrite_swpCtrl (s : State) (ini : Initiator) (d : Nat) :
    s.regWrite ini .SWP_CTRL [] (Reg.adr .SWP_CTRL []) d = (s.stored .SWP_CTRL [] d).swpCtrlWritten (s.reg .SWP_CTRL []) := by
  rw [State.regWrite_plain (by decide) (by decide) (by decide)]
  rfl

theorem State.swpCtrlWritten_start {s : State} {old : Nat} (hold : bit old 0 = false) (hen : s.swpEn = true) : s.swpCtrlWritten old = s.sweepStart := by
  have hnew : bit (s.reg .SWP_CTRL []) 0 = true := hen
  simp [State.swpCtrlWritten, hold, hnew]

theorem State.swpCtrlWritten_stop {s : State} {old : Nat} (hold : bit old 0 = true) (hen : s.swpEn = false) : s.swpCtrlWritten old = s.sweepStop := by
  have hnew : bit (s.reg .SWP_CTRL []) 0 = false := hen
  simp [State.swpCtrlWritten, hold, hnew]

theorem State.regWrite_swpCntclr (s : State) (ini : Initiator) :
    s.regWrite ini .SWP_CNTCLR [] (Reg.adr .SWP_CNTCLR []) 1 = ((s.stored .SWP_CNTCLR [] 1).setReg .SWP_CNT0 [] 0).setReg .SWP_CNT1 [] 0 := by
  rw [State.regWrite_plain (by decide) (by decide) (by decide)]
  rfl

theorem State.regWrite_swpMissPop (s : State) (ini : Initiator) :
    s.regWrite ini .SWP_MISS_POP [] (Reg.adr .SWP_MISS_POP []) 1 =
      (s.stored .SWP_MISS_POP [] 1).updSwp (fun w => { w with miss := w.miss.drop 1 }) := by
  rw [State.regWrite_plain (by decide) (by decide) (by decide)]
  rfl

/-! ### What a deadline check leaves as it is -/

/-- Misses change the deadline store and the miss FIFO of the sweep unit, and neither memory nor a tile. -/
structure KeepsSweep (s u : State) : Prop where
  swp : u.swp = { s.swp with store := u.swp.store, miss := u.swp.miss }
  mem : u.mem = s.mem
  tiles : u.tiles = s.tiles

theorem KeepsSweep.refl (s : State) : KeepsSweep s s := ⟨rfl, rfl, rfl⟩

theorem KeepsSweep.trans {s t u : State} (h : KeepsSweep s t) (h' : KeepsSweep t u) : KeepsSweep s u :=
  ⟨by rw [h'.swp, h.swp], h'.mem.trans h.mem, h'.tiles.trans h.tiles⟩

theorem KeepsSweep.foldl {α : Type} {f : State → α → State} (hf : ∀ s x, KeepsSweep s (f s x)) (xs : List α) (s : State) : KeepsSweep s (xs.foldl f s) := by
  induction xs generalizing s with
  | nil => exact .refl s
  | cons x xs ih => exact (hf s x).trans (ih _)

theorem KeepsSweep.foldState {f : State → Nat → State} (hf : ∀ s i, KeepsSweep s (f s i)) (is : List Nat) (s : State) : KeepsSweep s (foldState f s is) := by
  induction is generalizing s with
  | nil => exact .refl s
  | cons i is ih => exact (hf s i).trans (ih _)

/-- A request of the kill unit adds to the pending kills and changes nothing else. -/
theorem State.killRequest_only (s : State) (j : Nat) :
    s.killRequest j = { s with fab := { s.fab with killPend := (s.killRequest j).fab.killPend } } := by
  unfold State.killRequest
  split <;> rfl

/-- The report of a miss: its queue's count, the event flag, the miss FIFO, class DEADLINE (R72, R73). -/
def State.missReport (s : State) (e : DlEnt) (n p : Nat) : State :=
  let act := s.missAct e.queue e.tag
  let s := s.satInc .SWP_QCFGq [e.queue] 31 16 1
  let s := s.setFlag .SWP_EVT [] 2 true
  let s := if s.swp.miss.length < 64 then s.updSwp (fun w => { w with miss := w.miss ++ [⟨act, e.queue, p, e.tag, n⟩] })
           else s.setFlag .SWP_EVT [] 3 true
  s.signalU 1 act e.queue 0 e.tag

/-- A miss under FLAG stays in the deadline store (R72). -/
def State.missFlag (s : State) (e : DlEnt) : State :=
  s.updSwp (fun w => { w with store := updFirst (fun d => d.jid == e.jid) (fun d => { d with missed := true }) w.store })

/-- A miss under DROP or SUBST takes the deadline out of the store and the job out of the queue (R72). -/
def State.missDrop (s : State) (e : DlEnt) (act : Nat) : State :=
  let s := s.updSwp (fun w => { w with store := w.store.filter (fun d => d.jid ≠ e.jid) })
  let s := { s with fw := { s.fw with jobs := updFirst (fun j => j.jid == e.jid) (fun j => { j with miss := some (act + 1), launch := [] }) s.fw.jobs } }
  s.killRequest e.jid

theorem State.miss_eq (s : State) (e : DlEnt) (n p : Nat) :
    s.miss e n p =
      if s.missAct e.queue e.tag = 0 then (s.missReport e n p).missFlag e else (s.missReport e n p).missDrop e (s.missAct e.queue e.tag) := rfl

theorem State.keepsSweep_missReport (s : State) (e : DlEnt) (n p : Nat) : KeepsSweep s (s.missReport e n p) := by
  unfold State.missReport
  dsimp only
  split_ifs <;> exact ⟨rfl, rfl, rfl⟩

theorem State.keepsSweep_missDrop (s : State) (e : DlEnt) (act : Nat) : KeepsSweep s (s.missDrop e act) := by
  rw [State.missDrop, State.killRequest_only]
  exact ⟨rfl, rfl, rfl⟩

theorem State.keepsSweep_miss (s : State) (e : DlEnt) (n p : Nat) : KeepsSweep s (s.miss e n p) := by
  rw [State.miss_eq]
  split_ifs
  · exact (s.keepsSweep_missReport e n p).trans ⟨rfl, rfl, rfl⟩
  · exact (s.keepsSweep_missReport e n p).trans (State.keepsSweep_missDrop _ e _)

theorem State.keepsSweep_monitors (s : State) (q : Nat) (missed : Bool) : KeepsSweep s (s.monitors q missed) := by
  refine KeepsSweep.foldState (fun s m => ?_) _ s
  dsimp only
  split_ifs <;> exact ⟨rfl, rfl, rfl⟩

theorem State.keepsSweep_wrapCheck (s : State) (n : Nat) : KeepsSweep s (s.wrapCheck n) :=
  (KeepsSweep.foldl (fun s e => s.keepsSweep_miss e n 65535) _ s).trans (KeepsSweep.foldl (fun s q => s.keepsSweep_monitors q true) _ _)

/-! ### The wrap -/

/-- The sweep unit at a wrap, before the implicit deadline check (R56, R69). -/
def State.wrapped (s : State) : State :=
  s.updSwp (fun w =>
    { w with pos := w.pos - sweepLen, count := (s.swp.count + 1) % 2 ^ 64, fired := [], late := [],
             left := w.left ++ s.openEntries.map (s.leftOf s.swp.count) })

theorem State.wrapped_swp (s : State) :
    s.wrapped.swp = { s.swp with pos := s.swp.pos - sweepLen, count := (s.swp.count + 1) % 2 ^ 64, fired := [], late := [],
                                 left := s.swp.left ++ s.openEntries.map (s.leftOf s.swp.count) } := rfl

theorem State.wrapped_mem (s : State) : s.wrapped.mem = s.mem := s.updSwp_mem _
theorem State.wrapped_tiles (s : State) : s.wrapped.tiles = s.tiles := s.updSwp_tiles _

/-- A wrap is `State.wrapped` but for what deadline checks change and for how the unit follows SYNC_IDX. -/
theorem State.wrap_cases (s : State) :
    ∃ u, KeepsSweep s.wrapped u ∧ s.wrap.mem = u.mem ∧ s.wrap.tiles = u.tiles ∧
      s.wrap.swp = { u.swp with st := s.wrap.swp.st, wraps := s.wrap.swp.wraps, pulseSeen := s.wrap.swp.pulseSeen } := by
  refine ⟨s.wrapped.wrapCheck s.swp.count, s.wrapped.keepsSweep_wrapCheck s.swp.count, ?_⟩
  unfold State.wrap
  dsimp only
  split_ifs <;> exact ⟨rfl, rfl, rfl⟩

theorem State.phaseWrap_of_reached {s : State} (hrun : s.swp.running = true) (hpos : 2 ^ 32 ≤ s.swp.pos) : s.phaseWrap = s.wrap := if_pos ⟨hrun, hpos⟩

theorem State.phaseWrap_of_not_reached {s : State} (h : s.swp.running = false ∨ s.swp.pos < 2 ^ 32) : s.phaseWrap = s := by
  refine if_neg ?_
  rintro ⟨hrun, hpos⟩
  rcases h with h | h
  · simp [hrun] at h
  · exact absurd hpos (by simpa [sweepLen] using h)

/-! ### One sweep cycle -/

/-- The clocks of a sweep cycle: the cycle count, and vehicle time while the timebase runs (log 20). -/
def State.clockTick (s : State) : State :=
  let s := s.updSwp (fun w => { w with cycle := w.cycle + 1 })
  if s.tbRuns then { s with net := { s.net with time := s.net.time + 4 } } else s

theorem State.clockTick_eq (s : State) :
    s.clockTick = { s with swp := { s.swp with cycle := s.swp.cycle + 1 },
                           net := { s.net with time := if s.net.tb = .disabled then s.net.time else s.net.time + 4 } } := by
  by_cases h : s.net.tb = .disabled
  · rw [if_pos h]
    exact if_neg (by simp [State.tbRuns, State.updSwp, h])
  · simp [State.clockTick, State.tbRuns, State.updSwp, h]

theorem State.sweepCycle_eq (s : State) :
    s.sweepCycle =
      if !s.clockTick.swpEn then s.clockTick
      else
        let t := s.clockTick.phaseWrap
        let t := if t.swp.running then t.selectEntry else t
        if t.swpIdx then t.idxCycle else t.gptpCycle := rfl

theorem State.selectEntry_of_none {s : State} (hleft : s.swp.left = []) (hopen : s.openEntries = []) : s.selectEntry = s := by
  simp [State.selectEntry, hleft, hopen]

/-- Without a synchronised timebase a unit in HOLDOVER goes on at the rate it has (R61). -/
theorem State.gptpCycle_holdover {s : State} (hrun : s.swp.running = true) (hst : s.swp.st = .holdover) (hsync : s.net.tb ≠ .sync) :
    s.gptpCycle = s.nominal := by
  have hs : s.tbSync = false := by simpa [State.tbSync] using hsync
  simp [State.gptpCycle, hrun, hst, hs]

/-- What a step adds to the position, and the remainder it keeps, make up the whole way of the cycle (log 12). -/
theorem stepPos_exact (rate k pos rem : Nat) : (stepPos rate k pos rem).1 * rate + (stepPos rate k pos rem).2 = pos * rate + rem + 2 ^ 33 * k := by
  have h := Nat.div_add_mod' (2 ^ 33 * k + rem) rate
  simp only [stepPos, Nat.add_mul]
  omega

theorem State.sweepCycle_holdover {s : State} (hen : s.swpEn = true) (hidx : s.swpIdx = false) (hrun : s.swp.running = true)
    (hst : s.swp.st = .holdover) (hsync : s.net.tb ≠ .sync) (hpos : s.swp.pos < 2 ^ 32) (hleft : s.swp.left = []) (hopen : s.openEntries = []) :
    s.sweepCycle = s.clockTick.nominal := by
  have hen' : s.clockTick.swpEn = true := by rw [State.clockTick_eq]; exact hen
  have hidx' : s.clockTick.swpIdx = false := by rw [State.clockTick_eq]; exact hidx
  have hrun' : s.clockTick.swp.running = true := by rw [State.clockTick_eq]; exact hrun
  have hst' : s.clockTick.swp.st = .holdover := by rw [State.clockTick_eq]; exact hst
  have hsync' : s.clockTick.net.tb ≠ .sync := by rw [State.clockTick_eq]; exact hsync
  have hwrap : s.clockTick.phaseWrap = s.clockTick := State.phaseWrap_of_not_reached (.inr (by rw [State.clockTick_eq]; exact hpos))
  have hsel : s.clockTick.selectEntry = s.clockTick :=
    State.selectEntry_of_none (by rw [State.clockTick_eq]; exact hleft) (by rw [State.clockTick_eq]; exact hopen)
  simp [State.sweepCycle_eq, hen', hwrap, hrun', hsel, hidx', State.gptpCycle_holdover hrun' hst' hsync']

/-! ### SYNC_IDX pulses -/

theorem State.syncPulse_ignored {s : State} {stamp width : Nat} {falling : Bool}
    (h : s.swpEn = false ∨ s.swpIdx = false ∨ width < 100 ∨ falling ≠ s.flag .SWP_IDX [] 0) : s.syncPulse stamp width falling = s := by
  refine if_pos ?_
  rcases h with h | h | h | h <;> simp [h]

section
variable {s : State} {stamp width : Nat} {falling : Bool} (hen : s.swpEn = true) (hidx : s.swpIdx = true) (hw : 100 ≤ width)
  (hedge : falling = s.flag .SWP_IDX [] 0)
include hen hidx hw hedge

theorem State.syncPulse_first (hacc : s.swp.lastAcc = none) :
    s.syncPulse stamp width falling =
      (s.startSweep .acquire ((s.swp.cycle - stamp) * 2 ^ 34 / s.period) 0 s.period).updSwp
        (fun w => { w with tgt := w.pos, tgtRem := 0, lastAcc := some stamp, lastCand := some stamp, pulseSeen := true }) := by
  have hlt : ¬ width < 100 := by omega
  simp [State.syncPulse, hen, hidx, hlt, hedge, hacc]

theorem State.syncPulse_accepted {last : Nat} (hacc : s.swp.lastAcc = some last) (hlo : 10000000 ≤ (stamp - last) * 4) (hhi : (stamp - last) * 4 ≤ 1000000000)
    (hagree : agrees (s.fld .SWP_IDX [] 23 8) ((stamp - last) * 4) (s.swp.lastI.getD s.period) = true) :
    s.syncPulse stamp width falling = s.acceptPulse stamp ((stamp - last) * 4) := by
  have hlt : ¬ width < 100 := by omega
  simp [State.syncPulse, hen, hidx, hlt, hedge, hacc, hlo, hhi, hagree]

end

theorem clampPeriod_of_mem {p : Nat} (hlo : 10000000 ≤ p) (hhi : p ≤ 1000000000) : clampPeriod p = p := by
  rw [clampPeriod, Nat.min_eq_right hhi, Nat.max_eq_right hlo]

/-! ### The commands -/

theorem exec_phaseWrap {s : State} (hup : s.up = true) : exec .phaseWrap s = .next s.phaseWrap := congrArg Host.Outcome.next (if_pos hup)
theorem exec_sweepCycle {s : State} (hup : s.up = true) : exec .sweepCycle s = .next s.sweepCycle := congrArg Host.Outcome.next (if_pos hup)
theorem exec_syncIdxPulse {s : State} (hup : s.up = true) (stamp width : Nat) (falling : Bool) :
    exec (.syncIdxPulse stamp width falling) s = .next (s.syncPulse stamp width falling) := congrArg Host.Outcome.next (if_pos hup)

theorem exec_swpEnable_takes {s : State} (hw : s.regs.wf = true) {ini : Initiator} {data : Word} (h : s.takes ini .SWP_CTRL [] (putBits data.toNat 0 0 1))
    (hoff : s.swpEn = false) : exec (.swpEnable ini data) s = .next (s.stored .SWP_CTRL [] (putBits data.toNat 0 0 1)).sweepStart := by
  have hen : (s.stored .SWP_CTRL [] (putBits data.toNat 0 0 1)).swpEn = true := by
    rw [State.swpEn, State.flag_stored_swpCtrl hw _ (by decide), testBit_putBits]
    rfl
  rw [← State.swpCtrlWritten_start (old := s.reg .SWP_CTRL []) hoff hen, ← State.regWrite_swpCtrl]
  exact live_wr h

theorem exec_swpDisable_takes {s : State} (hw : s.regs.wf = true) {ini : Initiator} {data : Word} (h : s.takes ini .SWP_CTRL [] (putBits data.toNat 0 0 0))
    (hon : s.swpEn = true) : exec (.swpDisable ini data) s = .next (s.stored .SWP_CTRL [] (putBits data.toNat 0 0 0)).sweepStop := by
  have hen : (s.stored .SWP_CTRL [] (putBits data.toNat 0 0 0)).swpEn = false := by
    rw [State.swpEn, State.flag_stored_swpCtrl hw _ (by decide), testBit_putBits]
    rfl
  rw [← State.swpCtrlWritten_stop (old := s.reg .SWP_CTRL []) hon hen, ← State.regWrite_swpCtrl]
  exact live_wr h

end Sys2Proof.Machine

open Sys2Proof Sys2Proof.Machine

/-- Settles O9: a write of SWP_CTRL stores EN, SRC and FREE and then runs `sweepStart` or `sweepStop`; each of the two commands clears registers or pops a record. -/
theorem sweepEnableAndRecords : Obligations.SweepEnableAndRecords := by
  refine ⟨fun ini data s hInv => ?_, fun ini s hInv => ?_⟩
  · obtain ⟨-, hregs, -⟩ := hInv
    refine ⟨fun htk hoff => ?_, fun htk hon => ?_⟩
    · have hflag := fun {i} => State.flag_stored_swpCtrl hregs (putBits data.toNat 0 0 1) (i := i)
      have hidx : (s.stored .SWP_CTRL [] (putBits data.toNat 0 0 1)).swpIdx = data.toNat.testBit 1 := by
        rw [State.swpIdx, hflag (by decide), testBit_putBits]
        rfl
      refine ⟨_, exec_swpEnable_takes hregs htk hoff, rfl, ?_, hidx, ?_, rfl, rfl, rfl, ?_, rfl, rfl, fun a ha => State.rg_stored_ne ha s _⟩
      · exact (hflag (by decide)).trans (by rw [testBit_putBits]; rfl)
      · exact (hflag (by decide)).trans (by rw [testBit_putBits]; rfl)
      · change (if (s.stored .SWP_CTRL [] (putBits data.toNat 0 0 1)).swpIdx = true then 0 else s.swp.count) = _
        rw [hidx]
    · refine ⟨_, exec_swpDisable_takes hregs htk hon, rfl, ?_, rfl, rfl, rfl, rfl, rfl, rfl, rfl, fun a ha => State.rg_stored_ne ha s _⟩
      exact (State.flag_stored_swpCtrl hregs _ (by decide)).trans (by rw [testBit_putBits]; rfl)
  · obtain ⟨-, hregs, -⟩ := hInv
    refine ⟨fun htk => ?_, fun htk => ?_⟩
    · have hexec := (live_wr htk).trans (congrArg Host.Outcome.next (s.regWrite_swpCntclr ini))
      have hclr := State.wf_stored hregs .SWP_CNTCLR [] 1
      refine ⟨_, hexec, ?_, State.reg_setReg_same (State.wf_setReg hclr ..) .SWP_CNT1 [] 0, ?_⟩
      · rw [State.reg_setReg_ne (by decide), State.reg_setReg_same hclr, Nat.zero_mod]
      · exact ((s.onlyRegs_stored _ _ _).trans (State.onlyRegs_setReg _ .SWP_CNT0 [] 0)).trans (State.onlyRegs_setReg _ .SWP_CNT1 [] 0)
    · exact ⟨_, (live_wr htk).trans (congrArg Host.Outcome.next (s.regWrite_swpMissPop ini)), rfl, rfl,
        fun a ha => State.rg_stored_ne ha s _⟩

/-- Settles O10: a wrap is `State.wrapped` but for the deadline checks, which keep the running sweep; a cycle ticks the clocks and then steps the phase; a pulse is
ignored, starts the sweep, or is accepted. -/
theorem sweepCyclesWrapsAndPulses : Obligations.SweepCyclesWrapsAndPulses := by
  refine ⟨fun s hup => ⟨fun hrun hpos => ?_, fun h => ?_⟩, fun s hup => ⟨fun hoff => ?_, fun hen hidx hrun hst hsync hpos hleft hopen => ?_⟩,
    fun stamp width falling s hup => ⟨fun h => ?_, fun hen hidx hw hedge => ⟨fun hacc => ?_, fun last hacc hlo hhi hagree => ?_⟩⟩⟩
  · obtain ⟨u, hkeep, hmem, htiles, hswp⟩ := s.wrap_cases
    refine ⟨s.wrap, by rw [exec_phaseWrap hup, State.phaseWrap_of_reached hrun hpos], ?_⟩
    rw [hkeep.swp, State.wrapped_swp] at hswp
    rw [hswp, hmem, htiles, hkeep.mem, hkeep.tiles, State.wrapped_mem, State.wrapped_tiles]
    exact ⟨rfl, rfl, rfl, rfl, rfl, rfl, rfl, rfl⟩
  · rw [exec_phaseWrap hup, State.phaseWrap_of_not_reached h]
  · have hoff' : s.clockTick.swpEn = false := by rw [State.clockTick_eq]; exact hoff
    refine ⟨s.clockTick, ?_, ?_⟩
    · rw [exec_sweepCycle hup, State.sweepCycle_eq]
      simp [hoff']
    · rw [State.clockTick_eq]
      exact ⟨rfl, rfl, rfl⟩
  · refine ⟨s.clockTick.nominal, by rw [exec_sweepCycle hup, State.sweepCycle_holdover hen hidx hrun hst hsync hpos hleft hopen], ?_⟩
    rw [State.clockTick_eq]
    exact ⟨hst, rfl, stepPos_exact s.swp.rate 2 s.swp.pos s.swp.rem, rfl, rfl, rfl⟩
  · rw [exec_syncIdxPulse hup, State.syncPulse_ignored h]
  · rw [exec_syncIdxPulse hup, State.syncPulse_first hen hidx hw hedge hacc]
    exact ⟨_, rfl, rfl, rfl, rfl, rfl, rfl⟩
  · rw [exec_syncIdxPulse hup, State.syncPulse_accepted hen hidx hw hedge hacc hlo hhi hagree]
    exact ⟨_, rfl, clampPeriod_of_mem hlo hhi, rfl, rfl, fun hst => if_pos hst, rfl⟩
end

section
/-! SUPPORT. The statements of phase-table entries: what an entry does in the cycle of its effect, and what a deadline check finds missed (R66 to R73). -/

namespace Sys2Proof.Machine
open Sys2Proof

/-! ### An entry in the cycle of its effect -/

/-- The state whose queue of effects is `rest`. -/
def State.withDue (s : State) (rest : List Due) : State := { s with swp := { s.swp with due := rest } }

/-- An entry that no domain has held back takes its effect at once, and leaves the queue (R66, R393). -/
theorem State.fire_due {s : State} {i : Nat} {want : Nat → Bool} {ready : State → Nat → Bool} {f : State → Due → Nat → State} {d : Due} {rest : List Due}
    (hdue : s.dueEntry i want = some (d, rest)) (hheld : d.held = false) (hready : ready s d.hi.toNat = true) :
    s.fire i want ready f = f (s.withDue rest) d d.hi.toNat := by
  simp [State.fire, hdue, hready, hheld, State.withDue, State.updSwp]

theorem live_fire {s : State} {i : Nat} {want : Nat → Bool} {ready : State → Nat → Bool} {f : State → Due → Nat → State} {d : Due} {rest : List Due}
    (hup : s.up = true) (hdue : s.dueEntry i want = some (d, rest)) (hheld : d.held = false) (hready : ready s d.hi.toNat = true) :
    live s (fun s => s.fire i want ready f) = .next (f (s.withDue rest) d d.hi.toNat) :=
  congrArg Host.Outcome.next ((if_pos hup).trans (State.fire_due hdue hheld hready))

theorem State.awake_of_not_cave {s : State} (h : s.prs.cave = false) (p : Nat) : s.awake p = true := by simp [State.awake, h]

/-! ### Actions over a list of units -/

/-- An action done for each of the units below `n` in turn. What each unit shows (`view`) changes by its own turn alone, as `R` says, and `ok` is kept. -/
theorem foldState_eq_foldl (f : State → Nat → State) (s : State) (is : List Nat) : foldState f s is = is.foldl f s := by
  induction is generalizing s with
  | nil => rfl
  | cons i is ih => exact ih (f s i)

theorem foldState_upTo {β : Type} {f : State → Nat → State} {ok : State → Prop} {view : Nat → State → β} {R : Nat → β → β → Prop} {n : Nat}
    (hok : ∀ s i, i < n → ok s → ok (f s i)) (hsame : ∀ s i, i < n → ok s → R i (view i s) (view i (f s i)))
    (hother : ∀ s i j, i < n → j < n → j ≠ i → ok s → view j (f s i) = view j s) {s : State} (hs : ok s) :
    ok (foldState f s (upTo n)) ∧ ∀ j, j < n → R j (view j s) (view j (foldState f s (upTo n))) := by
  have key : ∀ m, m ≤ n → ok (foldState f s (upTo m)) ∧ (∀ j, j < m → R j (view j s) (view j (foldState f s (upTo m)))) ∧
      ∀ j, m ≤ j → j < n → view j (foldState f s (upTo m)) = view j s := by
    intro m
    induction m with
    | zero => exact fun _ => ⟨hs, fun j hj => absurd hj (Nat.not_lt_zero j), fun _ _ _ => rfl⟩
    | succ m ih =>
      intro hm
      obtain ⟨hokm, hdone, htodo⟩ := ih (by omega)
      have hstep : foldState f s (upTo (m + 1)) = f (foldState f s (upTo m)) m := by
        simp only [foldState_eq_foldl, upTo, List.range_succ, List.foldl_append, List.foldl_cons, List.foldl_nil]
      rw [hstep]
      refine ⟨hok _ _ hm hokm, fun j hj => ?_, fun j hj hjn => ?_⟩
      · by_cases hjm : j = m
        · subst hjm
          rw [← htodo j le_rfl hm]
          exact hsame _ j hm hokm
        · rw [hother _ _ _ hm (by omega) hjm hokm]
          exact hdone j (by omega)
      · rw [hother _ _ _ hm hjn (by omega) hokm, htodo j (by omega) hjn]
  exact ⟨(key n le_rfl).1, (key n le_rfl).2.1⟩

/-! ### Fields of a register -/

theorem State.fld_setFld_ne {s : State} (h : s.regs.wf = true) (r : Reg) (is : List Nat) {hi lo hi' lo' : Nat} (hh : hi < 32) (hne : hi' < lo ∨ hi < lo')
    (v : Nat) : (s.setFld r is hi lo v).fld r is hi' lo' = s.fld r is hi' lo' := by
  rw [State.fld, State.reg_setFld_same h r is hh, bits_putBits_ne hne, State.fld]

theorem State.fld_satInc_same {s : State} (h : s.regs.wf = true) (r : Reg) (is : List Nat) {hi : Nat} (hh : hi < 32) (lo n : Nat) :
    (s.satInc r is hi lo n).fld r is hi lo = min (s.fld r is hi lo + n) (2 ^ (hi + 1 - lo) - 1) := by
  have hpos : 0 < 2 ^ (hi + 1 - lo) := Nat.two_pow_pos _
  rw [State.satInc, State.fld_setFld_same h r is hh, satAdd]
  exact Nat.mod_eq_of_lt (by omega)

theorem State.onlyRegs_satInc (s : State) (r : Reg) (is : List Nat) (hi lo n : Nat) : OnlyRegs s (s.satInc r is hi lo n) [r.adr is] :=
  s.onlyRegs_setReg r is _

/-- A low bit of a field that starts at bit 0. -/
theorem bit_bits_low (v : Nat) {hi k : Nat} (h : k ≤ hi) : bit (bits v hi 0) k = v.testBit k := by
  rw [bit_eq, testBit_bits, Nat.zero_add]
  simp [Nat.lt_succ_of_le h]

/-! ### REFRESH and PSTATE -/

theorem adr_lpxRef_ne {i j : Nat} (h : j ≠ i) : Reg.adr .LPX_REFk [j] ≠ Reg.adr .LPX_REFk [i] := by
  change 0x600004 + 0x10000 * j ≠ 0x600004 + 0x10000 * i
  omega

/-- Each channel takes its bit of the mask (R66, R296). -/
theorem State.refreshPermit_spec {s : State} (hw : s.regs.wf = true) (mask : Nat) :
    s.refreshPermit mask = { s with regs := (s.refreshPermit mask).regs } ∧ ∀ k, k < 8 → (s.refreshPermit mask).flag .LPX_REFk [k] 0 = bit mask k := by
  obtain ⟨⟨-, honly⟩, hflag⟩ := foldState_upTo (n := 8) (f := fun s k => s.setFlag .LPX_REFk [k] 0 (bit mask k)) (s := s)
    (ok := fun u => u.regs.wf = true ∧ u = { s with regs := u.regs }) (view := fun k u => u.flag .LPX_REFk [k] 0) (R := fun k _ new => new = bit mask k)
    (fun u k _ hu => ⟨State.wf_setFlag hu.1 .., by rw [hu.2]; rfl⟩) (fun u k _ hu => State.flag_setFlag_same hu.1 .LPX_REFk [k] (by decide) _)
    (fun u k j _ _ hj _ => by rw [State.flag, State.setFlag, State.reg_setFld_ne (adr_lpxRef_ne hj)]; rfl) ⟨hw, rfl⟩
  exact ⟨honly, hflag⟩

/-- The state that a PSTATE entry permits: 3 only where it masks all four clusters (R66; log 64). -/
def pstateCode (param : Nat) : Nat := if bits param 1 0 = 3 ∧ bits param 7 4 ≠ 15 then 2 else bits param 1 0

theorem pstateCode_lt (param : Nat) : pstateCode param < 4 := by
  have h := bits_lt param 1 0
  unfold pstateCode
  split
  · decide
  · exact h

/-- Each masked cluster takes the code in its field of PRS_PERM, and the others keep theirs (R66). -/
theorem State.pstate_spec {s : State} (hw : s.regs.wf = true) (param : Nat) :
    OnlyRegs s (s.pstate param) [Reg.adr .PRS_PERM []] ∧ ∀ c, c < 4 →
      (s.pstate param).fld .PRS_PERM [] (2 * c + 1) (2 * c) =
        if bit param (4 + c) then pstateCode param else s.fld .PRS_PERM [] (2 * c + 1) (2 * c) := by
  refine And.imp_left And.right (foldState_upTo (n := 4) (s := s)
    (f := fun s c => if bit param (4 + c) then s.setFld .PRS_PERM [] (2 * c + 1) (2 * c) (pstateCode param) else s)
    (ok := fun u => u.regs.wf = true ∧ OnlyRegs s u [Reg.adr .PRS_PERM []]) (view := fun c u => u.fld .PRS_PERM [] (2 * c + 1) (2 * c))
    (R := fun c old new => new = if bit param (4 + c) then pstateCode param else old)
    (fun u c _ hu => ?_) (fun u c hc hu => ?_) (fun u c j hc _ hj hu => ?_) ⟨hw, rfl, fun _ _ => rfl⟩)
  · split
    · refine ⟨State.wf_setFld hu.1 .., by rw [hu.2.1]; rfl, fun a ha => ?_⟩
      rw [← hu.2.2 a ha]
      exact State.rg_setRg_ne (List.ne_of_not_mem_cons ha) u _
    · exact hu
  · split
    · rw [State.fld_setFld_same hu.1 _ _ (by omega), show 2 * c + 1 + 1 - 2 * c = 2 by omega]
      exact Nat.mod_eq_of_lt (pstateCode_lt param)
    · rfl
  · split
    · exact State.fld_setFld_ne hu.1 _ _ (by omega) (by omega) _
    · rfl

/-! ### TRIG, I3C and SCAN -/

theorem State.fsyncTrig_open {s : State} (h : s.flag .SEC_GATE [] 0 = true) (mask : Nat) :
    s.fsyncTrig mask = { s with vis := { s.vis with fsync := (upTo 16).filter (fun i => bit mask i || s.vis.fsync.contains i) } } := by
  simp [State.fsyncTrig, h]

theorem State.i3cCopy_room {s : State} {c : Nat} (hen : s.flag .PAD_I3Cc_CTRL [c] 0 = true) (hroom : (s.i3cQueue c).length < 16) (e : Nat) (epoch : Bool) :
    s.i3cCopy c e epoch = s.setI3c c (s.i3cQueue c ++ [⟨s.reg .PAD_I3Cc_WLe_A [c, e], s.reg .PAD_I3Cc_WLe_R [c, e], s.reg .PAD_I3Cc_WLe_D0 [c, e],
      s.reg .PAD_I3Cc_WLe_D1 [c, e], epoch⟩]) := by
  have hfull : ¬ 16 ≤ (s.i3cQueue c).length := by omega
  simp [State.i3cCopy, hen, hfull]

theorem State.i3cCopy_full {s : State} {c : Nat} (hen : s.flag .PAD_I3Cc_CTRL [c] 0 = true) (hfull : 16 ≤ (s.i3cQueue c).length) (e : Nat) (epoch : Bool) :
    s.i3cCopy c e epoch = s.satInc .PAD_I3Cc_STAT [c] 23 16 1 := by
  simp [State.i3cCopy, hen, hfull]

@[simp] theorem State.i3cQueue_setI3c_same (s : State) (c : Nat) (q : List I3cJob) : (s.setI3c c q).i3cQueue c = q := Tab.get_put_same s.vis.i3c [] c q

/-- The scans that core `c` has been asked for. -/
def State.scansOf (s : State) (c : Nat) : List SchEv := s.events.filter (fun e => match e with | .scan d _ => d == c | _ => false)

theorem State.mem_scansOf {s : State} {c cause : Nat} : SchEv.scan c cause ∈ s.scansOf c ↔ SchEv.scan c cause ∈ s.events := by
  simp [State.scansOf]

theorem State.askScan_eq (s : State) (c cause : Nat) :
    s.askScan c cause = if 2 ≤ (s.scansOf c).length then s else { s with events := s.events ++ [.scan c cause] } := rfl

theorem State.scansOf_askScan_none {s : State} {c : Nat} (h : s.scansOf c = []) (cause : Nat) : (s.askScan c cause).scansOf c = [.scan c cause] := by
  rw [State.askScan_eq, h, if_neg (by decide)]
  simpa [State.scansOf] using h

theorem State.scansOf_askScan_ne {c j : Nat} (h : j ≠ c) (s : State) (cause : Nat) : (s.askScan c cause).scansOf j = s.scansOf j := by
  rw [State.askScan_eq]
  split
  · rfl
  · simp [State.scansOf, h.symm]

/-- With no scan waiting, each masked core is asked for one (R66, R326). -/
theorem State.askScans_spec {s : State} (hnone : s.events = []) (p : Nat) :
    let u := foldState (fun s c => if bit p c then s.askScan c 0 else s) s (upTo 4)
    u = { s with events := u.events } ∧ ∀ c, c < 4 → (SchEv.scan c 0 ∈ u.events ↔ bit p c = true) := by
  intro u
  refine And.imp_right (fun hscans c hc => ?_) (foldState_upTo (n := 4) (s := s) (f := fun s c => if bit p c then s.askScan c 0 else s)
    (ok := fun u => u = { s with events := u.events }) (view := fun c u => u.scansOf c)
    (R := fun c old new => old = [] → new = if bit p c then [.scan c 0] else []) (fun u c _ hu => ?_) (fun u c _ _ hold => ?_) (fun u c j _ _ hj _ => ?_) rfl)
  · rw [← State.mem_scansOf, hscans c hc (by simp [State.scansOf, hnone])]
    by_cases hb : bit p c = true <;> simp [hb]
  · rw [State.askScan_eq]
    split_ifs
    · exact hu
    · rw [hu]
    · exact hu
  · split
    · exact State.scansOf_askScan_none hold 0
    · exact hold
  · split
    · exact State.scansOf_askScan_ne hj u 0
    · rfl

/-! ### Writes of the device's units -/

/-- A unit has written memory, or has been refused: of the registers only the counts of sealed regions can have changed (R33, R303, R306). -/
structure UnitWrote (s u : State) : Prop where
  only : u = { s with mem := u.mem, poison := u.poison, regs := u.regs, mgt := u.mgt }
  wf : s.regs.wf = true → u.regs.wf = true
  rg : ∀ a, a < 0x420000 ∨ 0x430000 ≤ a → u.rg a = s.rg a

theorem UnitWrote.refl (s : State) : UnitWrote s s := ⟨rfl, id, fun _ _ => rfl⟩

theorem UnitWrote.trans {s t u : State} (h : UnitWrote s t) (h' : UnitWrote t u) : UnitWrote s u :=
  ⟨by rw [h'.only, h.only], h'.wf ∘ h.wf, fun a ha => (h'.rg a ha).trans (h.rg a ha)⟩

theorem State.unitWrote_accessError (s : State) (code : Nat) (ini : Initiator) (a d : Nat) : UnitWrote s (s.accessError code ini a d) :=
  ⟨rfl, id, fun _ _ => rfl⟩

theorem State.unitWrote_spWr (s : State) (t a : Nat) (bs : List Byte) : UnitWrote s (s.spWr t a bs) := ⟨rfl, id, fun _ _ => rfl⟩

theorem State.blockedBy_lt {s : State} {a n r : Nat} (h : s.blockedBy a n = some r) : r < 64 := by
  have hmem := List.mem_of_find?_eq_some h
  simp only [State.blockedRegions, upTo, List.mem_filter, List.mem_range] at hmem
  exact hmem.1

theorem State.unitWrote_sealCount (s : State) {r : Nat} (hr : r < 64) (hi lo n : Nat) : UnitWrote s (s.satInc .FAB_SEALr_CNT [r] hi lo n) := by
  refine ⟨rfl, fun hw => State.wf_satInc hw .., fun a ha => State.rg_setRg_ne ?_ s _⟩
  change a ≠ 0x42000c + 0x10 * r
  omega

theorem State.unitWrote_memWrite (s : State) (ini : Initiator) (a : Nat) (bs : List Byte) : UnitWrote s (s.memWrite ini a bs).2 := by
  unfold State.memWrite
  dsimp only
  split
  · exact s.unitWrote_accessError ..
  · exact s.unitWrote_accessError ..
  · exact s.unitWrote_accessError ..
  · split
    next r hr => exact (s.unitWrote_sealCount (State.blockedBy_lt hr) 15 0 1).trans (State.unitWrote_accessError _ ..)
    next =>
      split
      · exact s.unitWrote_accessError ..
      · exact ⟨rfl, id, fun _ _ => rfl⟩

theorem State.unitWrote_visWrite (s : State) (a : Nat) (bs : List Byte) : UnitWrote s (s.visWrite a bs).2 := by
  unfold State.visWrite
  split
  · split
    · exact s.unitWrote_spWr ..
    · exact .refl s
  · exact s.unitWrote_memWrite ..

/-! ### STATWIN -/

/-- The vision block has worked for context `n`: the sweep unit, the enables and the other contexts are as they were. -/
structure CamWorked (s u : State) (n : Nat) : Prop where
  swp : u.swp = s.swp
  ingEn : ∀ c, u.ingEn c = s.ingEn c
  cam : ∀ c, c ≠ n → u.cam c = s.cam c

theorem CamWorked.refl (s : State) (n : Nat) : CamWorked s s n := ⟨rfl, fun _ => rfl, fun _ _ => rfl⟩

theorem CamWorked.trans {s t u : State} {n : Nat} (h : CamWorked s t n) (h' : CamWorked t u n) : CamWorked s u n :=
  ⟨h'.swp.trans h.swp, fun c => (h'.ingEn c).trans (h.ingEn c), fun c hc => (h'.cam c hc).trans (h.cam c hc)⟩

theorem State.cam_updCam_ne {n c : Nat} (h : c ≠ n) (s : State) (f : CamCtx → CamCtx) : (s.updCam n f).cam c = s.cam c :=
  Tab.get_put_ne h s.vis.ctxs _ _

@[simp] theorem State.cam_updCam_same (s : State) (n : Nat) (f : CamCtx → CamCtx) : (s.updCam n f).cam n = f (s.cam n) := Tab.get_put_same s.vis.ctxs _ n _

theorem State.camWorked_updCam (s : State) (n : Nat) (f : CamCtx → CamCtx) : CamWorked s (s.updCam n f) n :=
  ⟨rfl, fun _ => rfl, fun _ hc => State.cam_updCam_ne hc s f⟩

theorem UnitWrote.camWorked {s u : State} (h : UnitWrote s u) (n : Nat) : CamWorked s u n := by
  refine ⟨by rw [h.only], fun c => ?_, fun c _ => by rw [h.only]; rfl⟩
  have hadr : u.rg (Reg.adr .ING_CTXn_SRC [c]) = s.rg (Reg.adr .ING_CTXn_SRC [c]) := h.rg _ (by change _ ∨ 0x430000 ≤ 0x8010000 + 0x100 * c; omega)
  rw [State.ingEn, State.flag, State.reg, hadr]
  rfl

theorem State.camWorked_statDone (s : State) (n : Nat) : CamWorked s (s.statDone n) n := by
  unfold State.statDone
  split
  · exact .refl s n
  · have hrec : CamWorked s { s with fresh := s.fresh + 1 + 1 } n := ⟨rfl, fun _ => rfl, fun _ _ => rfl⟩
    exact (hrec.trans ((State.unitWrote_visWrite _ _ _).camWorked n)).trans (State.camWorked_updCam _ n _)

/-- An enabled context gets a publication for this point, whatever was under way (R66, R273). -/
theorem State.statWindow_spec {s : State} {n : Nat} (hen : s.ingEn n = true) (sweep phase : Nat) :
    CamWorked s (s.statWindow sweep phase n) n ∧ ∃ p, ((s.statWindow sweep phase n).cam n).pub = some p ∧ p.sweep = sweep % 2 ^ 32 ∧ p.phase = phase := by
  have hdone := s.camWorked_statDone n
  unfold State.statWindow
  simp only [hen, Bool.not_true, Bool.false_eq_true, if_false]
  split
  · exact ⟨(hdone.trans (State.camWorked_updCam _ n _)).trans (State.camWorked_updCam _ n _), _, by rw [State.cam_updCam_same], rfl, rfl⟩
  · exact ⟨hdone.trans (State.camWorked_updCam _ n _), _, by rw [State.cam_updCam_same], rfl, rfl⟩

theorem State.statWindow_disabled {s : State} {n : Nat} (hen : s.ingEn n = false) (sweep phase : Nat) : s.statWindow sweep phase n = s := by
  simp [State.statWindow, hen]

theorem State.camWorked_statWindow (s : State) (sweep phase n : Nat) : CamWorked s (s.statWindow sweep phase n) n := by
  cases hen : s.ingEn n with
  | false =>
    rw [State.statWindow_disabled hen]
    exact .refl s n
  | true => exact (State.statWindow_spec hen sweep phase).1

theorem State.statWindows_spec (s : State) (sweep phase p : Nat) :
    let u := foldState (fun s n => if bit p n then s.statWindow sweep phase n else s) s (upTo 32)
    u.swp = s.swp ∧ ∀ c, c < 32 → bit p c = true → s.ingEn c = true → ∃ q, (u.cam c).pub = some q ∧ q.sweep = sweep % 2 ^ 32 ∧ q.phase = phase := by
  refine foldState_upTo (n := 32) (s := s) (f := fun s n => if bit p n then s.statWindow sweep phase n else s)
    (ok := fun u => u.swp = s.swp) (view := fun c u => (u.ingEn c, (u.cam c).pub))
    (R := fun c old new => bit p c = true → old.1 = true → ∃ q, new.2 = some q ∧ q.sweep = sweep % 2 ^ 32 ∧ q.phase = phase)
    (fun u c _ hu => ?_) (fun u c _ _ hb hen => ?_) (fun u c j _ _ hj _ => ?_) rfl
  · split
    · exact (u.camWorked_statWindow sweep phase c).swp.trans hu
    · exact hu
  · rw [if_pos hb]
    exact (State.statWindow_spec hen sweep phase).2
  · split
    · have hw := u.camWorked_statWindow sweep phase c
      rw [hw.ingEn, hw.cam j hj]
    · rfl

end Sys2Proof.Machine

open Sys2Proof Sys2Proof.Machine

/-- Settles O11: each entry runs its action's spec lemma on the state without the entry. -/
theorem phaseTableRegisterAndVisionActions : Obligations.PhaseTableRegisterAndVisionActions := by
  refine ⟨fun n s d rest ⟨_, hregs, _⟩ hup hheld => ?_, fun n s d rest ⟨_, hregs, _⟩ hup hheld hcave => ?_⟩
  · refine ⟨fun hdue => live_fire hup hdue hheld rfl, fun hdue => ?_, fun hdue hcave => ?_, fun hdue => ?_⟩
    · exact ⟨_, live_fire hup hdue hheld rfl, State.fld_satInc_same (s := s.withDue rest) hregs .SWP_CNT1 [] (by decide) 0 1, rfl,
        State.onlyRegs_satInc (s.withDue rest) .SWP_CNT1 [] 15 0 1⟩
    · obtain ⟨honly, hflag⟩ := State.refreshPermit_spec (s := s.withDue rest) hregs (bits d.hi.toNat 7 0)
      refine ⟨_, live_fire hup hdue hheld (State.awake_of_not_cave hcave _), fun k hk => ?_, ?_, ?_⟩
      · rw [hflag k hk, bit_bits_low _ (by omega)]
      · rw [honly]
        rfl
      · rw [honly]
        rfl
    · obtain ⟨honly, hfld⟩ := State.pstate_spec (s := s.withDue rest) hregs d.hi.toNat
      refine ⟨_, live_fire hup hdue hheld rfl, ?_, honly, fun c hc => ?_⟩
      · rw [honly.1]
        rfl
      · rw [hfld c hc, bit_eq]
        cases d.hi.toNat.testBit (4 + c) <;> rfl
  · have hawake := State.awake_of_not_cave hcave d.hi.toNat
    refine ⟨fun hdue hgate => ?_, fun hdue hen => ⟨fun hroom => ?_, fun hfull => ?_⟩, fun hdue hnone => ?_, fun hdue => ?_⟩
    · refine ⟨_, (live_fire hup hdue hheld hawake).trans (congrArg Host.Outcome.next (State.fsyncTrig_open (s := s.withDue rest) hgate _)), fun i hi => ?_, rfl⟩
      simp [upTo, hi, bit_bits_low _ (show i ≤ 15 by omega), State.withDue]
    · exact ⟨_, (live_fire hup hdue hheld hawake).trans (congrArg Host.Outcome.next (State.i3cCopy_room (s := s.withDue rest) hen hroom _ _)),
        (State.i3cQueue_setI3c_same _ _ _).trans (by rw [bit_eq]; rfl), rfl⟩
    · refine ⟨_, (live_fire hup hdue hheld hawake).trans (congrArg Host.Outcome.next (State.i3cCopy_full (s := s.withDue rest) hen hfull _ _)), ?_, rfl⟩
      exact State.fld_satInc_same (s := s.withDue rest) hregs .PAD_I3Cc_STAT _ (by decide) 16 1
    · obtain ⟨honly, hscan⟩ := State.askScans_spec (s := s.withDue rest) hnone d.hi.toNat
      exact ⟨_, live_fire hup hdue hheld hawake, fun c hc => by rw [hscan c hc, bit_eq], honly⟩
    · obtain ⟨hswp, hpub⟩ := (s.withDue rest).statWindows_spec d.sweep d.phase d.hi.toNat
      exact ⟨_, live_fire hup hdue hheld hawake, hswp, fun c hc hbit hen => hpub c hc (by rw [bit_eq]; exact hbit) hen⟩
end

section
/-! SUPPORT. The statement of RELEASE, OPSET and DEADLINE entries: what a release writes, which fields of a domain an operating point touches, and what a miss reports. -/

namespace Sys2Proof.Machine
open Sys2Proof

/-! ### RELEASE -/

theorem pointLe_of_later {a b : Nat × Nat} (h : b.1 < a.1) : pointLe a b = false := by
  have hne : a.1 ≠ b.1 := by omega
  simp [pointLe, hne, Nat.le_of_lt h]

/-- The one job of a queue is released, and waits in the deadline store for a later sweep (R66, R68, R70). -/
theorem State.releaseQueue_single {s : State} {q : Nat} {j : Job} (hjobs : s.fw.jobs = [j]) (hq : j.q = q) (hst : j.st = .admitted)
    (hkill : j.killed = false) (hroom : s.swp.store.length < 4096) (hdl : 1 ≤ j.dlSweeps) (sweep phase : Nat) :
    s.releaseQueue q sweep phase =
      { s with swp := { s.swp with store := s.swp.store ++ [⟨j.jid, j.q, j.tag, sweep + j.dlSweeps, j.dlPhase, false⟩] },
               fw := { s.fw with jobs := [{ j with st := .released, rel := (sweep, phase), launch := j.clusters }] } } := by
  have hlater : pointLe (sweep + j.dlSweeps, j.dlPhase) (sweep, phase) = false := pointLe_of_later (by dsimp only; omega)
  have hfull : ¬ 4096 ≤ s.swp.store.length := by omega
  simp [State.releaseQueue, hjobs, hq, hst, hkill, State.releaseJob, hfull, hlater, State.updTaken, State.updFw, State.updSwp, updFirst]

/-! ### OPSET -/

theorem adr_prsDom (d : Nat) : Reg.adr .PRS_DOMd [d] = 0x100040 + 4 * d := rfl

/-- An operating point of domain `d` has been worked out anew: Press has changed, of the domain's register the upper half, and of the registers of the other
domains none (R377). -/
structure DomUpper (s u : State) (d : Nat) : Prop where
  swp : u.swp = s.swp
  mem : u.mem = s.mem
  tiles : u.tiles = s.tiles
  wf : s.regs.wf = true → u.regs.wf = true
  low : s.regs.wf = true → ∀ i, i < 16 → (u.reg .PRS_DOMd [d]).testBit i = (s.reg .PRS_DOMd [d]).testBit i
  others : ∀ j, j < 7 → j ≠ d → u.reg .PRS_DOMd [j] = s.reg .PRS_DOMd [j]

theorem DomUpper.refl (s : State) (d : Nat) : DomUpper s s d := ⟨rfl, rfl, rfl, id, fun _ _ _ => rfl, fun _ _ _ => rfl⟩

theorem DomUpper.trans {s t u : State} {d : Nat} (h : DomUpper s t d) (h' : DomUpper t u d) : DomUpper s u d :=
  ⟨h'.swp.trans h.swp, h'.mem.trans h.mem, h'.tiles.trans h.tiles, h'.wf ∘ h.wf, fun hw i hi => (h'.low (h.wf hw) i hi).trans (h.low hw i hi),
    fun j hj hne => (h'.others j hj hne).trans (h.others j hj hne)⟩

theorem State.domUpper_updPrs (s : State) (f : Prs → Prs) (d : Nat) : DomUpper s (s.updPrs f) d :=
  ⟨rfl, rfl, rfl, id, fun _ _ _ => rfl, fun _ _ _ => rfl⟩

theorem State.domUpper_setFld (s : State) (d : Nat) {hi lo : Nat} (hh : hi < 32) (hlo : 16 ≤ lo) (v : Nat) : DomUpper s (s.setFld .PRS_DOMd [d] hi lo v) d := by
  refine ⟨rfl, rfl, rfl, fun hw => State.wf_setFld hw .., fun hw i hi' => ?_, fun j _ hne => State.reg_setFld_ne ?_ s ..⟩
  · rw [State.reg_setFld_same hw _ _ hh, testBit_putBits, if_neg (by omega)]
  · rw [adr_prsDom, adr_prsDom]
    omega

theorem State.domUpper_prsCount (s : State) {d : Nat} (hd : d < 7) : DomUpper s (s.satInc .PRS_CNT0 [] 15 0 1) d := by
  have hne : ∀ j, j < 7 → Reg.adr .PRS_DOMd [j] ≠ Reg.adr .PRS_CNT0 [] := by
    intro j hj
    change 0x100040 + 4 * j ≠ 0x100220
    omega
  exact ⟨rfl, rfl, rfl, fun hw => State.wf_satInc hw .., fun _ i _ => congrArg (Nat.testBit · i) (State.reg_setReg_ne (hne d hd) s _),
    fun j hj _ => State.reg_setReg_ne (hne j hj) s _⟩

theorem State.domUpper_setEff (s : State) (d k : Nat) : DomUpper s (s.setEff d k) d := by
  unfold State.setEff
  dsimp only
  split
  · exact (s.domUpper_updPrs _ d).trans (State.domUpper_setFld _ d (by decide) (by decide) k)
  · exact s.domUpper_setFld d (by decide) (by decide) k

theorem State.domUpper_setClOp (s : State) (d : Nat) (o : ClOp) : DomUpper s (s.setClOp d o) d :=
  (s.domUpper_updPrs _ d).trans (State.domUpper_setFld _ d (by decide) (by decide) _)

theorem State.domUpper_recompute (s : State) {d : Nat} (hd : d < 7) : DomUpper s (s.recompute d) d := by
  unfold State.recompute
  dsimp only
  split_ifs
  · exact .refl s d
  · exact s.domUpper_prsCount hd
  · exact (s.domUpper_setEff d _).trans (State.domUpper_setClOp _ d _)
  · exact s.domUpper_setEff d _

/-- PREF and BREQ of a domain as an OPSET entry writes them (R66, R378). -/
def State.prefer (s : State) (d pref : Nat) : State := (s.setFld .PRS_DOMd [d] 3 0 pref).setFlag .PRS_DOMd [d] 8 false

theorem State.reg_prefer_ne {d j : Nat} (h : j ≠ d) (s : State) (pref : Nat) : (s.prefer d pref).reg .PRS_DOMd [j] = s.reg .PRS_DOMd [j] := by
  have hne : Reg.adr .PRS_DOMd [j] ≠ Reg.adr .PRS_DOMd [d] := by
    rw [adr_prsDom, adr_prsDom]
    omega
  exact (State.reg_setFld_ne hne _ ..).trans (State.reg_setFld_ne hne s ..)

theorem State.testBit_reg_prefer {s : State} (hw : s.regs.wf = true) (d pref i : Nat) :
    ((s.prefer d pref).reg .PRS_DOMd [d]).testBit i = if i < 4 then pref.testBit i else if i = 8 then false else (s.reg .PRS_DOMd [d]).testBit i := by
  rw [State.prefer, State.setFlag, State.reg_setFld_same (State.wf_setFld hw ..) _ _ (by decide), State.reg_setFld_same hw _ _ (by decide), testBit_putBits,
    testBit_putBits]
  by_cases h4 : i < 4
  · simp [h4, show ¬ (8 ≤ i ∧ i < 9) by omega]
  · by_cases h8 : i = 8
    · simp [h8, b2n]
    · simp [h4, h8, show ¬ (8 ≤ i ∧ i < 9) by omega]

/-- The domain has been given the point `pref` and no boost. -/
def Preferred (pref reg : Nat) : Prop := bits reg 3 0 = pref ∧ bit reg 8 = false

theorem State.preferred_recompute {s : State} (hw : s.regs.wf = true) {d : Nat} (hd : d < 7) {pref : Nat} (hp : pref < 16) :
    Preferred pref (((s.prefer d pref).recompute d).reg .PRS_DOMd [d]) := by
  have hlow := (State.domUpper_recompute (s.prefer d pref) hd).low (State.wf_setFlag (State.wf_setFld hw ..) ..)
  refine ⟨Nat.eq_of_testBit_eq fun i => ?_, ?_⟩
  · rw [testBit_bits, Nat.zero_add]
    by_cases hi : i < 4
    · rw [hlow i (by omega), State.testBit_reg_prefer hw, if_pos hi]
      simp [hi]
    · have hout : pref.testBit i = false := Nat.testBit_lt_two_pow (lt_of_lt_of_le hp (Nat.pow_le_pow_right Nat.zero_lt_two (by omega : 4 ≤ i)))
      simp [hi, hout]
  · rw [bit_eq, hlow 8 (by decide), State.testBit_reg_prefer hw]
    rfl

/-- OPSET prefers the point for each masked domain and leaves the registers of the others (R66, R378). -/
theorem State.opset_spec {s : State} (hw : s.regs.wf = true) (param : Nat) :
    ((s.opset param).swp = s.swp ∧ (s.opset param).mem = s.mem ∧ (s.opset param).tiles = s.tiles) ∧ ∀ c, c < 6 →
      if bit param (4 + c) then Preferred (bits param 3 0) ((s.opset param).reg .PRS_DOMd [c]) else (s.opset param).reg .PRS_DOMd [c] = s.reg .PRS_DOMd [c] := by
  refine And.imp_left And.right (foldState_upTo (n := 6) (s := s)
    (f := fun s d => if bit param (4 + d) then (s.prefer d (bits param 3 0)).recompute d else s)
    (ok := fun u => u.regs.wf = true ∧ u.swp = s.swp ∧ u.mem = s.mem ∧ u.tiles = s.tiles) (view := fun c u => u.reg .PRS_DOMd [c])
    (R := fun c old new => if bit param (4 + c) then Preferred (bits param 3 0) new else new = old)
    (fun u d hd hu => ?_) (fun u d hd hu => ?_) (fun u d j hd hjn hj _ => ?_) ⟨hw, rfl, rfl, rfl⟩)
  · split
    · have hup := State.domUpper_recompute (u.prefer d (bits param 3 0)) (show d < 7 by omega)
      exact ⟨hup.wf (State.wf_setFlag (State.wf_setFld hu.1 ..) ..), hup.swp.trans hu.2.1, hup.mem.trans hu.2.2.1, hup.tiles.trans hu.2.2.2⟩
    · exact hu
  · split
    · exact State.preferred_recompute hu.1 (by omega) (bits_lt param 3 0)
    · rfl
  · split
    · rw [(State.domUpper_recompute (u.prefer d (bits param 3 0)) (show d < 7 by omega)).others j (by omega) hj, State.reg_prefer_ne hj]
    · rfl

/-! ### Deadline checks -/

theorem State.reg_setFlag_ne {r q : Reg} {is js : List Nat} (h : q.adr js ≠ r.adr is) (s : State) (i : Nat) (b : Bool) :
    (s.setFlag r is i b).reg q js = s.reg q js := State.reg_setReg_ne h s _

theorem adr_qcfg (q : Nat) : Reg.adr .SWP_QCFGq [q] = 0x301000 + 4 * q := rfl
theorem adr_dlmon (m : Nat) : Reg.adr .MGT_DLMONm [m] = 0xe000300 + 4 * m := rfl

theorem adr_qcfg_ne_evt (q : Nat) : Reg.adr .SWP_QCFGq [q] ≠ Reg.adr .SWP_EVT [] := by
  rw [adr_qcfg]
  change _ ≠ 0x30003c
  omega

/-- Deadline monitors have followed a check: their registers and error signals have changed, and nothing below the management block (R400). -/
structure MonitorsRan (s u : State) : Prop where
  only : u = { s with regs := u.regs, mgt := u.mgt, fresh := u.fresh }
  rg : ∀ a, a < 0xe000300 → u.rg a = s.rg a
  inflight : ∀ r ∈ s.mgt.inflight, r ∈ u.mgt.inflight

theorem MonitorsRan.refl (s : State) : MonitorsRan s s := ⟨rfl, fun _ _ => rfl, fun _ => id⟩

theorem MonitorsRan.trans {s t u : State} (h : MonitorsRan s t) (h' : MonitorsRan t u) : MonitorsRan s u :=
  ⟨by rw [h'.only, h.only], fun a ha => (h'.rg a ha).trans (h.rg a ha), fun r hr => h'.inflight r (h.inflight r hr)⟩

theorem MonitorsRan.swp {s u : State} (h : MonitorsRan s u) : u.swp = s.swp := by rw [h.only]
theorem MonitorsRan.fab {s u : State} (h : MonitorsRan s u) : u.fab = s.fab := by rw [h.only]
theorem MonitorsRan.mem {s u : State} (h : MonitorsRan s u) : u.mem = s.mem := by rw [h.only]
theorem MonitorsRan.tiles {s u : State} (h : MonitorsRan s u) : u.tiles = s.tiles := by rw [h.only]

theorem State.monitorsRan_setFld (s : State) (m hi lo v : Nat) : MonitorsRan s (s.setFld .MGT_DLMONm [m] hi lo v) := by
  refine ⟨rfl, fun a ha => State.rg_setRg_ne ?_ s _, fun _ => id⟩
  rw [adr_dlmon]
  omega

theorem State.monitorsRan_signalU (s : State) (cls code inst : Nat) : MonitorsRan s (s.signalU cls code inst) :=
  ⟨rfl, fun _ _ => rfl, fun _ hr => List.mem_append_left _ hr⟩

theorem State.monitorsRan_dlSignalled (s : State) (ms : List Nat) : MonitorsRan s { s with mgt := { s.mgt with dlSignalled := ms } } :=
  ⟨rfl, fun _ _ => rfl, fun _ => id⟩

theorem State.monitorsRan_monitors (s : State) (q : Nat) (missed : Bool) : MonitorsRan s (s.monitors q missed) := by
  unfold State.monitors
  rw [foldState_eq_foldl]
  generalize upTo 8 = ms
  induction ms generalizing s with
  | nil => exact .refl s
  | cons m ms ih =>
    refine MonitorsRan.trans ?_ (ih _)
    dsimp only
    split_ifs
    · exact .refl s
    · exact ((s.monitorsRan_setFld m 15 8 _).trans (State.monitorsRan_dlSignalled _ _)).trans (State.monitorsRan_signalU _ ..)
    · exact s.monitorsRan_setFld m 15 8 _
    · exact (s.monitorsRan_dlSignalled _).trans (State.monitorsRan_setFld _ m 15 8 0)

/-- A check whose point no open deadline of the queue has reached (R69). -/
theorem State.deadlineCheck_none {s : State} {q n p : Nat}
    (h : ∀ e ∈ s.swp.store, e.queue ≠ q ∨ e.missed = true ∨ pointLe (e.sweep, e.phase) (n, p) = false) : s.deadlineCheck q n p = s.monitors q false := by
  have hnil : s.swp.store.filter (fun e => e.queue == q && !e.missed && pointLe (e.sweep, e.phase) (n, p)) = [] := by
    rw [List.filter_eq_nil_iff]
    intro e he
    rcases h e he with h | h | h <;> simp [h]
  simp only [State.deadlineCheck, hnil]
  rfl

/-- A check that finds the one deadline of the store missed (R69). -/
theorem State.deadlineCheck_single {s : State} {e : DlEnt} {n p : Nat} (hstore : s.swp.store = [e]) (hopen : e.missed = false)
    (hle : pointLe (e.sweep, e.phase) (n, p) = true) : s.deadlineCheck e.queue n p = (s.miss e n p).monitors e.queue true := by
  have hone : s.swp.store.filter (fun d => d.queue == e.queue && !d.missed && pointLe (d.sweep, d.phase) (n, p)) = [e] := by simp [hstore, hopen, hle]
  simp only [State.deadlineCheck, hone]
  rfl

/-! ### What a miss reports -/

/-- The queue's count and the event flag of a miss. -/
def State.missCounted (s : State) (q : Nat) : State := (s.satInc .SWP_QCFGq [q] 31 16 1).setFlag .SWP_EVT [] 2 true

/-- With room in the miss FIFO a miss is counted, recorded and signalled (R72, R73). -/
theorem State.missReport_room {s : State} (h : s.swp.miss.length < 64) (e : DlEnt) (n p : Nat) :
    s.missReport e n p = ((s.missCounted e.queue).updSwp (fun w =>
      { w with miss := w.miss ++ [⟨s.missAct e.queue e.tag, e.queue, p, e.tag, n⟩] })).signalU 1 (s.missAct e.queue e.tag) e.queue 0 e.tag := by
  have h' : ((s.satInc .SWP_QCFGq [e.queue] 31 16 1).setFlag .SWP_EVT [] 2 true).swp.miss.length < 64 := h
  simp only [State.missReport, if_pos h', State.missCounted]

/-- A full miss FIFO takes no record, and MISS_OVF says so (R73). -/
theorem State.missReport_full {s : State} (h : 64 ≤ s.swp.miss.length) (e : DlEnt) (n p : Nat) :
    s.missReport e n p = ((s.missCounted e.queue).setFlag .SWP_EVT [] 3 true).signalU 1 (s.missAct e.queue e.tag) e.queue 0 e.tag := by
  have h' : ¬ ((s.satInc .SWP_QCFGq [e.queue] 31 16 1).setFlag .SWP_EVT [] 2 true).swp.miss.length < 64 := Nat.not_lt.2 h
  simp only [State.missReport, if_neg h', State.missCounted]

theorem State.wf_missCounted {s : State} (hw : s.regs.wf = true) (q : Nat) : (s.missCounted q).regs.wf = true := State.wf_setFlag (State.wf_satInc hw ..) ..

theorem State.misses_missCounted {s : State} (hw : s.regs.wf = true) (q : Nat) :
    (s.missCounted q).fld .SWP_QCFGq [q] 31 16 = min (s.fld .SWP_QCFGq [q] 31 16 + 1) 65535 := by
  rw [State.missCounted, State.fld, State.reg_setFlag_ne (adr_qcfg_ne_evt q)]
  exact State.fld_satInc_same hw _ _ (by decide) 16 1

theorem State.evt_missCounted {s : State} (hw : s.regs.wf = true) (q : Nat) : (s.missCounted q).flag .SWP_EVT [] 2 = true :=
  State.flag_setFlag_same (State.wf_satInc hw ..) _ _ (by decide) true

/-- What a report of a miss shows in registers, in the miss FIFO and on its way to the management block. -/
structure MissReported (s u : State) (e : DlEnt) (n p : Nat) : Prop where
  count : u.fld .SWP_QCFGq [e.queue] 31 16 = min (s.fld .SWP_QCFGq [e.queue] 31 16 + 1) 65535
  evt : u.flag .SWP_EVT [] 2 = true
  fifo : s.swp.miss.length < 64 → ∃ m, u.swp.miss = s.swp.miss ++ [m] ∧ m.queue = e.queue ∧ m.tag = e.tag ∧ m.sweep = n ∧ m.phase = p
  full : 64 ≤ s.swp.miss.length → u.swp.miss = s.swp.miss ∧ u.flag .SWP_EVT [] 3 = true
  signal : ∃ r, r ∈ u.mgt.inflight ∧ r.cls = 1 ∧ r.inst = e.queue

@[simp] theorem State.reg_signalU (s : State) (cls code inst a d : Nat) (r : Reg) (is : List Nat) : (s.signalU cls code inst a d).reg r is = s.reg r is := rfl
@[simp] theorem State.reg_updSwp (s : State) (f : Sweep → Sweep) (r : Reg) (is : List Nat) : (s.updSwp f).reg r is = s.reg r is := rfl

theorem State.exists_mem_signalU (s : State) (cls code inst a d : Nat) :
    ∃ r, r ∈ (s.signalU cls code inst a d).mgt.inflight ∧ r.cls = cls ∧ r.inst = inst :=
  ⟨_, List.mem_append_right _ (List.mem_singleton_self _), rfl, rfl⟩

theorem State.missReported_missReport {s : State} (hw : s.regs.wf = true) (e : DlEnt) (n p : Nat) : MissReported s (s.missReport e n p) e n p := by
  have hc := State.misses_missCounted hw e.queue
  have he := State.evt_missCounted hw e.queue
  by_cases h : s.swp.miss.length < 64
  · rw [State.missReport_room h]
    refine ⟨?_, ?_, fun _ => ⟨_, rfl, rfl, rfl, rfl, rfl⟩, fun h' => absurd h (Nat.not_lt.2 h'), State.exists_mem_signalU ..⟩
    · rw [State.fld, State.reg_signalU, State.reg_updSwp]
      exact hc
    · rw [State.flag, State.reg_signalU, State.reg_updSwp]
      exact he
  · rw [State.missReport_full (Nat.not_lt.1 h)]
    have hwc := State.wf_missCounted hw e.queue
    refine ⟨?_, ?_, fun h' => absurd h' h, fun _ => ⟨rfl, ?_⟩, State.exists_mem_signalU ..⟩
    · rw [State.fld, State.reg_signalU, State.reg_setFlag_ne (adr_qcfg_ne_evt e.queue)]
      exact hc
    · rw [State.flag, State.reg_signalU]
      exact (State.flag_setFlag_ne hwc .SWP_EVT [] (by decide) (by decide) true).trans he
    · rw [State.flag, State.reg_signalU]
      exact State.flag_setFlag_same hwc .SWP_EVT [] (by decide) true

/-- A report stands after later changes to other registers, to the store, the jobs and the kills, and after further signals. -/
theorem MissReported.mono {s t u : State} {e : DlEnt} {n p : Nat} (h : MissReported s t e n p) (hrg : ∀ a, a < 0x400000 → u.rg a = t.rg a)
    (hmiss : u.swp.miss = t.swp.miss) (hsig : ∀ r ∈ t.mgt.inflight, r ∈ u.mgt.inflight) (hq : e.queue < 256) : MissReported s u e n p := by
  have hqcfg : u.reg .SWP_QCFGq [e.queue] = t.reg .SWP_QCFGq [e.queue] := by
    rw [State.reg, hrg _ (by rw [adr_qcfg]; omega), State.reg]
  have hevt : u.reg .SWP_EVT [] = t.reg .SWP_EVT [] := by rw [State.reg, hrg _ (by decide), State.reg]
  obtain ⟨r, hr, hcls, hinst⟩ := h.signal
  refine ⟨?_, ?_, ?_, ?_, r, hsig r hr, hcls, hinst⟩
  · rw [State.fld, hqcfg]
    exact h.count
  · rw [State.flag, hevt]
    exact h.evt
  · rw [hmiss]
    exact h.fifo
  · rw [hmiss, State.flag, hevt]
    exact h.full

theorem State.missAct_flag {s : State} {q : Nat} (h : s.fld .SWP_QCFGq [q] 1 0 = 0) (tag : Nat) : s.missAct q tag = 0 := by simp [State.missAct, h]
theorem State.missAct_drop {s : State} {q : Nat} (h : s.fld .SWP_QCFGq [q] 1 0 = 1) (tag : Nat) : s.missAct q tag = 1 := by simp [State.missAct, h]

theorem mem_insertBy {α : Type} (key : α → Nat) (x : α) (ys : List α) : x ∈ insertBy key x ys := by
  induction ys with
  | nil => exact List.mem_singleton_self x
  | cons y ys ih =>
    unfold insertBy
    split
    · exact List.mem_cons_self
    · exact List.mem_cons_of_mem _ ih

/-- A request waits, unless the kill of the same JID runs (R184). -/
theorem State.mem_killPend_killRequest {s : State} {j : Nat} (h : s.fab.kill.map (·.jid) ≠ some j) : j ∈ (s.killRequest j).fab.killPend := by
  unfold State.killRequest
  split
  next hmerged => exact List.contains_iff_mem.1 (hmerged.resolve_right h)
  next => exact mem_insertBy id j _

/-- A miss that finds one deadline in the store: it is reported; under FLAG it stays marked, under any other policy it goes (R72). -/
theorem State.miss_single {s : State} (hw : s.regs.wf = true) {e : DlEnt} (hstore : s.swp.store = [e]) (hq : e.queue < 256) (n p : Nat) :
    MissReported s (s.miss e n p) e n p ∧
      (s.missAct e.queue e.tag = 0 → (s.miss e n p).swp.store = [{ e with missed := true }]) ∧
      (s.missAct e.queue e.tag ≠ 0 → (s.miss e n p).swp.store = [] ∧ (s.fab.kill.map (·.jid) ≠ some e.jid → e.jid ∈ (s.miss e n p).fab.killPend)) := by
  have hrep := State.missReported_missReport hw e n p
  have hkept : (s.missReport e n p).swp.store = [e] ∧ (s.missReport e n p).fab = s.fab := by
    by_cases h : s.swp.miss.length < 64
    · rw [State.missReport_room h]
      exact ⟨hstore, rfl⟩
    · rw [State.missReport_full (Nat.not_lt.1 h)]
      exact ⟨hstore, rfl⟩
  rw [State.miss_eq]
  split_ifs with hact
  · exact ⟨hrep.mono (fun _ _ => rfl) rfl (fun _ => id) hq, fun _ => by simp [State.missFlag, State.updSwp, hkept.1, updFirst], fun h => absurd hact h⟩
  · refine ⟨?_, fun h => absurd h hact, fun _ => ⟨?_, fun hrun => State.mem_killPend_killRequest (by rw [← hkept.2] at hrun; exact hrun)⟩⟩
    · rw [State.missDrop, State.killRequest_only]
      exact hrep.mono (fun _ _ => rfl) rfl (fun _ => id) hq
    · rw [State.missDrop, State.killRequest_only]
      simp [State.updSwp, hkept.1]

end Sys2Proof.Machine

open Sys2Proof Sys2Proof.Machine

/-- Settles O12: a release writes the store and the job, OPSET prefers a point for each masked domain, and a deadline check is a run of the monitors after at most
one miss. -/
theorem phaseTableJobsAndDeadlines : Obligations.PhaseTableJobsAndDeadlines := by
  refine ⟨fun n s d rest hInv hup hheld => ⟨fun hdue hcave j hjobs hq hst hkill hroom hdl => ?_, fun hdue hready => ?_, fun hdue hempty => ?_⟩,
    fun n s d rest e hInv hup hheld hdue hstore hopen hq => ⟨fun hqueue hle => ?_, fun hmiss => ?_⟩⟩
  · have hrel := State.releaseQueue_single (s := s.withDue rest) hjobs hq hst hkill hroom hdl d.sweep d.phase
    exact ⟨_, (live_fire hup hdue hheld (State.awake_of_not_cave hcave _)).trans (congrArg Host.Outcome.next hrel), rfl, rfl, rfl, rfl, rfl⟩
  · obtain ⟨-, hregs, -⟩ := hInv
    obtain ⟨⟨hswp, hmem, htiles⟩, hdom⟩ := State.opset_spec (s := s.withDue rest) hregs d.hi.toNat
    refine ⟨_, live_fire hup hdue hheld hready, hswp, hmem, htiles, fun c hc => ⟨fun hbit => ?_, fun hbit => ?_⟩⟩
    · have h := hdom c hc
      rw [bit_eq, hbit, if_pos rfl] at h
      exact h
    · have h := hdom c hc
      rw [bit_eq, hbit, if_neg (by decide)] at h
      exact h
  · have hnone := State.deadlineCheck_none (s := s.withDue rest) (q := bits d.hi.toNat 7 0) (n := d.sweep) (p := d.phase)
      (fun e he => absurd (hempty ▸ he : e ∈ []) List.not_mem_nil)
    have hran := (s.withDue rest).monitorsRan_monitors (bits d.hi.toNat 7 0) false
    exact ⟨_, (live_fire hup hdue hheld rfl).trans (congrArg Host.Outcome.next hnone), hran.swp, hran.mem, hran.tiles⟩
  · obtain ⟨-, hregs, -⟩ := hInv
    have hcheck := State.deadlineCheck_single (s := s.withDue rest) hstore hopen hle
    rw [hqueue] at hcheck
    obtain ⟨hrep, hflag, hdrop⟩ := State.miss_single (s := s.withDue rest) hregs hstore hq d.sweep d.phase
    have hkeep := (s.withDue rest).keepsSweep_miss e d.sweep d.phase
    have hran := State.monitorsRan_monitors ((s.withDue rest).miss e d.sweep d.phase) (bits d.hi.toNat 7 0) true
    obtain ⟨hcount, hevt, hfifo, hfull, hsig⟩ := hrep.mono (fun a ha => hran.rg a (by omega)) (congrArg Sweep.miss hran.swp) hran.inflight hq
    refine ⟨_, (live_fire hup hdue hheld rfl).trans (congrArg Host.Outcome.next hcheck), ?_, hcount, hevt, hran.mem.trans hkeep.mem,
      hran.tiles.trans hkeep.tiles, hfifo, hfull, hsig, fun hpol => ?_, fun hpol => ?_⟩
    · rw [hran.swp, hkeep.swp]
      rfl
    · rw [hran.swp]
      exact hflag (State.missAct_flag (s := s.withDue rest) hpol _)
    · rw [hran.swp, hran.fab]
      exact hdrop (by rw [State.missAct_drop (s := s.withDue rest) hpol]; decide)
  · have hnone := State.deadlineCheck_none (s := s.withDue rest) (q := bits d.hi.toNat 7 0) (n := d.sweep) (p := d.phase) (fun x hx => by
      rw [show (s.withDue rest).swp.store = [e] from hstore, List.mem_singleton] at hx
      rw [hx]
      exact hmiss.imp_right .inr)
    have hran := (s.withDue rest).monitorsRan_monitors (bits d.hi.toNat 7 0) false
    exact ⟨_, (live_fire hup hdue hheld rfl).trans (congrArg Host.Outcome.next hnone), hran.swp, hran.mem, hran.tiles⟩
end

section
/-! SUPPORT. The statement of the firmware's jobs: what a core's accesses leave as it was, the record of a job's end, its admission and its launch (R327 to R332). -/

namespace Sys2Proof.Machine
open Sys2Proof

/-! ### Accesses of a scheduler core -/

theorem State.unitWrote_schPut (s : State) (c a : Nat) (bs : List Byte) : UnitWrote s (s.schPut c a bs) := by
  unfold State.schPut
  split_ifs
  · exact s.unitWrote_accessError ..
  · split
    · split_ifs
      · exact s.unitWrote_spWr ..
      · exact .refl s
    · exact s.unitWrote_memWrite ..

theorem State.unitWrote_schSpad (s : State) (c t off : Nat) (bs : List Byte) : UnitWrote s (s.schSpad c t off bs) := by
  unfold State.schSpad
  split_ifs
  · exact s.unitWrote_accessError ..
  · exact s.unitWrote_spWr ..
  · exact .refl s

theorem State.schWrite_allowed {s : State} {a : Nat} (h : s.fwAllows .sch a 4 true = true) (c d : Nat) (f : State → State) : s.schWrite c a d f = f s := if_pos h

/-- What holds after the write and after its refusal holds. -/
theorem State.schWrite_cases {P : State → Prop} {s : State} {c a d : Nat} {f : State → State} (hf : P (f s)) (herr : P (s.accessError 3 (iniSch c) a d)) :
    P (s.schWrite c a d f) := by
  unfold State.schWrite
  split
  · exact hf
  · exact herr

/-- The firewall is judged by its own registers (R365). -/
theorem State.fwAllows_congr {s u : State} (h : ∀ a, a < 0x400000 → u.rg a = s.rg a) (c : Cls) (a n : Nat) (w : Bool) : u.fwAllows c a n w = s.fwAllows c a n w := by
  have hreg : ∀ r : Reg, r.desc.base < 0x210000 → r.desc.dims = [(0x10, 32)] → ∀ e, e < 32 → u.reg r [e] = s.reg r [e] := by
    intro r hbase hdims e he
    have hadr : r.adr [e] = r.desc.base + 0x10 * e := by simp [Reg.adr, hdims, spread]
    rw [State.reg, h _ (by omega), State.reg]
  have hperm := hreg .SEC_FWe_PERM (by decide) rfl
  have hbase := hreg .SEC_FWe_BASE (by decide) rfl
  have hlimit := hreg .SEC_FWe_LIMIT (by decide) rfl
  unfold State.fwAllows
  rw [Bool.eq_iff_iff, List.any_eq_true, List.any_eq_true]
  refine exists_congr fun e => and_congr_right fun he => ?_
  have he' : e < 32 := List.mem_range.1 he
  have hflag : ∀ i, u.flag .SEC_FWe_PERM [e] i = s.flag .SEC_FWe_PERM [e] i := fun i => congrArg (bit · i) (hperm e he')
  have hfrom : u.fld .SEC_FWe_BASE [e] 27 0 = s.fld .SEC_FWe_BASE [e] 27 0 := congrArg (bits · 27 0) (hbase e he')
  have hto : u.fld .SEC_FWe_LIMIT [e] 27 0 = s.fld .SEC_FWe_LIMIT [e] 27 0 := congrArg (bits · 27 0) (hlimit e he')
  rw [hflag, hflag, hfrom, hto]

/-! ### What the firmware's accesses and its log keep -/

/-- A scheduler core has written memory, counters or its log: the jobs and queues of the firmware, the sweep unit, the kills and the firewall are as they were. -/
structure CoreActed (s u : State) : Prop where
  fw : u.fw = { s.fw with cores := u.fw.cores }
  swp : u.swp = s.swp
  fab : u.fab = s.fab
  rg : ∀ a, a < 0x400000 → u.rg a = s.rg a

theorem CoreActed.refl (s : State) : CoreActed s s := ⟨rfl, rfl, rfl, fun _ _ => rfl⟩

theorem CoreActed.trans {s t u : State} (h : CoreActed s t) (h' : CoreActed t u) : CoreActed s u :=
  ⟨by rw [h'.fw, h.fw], h'.swp.trans h.swp, h'.fab.trans h.fab, fun a ha => (h'.rg a ha).trans (h.rg a ha)⟩

theorem CoreActed.jobs {s u : State} (h : CoreActed s u) : u.fw.jobs = s.fw.jobs := by rw [h.fw]
theorem CoreActed.queues {s u : State} (h : CoreActed s u) : u.fw.queues = s.fw.queues := by rw [h.fw]

theorem UnitWrote.coreActed {s u : State} (h : UnitWrote s u) : CoreActed s u :=
  ⟨by rw [h.only], by rw [h.only], by rw [h.only], fun a ha => h.rg a (.inl (by omega))⟩

theorem UnitWrote.tiles {s u : State} (h : UnitWrote s u) : u.tiles = s.tiles := by rw [h.only]

/-- The core's own data take the number of the record, and then the record is written (R333). -/
theorem State.fwLog_cases (s : State) (c point level a0 a1 : Nat) :
    s.fwLog c point level a0 a1 = s ∨ ∃ m, UnitWrote (s.updFw (fun f => { f with cores := f.cores.put c m })) (s.fwLog c point level a0 a1) := by
  unfold State.fwLog
  split
  · exact .inl rfl
  · dsimp only
    split_ifs
    · exact .inl rfl
    · exact .inr ⟨_, State.unitWrote_schPut ..⟩

theorem State.coreActed_fwLog (s : State) (c point level a0 a1 : Nat) : CoreActed s (s.fwLog c point level a0 a1) := by
  rcases s.fwLog_cases c point level a0 a1 with h | ⟨m, h⟩
  · rw [h]
    exact .refl s
  · have hput : CoreActed s (s.updFw (fun f => { f with cores := f.cores.put c m })) := ⟨rfl, rfl, rfl, fun _ _ => rfl⟩
    exact hput.trans h.coreActed

theorem State.tiles_fwLog (s : State) (c point level a0 a1 : Nat) : (s.fwLog c point level a0 a1).tiles = s.tiles := by
  rcases s.fwLog_cases c point level a0 a1 with h | ⟨m, h⟩
  · rw [h]
  · exact h.tiles

/-- Of the registers the log touches the counts of sealed regions only (R303). -/
theorem State.rg_fwLog (s : State) (c point level a0 a1 : Nat) {a : Nat} (ha : a < 0x420000 ∨ 0x430000 ≤ a) : (s.fwLog c point level a0 a1).rg a = s.rg a := by
  rcases s.fwLog_cases c point level a0 a1 with h | ⟨m, h⟩
  · rw [h]
  · exact h.rg a ha

theorem State.wf_fwLog {s : State} (hw : s.regs.wf = true) (c point level a0 a1 : Nat) : (s.fwLog c point level a0 a1).regs.wf = true := by
  rcases s.fwLog_cases c point level a0 a1 with h | ⟨m, h⟩
  · rw [h]
    exact hw
  · exact h.wf hw

theorem State.coreActed_counterNow (s : State) (k : Nat) (op : CtrOp) : CoreActed s (s.counterNow k op) := by
  obtain ⟨honly, -, hlow⟩ := s.onlyHighRegs_counterOp k op
  refine ⟨by rw [State.counterNow, State.wakeCounter, honly]; rfl, by rw [State.counterNow, State.wakeCounter, honly]; rfl,
    by rw [State.counterNow, State.wakeCounter, honly]; rfl, fun a ha => ?_⟩
  rw [State.counterNow, State.rg_wakeCounter, hlow a (by omega)]
  refine State.rg_setRg_ne ?_ s _
  change a ≠ 0x1000000 + 0x10 * k
  omega

theorem State.coreActed_schWrite {s : State} {f : State → State} (hf : CoreActed s (f s)) (c a d : Nat) : CoreActed s (s.schWrite c a d f) :=
  State.schWrite_cases hf (s.unitWrote_accessError ..).coreActed

/-- The core runs under the same parameter block as long as it is given no other. -/
theorem State.exists_core_of_fwRuns {s : State} {c : Nat} (h : s.fwRuns c = true) : ∃ k, s.fw.cores.find c = some k := by
  cases hk : s.fw.cores.find c with
  | none => simp [State.fwRuns, hk] at h
  | some k => exact ⟨k, rfl⟩

theorem State.exists_core_fwLog {s : State} {c : Nat} (h : ∃ k, s.fw.cores.find c = some k) (point level a0 a1 : Nat) :
    ∃ k, (s.fwLog c point level a0 a1).fw.cores.find c = some k := by
  rcases s.fwLog_cases c point level a0 a1 with hl | ⟨m, hl⟩
  · rw [hl]
    exact h
  · rw [hl.only]
    exact ⟨m, Tab.find_put_same s.fw.cores c m⟩

/-! ### Records, publications and the end of a job -/

/-- The queue's record number after one more record. -/
def State.counted (s : State) (q : Nat) : State := s.setFwQueue q { s.fwQueue q with n := (s.fwQueue q).n + 1 }

/-- A record counts in its queue; all else that it does is an access of the core (R332). -/
theorem State.coreActed_record {s : State} {r : Rec} (hcore : ∃ k, s.fw.cores.find r.core = some k) : CoreActed (s.counted r.q) (s.record r) := by
  obtain ⟨k, hk⟩ := hcore
  simp only [State.record, hk]
  exact ((State.unitWrote_schPut _ _ _ _).coreActed.trans (State.coreActed_schWrite (State.coreActed_counterNow _ _ _) _ _ _)).trans (State.coreActed_fwLog _ ..)

theorem State.fwQueue_eq_of_queues {s u : State} (h : u.fw.queues = s.fw.queues) (q : Nat) : u.fwQueue q = s.fwQueue q := by
  rw [State.fwQueue, h, State.fwQueue]

@[simp] theorem State.fwQueue_setFwQueue_same (s : State) (q : Nat) (v : FwQueue) : (s.setFwQueue q v).fwQueue q = v := Tab.get_put_same s.fw.queues _ q v

theorem State.n_counted (s : State) (q : Nat) : ((s.counted q).fwQueue q).n = (s.fwQueue q).n + 1 := by rw [State.counted, State.fwQueue_setFwQueue_same]

theorem State.n_record {s : State} {r : Rec} (hcore : ∃ k, s.fw.cores.find r.core = some k) : ((s.record r).fwQueue r.q).n = (s.fwQueue r.q).n + 1 := by
  rw [State.fwQueue_eq_of_queues (State.coreActed_record hcore).queues, State.n_counted]

theorem State.n_publish (s : State) (j : Job) : ((s.publish j).fwQueue j.q).n = (s.fwQueue j.q).n := by
  rw [State.publish, State.fwQueue_setFwQueue_same]

theorem State.published_publish (s : State) (j : Job) : (s.publish j).published j.q j.tag = some (j.out, j.rel.1) := by
  have hfind : (s.publish j).fw.queues.find j.q = some ⟨(s.fwQueue j.q).n, (j.tag, j.out, j.rel.1) :: (s.fwQueue j.q).pubs.filter (fun p => p.1 ≠ j.tag)⟩ :=
    Tab.find_put_same s.fw.queues j.q _
  simp [State.published, hfind]

theorem State.published_eq_of_queues {s u : State} (h : u.fw.queues = s.fw.queues) (q tag : Nat) : u.published q tag = s.published q tag := by
  rw [State.published, h, State.published]

theorem State.askScan_only (s : State) (c cause : Nat) : s.askScan c cause = { s with events := (s.askScan c cause).events } := by
  rw [State.askScan_eq]
  split <;> rfl

/-- The end of every job: its JID is killed, the kill is logged, its events are spent, it leaves its queue, and a scan is asked for (R326, R330). -/
def State.retire (s : State) (j : Job) (jid cause : Nat) : State :=
  ((((s.fwKill j.core jid).fwLog j.core 0xA 2 jid cause).spendEvents j).dropJob j).askScan j.core 1

/-- What the end of a job leaves behind. -/
structure Retired (s u : State) (j : Job) (jid : Nat) : Prop where
  jobs : u.fw.jobs = s.fw.jobs.filter (fun i => i.q ≠ j.q ∨ i.seq ≠ j.seq)
  queues : u.fw.queues = s.fw.queues
  swp : u.swp = s.swp
  kill : s.fwAllows .sch (Reg.adr .FAB_KILL []) 4 true = true → jid ∈ u.fab.killPend ∨ s.fab.kill.map (·.jid) = some jid

theorem State.fwKill_keeps (s : State) (c jid : Nat) : (s.fwKill c jid).fw = s.fw ∧ (s.fwKill c jid).swp = s.swp :=
  State.schWrite_cases (P := fun u => u.fw = s.fw ∧ u.swp = s.swp) (by rw [State.killRequest_only]; exact ⟨rfl, rfl⟩) ⟨rfl, rfl⟩

theorem State.retired_retire (s : State) (j : Job) (jid cause : Nat) : Retired s (s.retire j jid cause) j jid := by
  obtain ⟨hfw, hswp⟩ := s.fwKill_keeps j.core jid
  have hlog := (s.fwKill j.core jid).coreActed_fwLog j.core 0xA 2 jid cause
  rw [State.retire, State.askScan_only]
  refine ⟨?_, hlog.queues.trans (by rw [hfw]), hlog.swp.trans hswp, fun hallow => ?_⟩
  · change (((s.fwKill j.core jid).fwLog j.core 0xA 2 jid cause).fw.jobs.filter (fun i => i.q ≠ j.q ∨ i.seq ≠ j.seq)) = _
    rw [hlog.jobs, hfw]
  · by_cases hrun : s.fab.kill.map (·.jid) = some jid
    · exact .inr hrun
    · refine .inl ?_
      change jid ∈ ((s.fwKill j.core jid).fwLog j.core 0xA 2 jid cause).fab.killPend
      rw [hlog.fab, State.fwKill, State.schWrite_allowed hallow]
      exact State.mem_killPend_killRequest hrun

/-! ### The report of a completion -/

theorem State.jobOfJid_spec {s : State} {jid : Nat} {j : Job} (h : s.jobOfJid jid = some j) : j ∈ s.fw.jobs ∧ j.jid = jid ∧ jid ≠ 0 := by
  have hp := List.find?_some h
  simp only [Bool.and_eq_true, beq_iff_eq, bne_iff_ne] at hp
  exact ⟨List.mem_of_find?_eq_some h, hp.1, hp.2⟩

/-- The job's contexts have come to their end, and nothing else has ended it (R69). -/
def State.completes (s : State) (j : Job) : Prop :=
  j.st = .released ∧ j.launch = [] ∧ j.done = none ∧ j.miss = none ∧ j.killed = false ∧ s.allHalted j = true

/-- What the sweep unit judges of a completion: 0 on time, one more than the lateness otherwise (R69). -/
def State.judged (s : State) (jid : Nat) : Nat :=
  match s.swp.store.find? (fun d => d.jid == jid) with
  | some d => if d.missed then s.lateBy d + 1 else 0
  | none => 0

/-- The deadline of a job out of the store. -/
def State.dropDeadline (s : State) (jid : Nat) : State := s.updSwp (fun w => { w with store := w.store.filter (fun d => d.jid ≠ jid) })

theorem State.mem_store_dropDeadline {s : State} {jid : Nat} {d : DlEnt} : d ∈ (s.dropDeadline jid).swp.store ↔ d ∈ s.swp.store ∧ d.jid ≠ jid := by
  simp [State.dropDeadline, State.updSwp]

theorem State.judged_on_time {s : State} {jid : Nat} (h : ∀ d ∈ s.swp.store, d.jid = jid → d.missed = false) : s.judged jid = 0 := by
  unfold State.judged
  split
  next d hd => simp [h d (List.mem_of_find?_eq_some hd) (by simpa using List.find?_some hd)]
  next => rfl

theorem State.completionReport_none {s : State} {jid : Nat} (h : s.jobOfJid jid = none) : s.completionReport jid = s := by
  simp [State.completionReport, h]

theorem State.completionReport_not {s : State} {jid : Nat} {j : Job} (hj : s.jobOfJid jid = some j)
    (h : j.st ≠ .released ∨ j.launch ≠ [] ∨ j.done.isSome = true ∨ j.miss.isSome = true ∨ j.killed = true ∨ s.allHalted j = false) :
    s.completionReport jid = s := by
  simp only [State.completionReport, hj]
  exact if_pos (by simpa using h)

theorem State.completionReport_completes {s : State} {jid : Nat} {j : Job} (hj : s.jobOfJid jid = some j) (h : s.completes j) :
    s.completionReport jid = (s.dropDeadline jid).updTaken j.q j.seq (fun j => { j with done := some (s.judged jid) }) := by
  obtain ⟨hst, hlaunch, hdone, hmiss, hkill, hhalt⟩ := h
  simp only [State.completionReport, hj]
  rw [if_neg (by simp [hst, hlaunch, hdone, hmiss, hkill, hhalt])]
  rfl

theorem State.jobComplete_not_judged {s : State} {jid : Nat} (h : ∀ j, (s.completionReport jid).jobOfJid jid = some j → j.done = none) :
    s.jobComplete jid = s.completionReport jid := by
  unfold State.jobComplete
  dsimp only
  split
  · rfl
  next j hj => rw [h j hj]

/-- The completion of a job that has been judged: trace, record, publication, and the end of every job (R329, R331). -/
theorem State.jobComplete_judged {s : State} {jid : Nat} {j : Job} {l : Nat} (hj : (s.completionReport jid).jobOfJid jid = some j) (hdone : j.done = some l)
    (hrun : (s.completionReport jid).fwRuns j.core = true) (hmiss : j.miss = none) (hkill : j.killed = false) :
    s.jobComplete jid =
      ((((s.completionReport jid).fwLog j.core 7 0 jid ((s.completionReport jid).lastHalt j)).record
        ⟨j.q, j.core, j.seq, j.tag, if l = 0 then 0 else 1, (0, 0, 0), l - 1, j.out, j.rel.1⟩).publish j).retire j jid 0 := by
  simp [State.jobComplete, hj, hdone, hrun, hmiss, hkill, State.retire]

/-- A fault that ends a job is traced (R330, R334). -/
def State.traceFault (s : State) (j : Job) (f : Nat × Nat × Nat) : State :=
  if f.1 = 0 then s else s.fwLog j.core 9 3 j.jid (f.1 * 65536 + f.2.1 * 256 + f.2.2)

/-- The record of a job that a fault, a kill or a miss ends (R330). -/
def State.endRec (s : State) (j : Job) (status : Nat) (f : Nat × Nat × Nat) : Rec :=
  let pub := if status = 3 then (s.published j.q j.tag).getD (0, 0) else (0, 0)
  ⟨j.q, j.core, j.seq, j.tag, status, f, 0, pub.1, pub.2⟩

theorem State.endJob_eq (s : State) (j : Job) (status cause : Nat) (f : Nat × Nat × Nat) :
    s.endJob j status cause f = (((s.dropDeadline j.jid).traceFault j f).record (s.endRec j status f)).retire j j.jid cause := rfl

theorem State.coreActed_traceFault (s : State) (j : Job) (f : Nat × Nat × Nat) : CoreActed s (s.traceFault j f) := by
  unfold State.traceFault
  split
  · exact .refl s
  · exact s.coreActed_fwLog ..

theorem State.exists_core_traceFault {s : State} {j : Job} (h : ∃ k, s.fw.cores.find j.core = some k) (f : Nat × Nat × Nat) :
    ∃ k, (s.traceFault j f).fw.cores.find j.core = some k := by
  unfold State.traceFault
  split
  · exact h
  · exact State.exists_core_fwLog h ..

/-- What a job that has ended leaves: no entry, no deadline, one record more in its queue, and a kill of its JID (R330). -/
structure Ended (s u : State) (j : Job) : Prop where
  jobs : ∀ i, i ∈ u.fw.jobs ↔ i ∈ s.fw.jobs ∧ (i.q ≠ j.q ∨ i.seq ≠ j.seq)
  store : ∀ d ∈ u.swp.store, d.jid ≠ j.jid
  n : (u.fwQueue j.q).n = (s.fwQueue j.q).n + 1
  kill : s.fwAllows .sch (Reg.adr .FAB_KILL []) 4 true = true → j.jid ∈ u.fab.killPend ∨ s.fab.kill.map (·.jid) = some j.jid

theorem State.ended_endJob {s : State} {j : Job} (hrun : s.fwRuns j.core = true) (status cause : Nat) (f : Nat × Nat × Nat) :
    Ended s (s.endJob j status cause f) j := by
  have hcore : ∃ k, ((s.dropDeadline j.jid).traceFault j f).fw.cores.find j.core = some k :=
    State.exists_core_traceFault (State.exists_core_of_fwRuns (s := s.dropDeadline j.jid) hrun) f
  have htrace := (s.dropDeadline j.jid).coreActed_traceFault j f
  have hrec := State.coreActed_record (r := s.endRec j status f) hcore
  have hn := State.n_record (r := s.endRec j status f) hcore
  rw [State.endJob_eq]
  generalize (s.dropDeadline j.jid).traceFault j f = t at htrace hrec hn
  obtain ⟨hjobs, hqueues, hswp, hkill⟩ := (t.record (s.endRec j status f)).retired_retire j j.jid cause
  refine ⟨fun i => ?_, fun d hd => ?_, ?_, fun hallow => ?_⟩
  · rw [hjobs, List.mem_filter, show (t.record (s.endRec j status f)).fw.jobs = s.fw.jobs from hrec.jobs.trans htrace.jobs, decide_eq_true_eq]
  · rw [hswp, show (t.record (s.endRec j status f)).swp = (s.dropDeadline j.jid).swp from hrec.swp.trans htrace.swp] at hd
    exact (State.mem_store_dropDeadline.1 hd).2
  · rw [State.fwQueue_eq_of_queues hqueues]
    exact hn.trans (congrArg (fun v => v.n + 1) (State.fwQueue_eq_of_queues htrace.queues j.q))
  · have hrg : ∀ a, a < 0x400000 → (t.record (s.endRec j status f)).rg a = s.rg a := fun a ha => (hrec.rg a ha).trans (htrace.rg a ha)
    have hfab : (t.record (s.endRec j status f)).fab = s.fab := hrec.fab.trans htrace.fab
    rw [State.fwAllows_congr hrg, hfab] at hkill
    exact hkill hallow

/-- The record, the publication and the end of a job that completes (R329, R331). -/
def State.finish (s : State) (j : Job) (jid : Nat) (r : Rec) : State := ((s.record r).publish j).retire j jid 0

/-- What a job that has completed leaves. -/
structure Finished (s u : State) (j : Job) (jid : Nat) : Prop where
  jobs : u.fw.jobs = s.fw.jobs.filter (fun i => i.q ≠ j.q ∨ i.seq ≠ j.seq)
  published : u.published j.q j.tag = some (j.out, j.rel.1)
  n : (u.fwQueue j.q).n = (s.fwQueue j.q).n + 1
  swp : u.swp = s.swp
  kill : s.fwAllows .sch (Reg.adr .FAB_KILL []) 4 true = true → jid ∈ u.fab.killPend ∨ s.fab.kill.map (·.jid) = some jid

theorem State.finished_finish {s : State} {j : Job} (jid : Nat) {r : Rec} (hq : r.q = j.q) (hcore : ∃ k, s.fw.cores.find r.core = some k) :
    Finished s (s.finish j jid r) j jid := by
  have hrec := State.coreActed_record hcore
  have hn := State.n_record hcore
  rw [hq] at hn
  rw [State.finish]
  generalize s.record r = v at hrec hn
  obtain ⟨hjobs, hqueues, hswp, hkill⟩ := (v.publish j).retired_retire j jid 0
  refine ⟨hjobs.trans (congrArg _ hrec.jobs), ?_, ?_, hswp.trans hrec.swp, fun hallow => ?_⟩
  · rw [State.published_eq_of_queues hqueues, State.published_publish]
  · rw [State.fwQueue_eq_of_queues hqueues, State.n_publish, hn]
  · have hall : (v.publish j).fwAllows .sch (Reg.adr .FAB_KILL []) 4 true = true :=
      (State.fwAllows_congr (s := s) (u := v.publish j) hrec.rg ..).trans hallow
    have hfab : (v.publish j).fab = s.fab := hrec.fab
    rw [← hfab]
    exact hkill hall

/-- The one job of the firmware completes (R329). -/
theorem State.finished_jobComplete {s : State} {jid : Nat} {j : Job} (hj : s.jobOfJid jid = some j) (h : s.completes j) (hrun : s.fwRuns j.core = true)
    (hjobs : s.fw.jobs = [j]) : ∃ l t, CoreActed (s.completionReport jid) t ∧ Finished t (s.jobComplete jid) { j with done := some l } jid := by
  obtain ⟨-, hjid, hne⟩ := State.jobOfJid_spec hj
  have hreport := State.completionReport_completes hj h
  have hjobs' : (s.completionReport jid).fw.jobs = [{ j with done := some (s.judged jid) }] := by
    rw [hreport]
    simp [State.updTaken, State.updFw, State.dropDeadline, State.updSwp, hjobs, updFirst]
  have hj' : (s.completionReport jid).jobOfJid jid = some { j with done := some (s.judged jid) } := by simp [State.jobOfJid, hjobs', hjid, hne]
  obtain ⟨-, -, -, hmiss, hkilled, -⟩ := h
  have hrun' : (s.completionReport jid).fwRuns j.core = true := by
    rw [hreport]
    exact hrun
  rw [State.jobComplete_judged hj' rfl hrun' hmiss hkilled]
  exact ⟨s.judged jid, _, State.coreActed_fwLog _ .., State.finished_finish jid rfl (State.exists_core_fwLog (State.exists_core_of_fwRuns hrun') ..)⟩

theorem State.jobComplete_completes {s : State} {jid : Nat} {j : Job} (hj : s.jobOfJid jid = some j) (h : s.completes j) (hrun : s.fwRuns j.core = true)
    (hjobs : s.fw.jobs = [j]) :
    (s.jobComplete jid).fw.jobs = [] ∧ (s.jobComplete jid).published j.q j.tag = some (j.out, j.rel.1) ∧
      ((s.jobComplete jid).fwQueue j.q).n = (s.fwQueue j.q).n + 1 ∧ (∀ d ∈ (s.jobComplete jid).swp.store, d.jid ≠ jid) ∧
      (s.fwAllows .sch (Reg.adr .FAB_KILL []) 4 true = true → jid ∈ (s.jobComplete jid).fab.killPend ∨ s.fab.kill.map (·.jid) = some jid) := by
  obtain ⟨l, t, hacted, hleft, hpub, hn, hswp, hkill⟩ := State.finished_jobComplete hj h hrun hjobs
  rw [State.completionReport_completes hj h] at hacted
  refine ⟨?_, hpub, ?_, fun d hd => ?_, fun hallow => ?_⟩
  · rw [hleft, hacted.jobs]
    simp [State.updTaken, State.updFw, State.dropDeadline, State.updSwp, hjobs, updFirst]
  · rw [hn, State.fwQueue_eq_of_queues hacted.queues]
    rfl
  · rw [hswp, hacted.swp] at hd
    exact (State.mem_store_dropDeadline.1 hd).2
  · have hall := (State.fwAllows_congr hacted.rg .sch (Reg.adr .FAB_KILL []) 4 true).trans hallow
    rw [hacted.fab] at hkill
    exact hkill hall

end Sys2Proof.Machine

namespace Sys2Proof.Machine
open Sys2Proof

/-! ### What keeps the tags of the tiles -/

/-- No TILE_JOB has changed: every tile carries the JID that it carried (R184). -/
structure KeepsTags (s u : State) : Prop where
  rg : ∀ t, u.rg (Reg.adr .TILE_JOB (tix t)) = s.rg (Reg.adr .TILE_JOB (tix t))

theorem adr_tileJob (t : Nat) : Reg.adr .TILE_JOB (tix t) = 0x2100018 + 0x1000000 * (t / 34) + 0x10000 * (t % 34) := rfl

theorem KeepsTags.refl (s : State) : KeepsTags s s := ⟨fun _ => rfl⟩

theorem KeepsTags.trans {s t u : State} (h : KeepsTags s t) (h' : KeepsTags t u) : KeepsTags s u := ⟨fun x => (h'.rg x).trans (h.rg x)⟩

theorem KeepsTags.foldl {α : Type} {f : State → α → State} (hf : ∀ s x, KeepsTags s (f s x)) (xs : List α) (s : State) : KeepsTags s (xs.foldl f s) := by
  induction xs generalizing s with
  | nil => exact .refl s
  | cons x xs ih => exact (hf s x).trans (ih _)

theorem KeepsTags.jobOf {s u : State} (h : KeepsTags s u) (t : Nat) : u.jobOf t = s.jobOf t := by
  have hreg : u.reg .TILE_JOB (tix t) = s.reg .TILE_JOB (tix t) := congrArg BitVec.toNat (h.rg t)
  rw [State.jobOf, State.flag, State.fld, hreg]
  rfl

theorem KeepsTags.of_regs {s u : State} (h : u.regs = s.regs) : KeepsTags s u := ⟨fun _ => by rw [State.rg, h, State.rg]⟩

theorem UnitWrote.keepsTags {s u : State} (h : UnitWrote s u) : KeepsTags s u := ⟨fun t => h.rg _ (.inr (by rw [adr_tileJob]; omega))⟩

theorem State.keepsTags_fwLog (s : State) (c point level a0 a1 : Nat) : KeepsTags s (s.fwLog c point level a0 a1) :=
  ⟨fun t => s.rg_fwLog c point level a0 a1 (.inr (by rw [adr_tileJob]; omega))⟩

theorem State.keepsTags_setReg {r : Reg} {is : List Nat} (h : ∀ t, Reg.adr .TILE_JOB (tix t) ≠ r.adr is) (s : State) (v : Nat) : KeepsTags s (s.setReg r is v) :=
  ⟨fun t => State.rg_setRg_ne (h t) s _⟩

theorem State.keepsTags_setFld {r : Reg} {is : List Nat} (h : ∀ t, Reg.adr .TILE_JOB (tix t) ≠ r.adr is) (s : State) (hi lo v : Nat) :
    KeepsTags s (s.setFld r is hi lo v) := s.keepsTags_setReg h _

theorem State.keepsTags_setFlag {r : Reg} {is : List Nat} (h : ∀ t, Reg.adr .TILE_JOB (tix t) ≠ r.adr is) (s : State) (i : Nat) (b : Bool) :
    KeepsTags s (s.setFlag r is i b) := s.keepsTags_setReg h _

theorem State.keepsTags_updTaken (s : State) (q seq : Nat) (f : Job → Job) : KeepsTags s (s.updTaken q seq f) := ⟨fun _ => rfl⟩

theorem State.keepsTags_updTile (s : State) (t : Nat) (f : Tile → Tile) : KeepsTags s (s.updTile t f) := ⟨fun _ => rfl⟩

theorem State.keepsTags_setReg64 {lo hi : Reg} {is : List Nat} (hlo : ∀ t, Reg.adr .TILE_JOB (tix t) ≠ lo.adr is)
    (hhi : ∀ t, Reg.adr .TILE_JOB (tix t) ≠ hi.adr is) (s : State) (v : Nat) : KeepsTags s (s.setReg64 lo hi is v) :=
  (State.keepsTags_setReg hlo s _).trans (State.keepsTags_setReg hhi _ _)

theorem State.keepsTags_schWrite {s : State} {f : State → State} (hf : KeepsTags s (f s)) (c a d : Nat) : KeepsTags s (s.schWrite c a d f) :=
  State.schWrite_cases hf ⟨fun _ => rfl⟩

theorem State.keepsTags_fwReg {r : Reg} {is : List Nat} (h : ∀ t, Reg.adr .TILE_JOB (tix t) ≠ r.adr is) (s : State) (c v : Nat) : KeepsTags s (s.fwReg c r is v) :=
  State.keepsTags_schWrite (s.keepsTags_setReg h v) ..

theorem State.keepsTags_fwReg64 {lo hi : Reg} {is : List Nat} (hlo : ∀ t, Reg.adr .TILE_JOB (tix t) ≠ lo.adr is)
    (hhi : ∀ t, Reg.adr .TILE_JOB (tix t) ≠ hi.adr is) (s : State) (c v : Nat) : KeepsTags s (s.fwReg64 c lo hi is v) :=
  State.keepsTags_schWrite (s.keepsTags_setReg64 hlo hhi v) ..

/-! ### The registers of an admission are not the tags -/

theorem tileJob_ne_hoop (r : Reg) (hr : r = .CLU_HOOPh_LOG ∨ r = .CLU_HOOPh_TALLY) (c h t : Nat) : Reg.adr .TILE_JOB (tix t) ≠ r.adr [c, h] := by
  rw [adr_tileJob]
  rcases hr with rfl | rfl
  · change _ ≠ 0x200100c + 0x1000000 * c + 0x20 * h
    omega
  · change _ ≠ 0x2001010 + 0x1000000 * c + 0x20 * h
    omega

theorem tileJob_ne_of_lt {a : Nat} (h : a < 0x2000000) (t : Nat) : Reg.adr .TILE_JOB (tix t) ≠ a := by
  rw [adr_tileJob]
  omega

theorem tileJob_ne_rntVal (k t : Nat) : Reg.adr .TILE_JOB (tix t) ≠ Reg.adr .RNT_VALk [k] := by
  rw [adr_tileJob]
  change _ ≠ 0x1000000 + 0x10 * k
  omega

theorem tileJob_ne_ctxCfg (u k t : Nat) : Reg.adr .TILE_JOB (tix t) ≠ Reg.adr .TILE_CTXk_CFG (tix u ++ [k]) := by
  rw [adr_tileJob]
  change _ ≠ 0x2100100 + 0x1000000 * (u / 34) + 0x10000 * (u % 34) + 0x40 * k
  omega

/-- The registers of the scale loader stand at 0x300, 0x304 and 0x308 of their tile. -/
theorem tileJob_ne_sfld (r : Reg) (hdims : r.desc.dims = [(0x1000000, 4), (0x10000, 34)]) (hlo : 0x2100300 ≤ r.desc.base) (hhi : r.desc.base < 0x210030c) (u t : Nat) :
    Reg.adr .TILE_JOB (tix t) ≠ r.adr (tix u) := by
  have hadr : r.adr (tix u) = r.desc.base + 0x1000000 * (u / 34) + 0x10000 * (u % 34) := by simp [Reg.adr, hdims, spread, tix, clusterOf, slotOf]
  rw [adr_tileJob, hadr]
  omega

theorem tileJob_ne_sfldCtl (u t : Nat) : Reg.adr .TILE_JOB (tix t) ≠ Reg.adr .TILE_SFLD_CTL (tix u) :=
  tileJob_ne_sfld .TILE_SFLD_CTL rfl (by decide) (by decide) u t

/-- The registers of a window fill 0x18 bytes of its 0x40. -/
theorem tileJob_ne_window (r : Reg) (hdims : r.desc.dims = [(0x40, 256)]) (hlo : 0x480000 ≤ r.desc.base) (hhi : r.desc.base < 0x480018) (w t : Nat) :
    Reg.adr .TILE_JOB (tix t) ≠ r.adr [w] := by
  have hadr : r.adr [w] = r.desc.base + 0x40 * w := by simp [Reg.adr, hdims, spread]
  rw [adr_tileJob, hadr]
  omega

/-! ### Operations of an admission keep the tags -/

theorem State.keepsTags_hoopExamine (s : State) (k : Nat) (isSet : Bool) (e : Nat × Hoop) : KeepsTags s (s.hoopExamine k isSet e) := by
  have herr : ∀ kind a b, KeepsTags s (s.hoopError [e.1 / 64, e.1 % 64] kind a b) := by
    intro kind a b
    have hlog := tileJob_ne_hoop .CLU_HOOPh_LOG (.inl rfl) (e.1 / 64) (e.1 % 64)
    unfold State.hoopError
    split
    · exact s.keepsTags_setReg hlog _
    · exact (s.keepsTags_setReg hlog _).trans (State.keepsTags_setReg (tileJob_ne_hoop .CLU_HOOPh_TALLY (.inr rfl) _ _) _ _)
  unfold State.hoopExamine
  dsimp only
  split_ifs
  · exact .refl s
  · exact herr ..
  · exact herr ..
  · exact herr ..
  · exact .refl s

theorem State.keepsTags_counterNow (s : State) (k : Nat) (op : CtrOp) : KeepsTags s (s.counterNow k op) := by
  obtain ⟨isSet, hop⟩ := s.counterOp_eq k op
  have hfold := KeepsTags.foldl (f := fun s e => s.hoopExamine k isSet e) (fun s e => s.keepsTags_hoopExamine k isSet e) s.fab.hoops.entries
    (s.setReg .RNT_VALk [k] (op.result (s.reg .RNT_VALk [k])))
  rw [← hop] at hfold
  exact ((s.keepsTags_setReg (tileJob_ne_rntVal k) _).trans hfold).trans ⟨fun _ => rfl⟩

/-- A barrier's completion writes the barrier and its status (R180). -/
theorem State.regs_barComplete (s : State) (j : Nat) :
    (s.barComplete j).regs =
      ((s.setFld .FAB_BARj [j] 31 16 0).setFld .FAB_BARj_STAT [j] 15 0 ((s.setFld .FAB_BARj [j] 31 16 0).fld .FAB_BARj_STAT [j] 15 0 + 1)).regs := rfl

theorem State.keepsTags_barComplete {s : State} {j : Nat} (hbar : ∀ t, Reg.adr .TILE_JOB (tix t) ≠ Reg.adr .FAB_BARj [j])
    (hstat : ∀ t, Reg.adr .TILE_JOB (tix t) ≠ Reg.adr .FAB_BARj_STAT [j]) : KeepsTags s (s.barComplete j) := by
  have h := (s.keepsTags_setFld hbar 31 16 0).trans
    (State.keepsTags_setFld hstat _ 15 0 ((s.setFld .FAB_BARj [j] 31 16 0).fld .FAB_BARj_STAT [j] 15 0 + 1))
  exact h.trans (KeepsTags.of_regs (s.regs_barComplete j))

/-- A barrier and its status stand below the clusters. -/
theorem State.keepsTags_barWrite (s : State) {j : Nat} (hj : j < 256) (d : Nat) : KeepsTags s (s.barWrite j d) := by
  have hbar : ∀ t, Reg.adr .TILE_JOB (tix t) ≠ Reg.adr .FAB_BARj [j] := tileJob_ne_of_lt (by change 0x460000 + 8 * j < _; omega)
  have hstat : ∀ t, Reg.adr .TILE_JOB (tix t) ≠ Reg.adr .FAB_BARj_STAT [j] := tileJob_ne_of_lt (by change 0x460004 + 8 * j < _; omega)
  have hexp := s.keepsTags_setFld hbar 15 0 (bits d 15 0)
  unfold State.barWrite
  dsimp only
  split_ifs
  · exact (hexp.trans (State.keepsTags_setFld hbar _ 31 16 0)).trans (State.keepsTags_setFlag hstat _ 16 false)
  · exact hexp.trans (State.keepsTags_barComplete hbar hstat)
  · exact hexp

theorem State.keepsTags_startScaleLoad (s : State) (u : Nat) : KeepsTags s (s.startScaleLoad u) := by
  have hctl := tileJob_ne_sfldCtl u
  unfold State.startScaleLoad
  dsimp only
  split_ifs
  · exact .refl s
  · exact s.keepsTags_setFlag hctl 29 true
  · exact (s.keepsTags_setFlag hctl 30 true).trans (State.keepsTags_updTile ..)

theorem State.keepsTags_applyRec (s : State) (c jid : Nat) (r : SchedRec) : KeepsTags s (s.applyRec c jid r) := by
  unfold State.applyRec
  split
  · split
    · exact (s.unitWrote_accessError ..).keepsTags
    · exact State.keepsTags_schWrite (s.keepsTags_counterNow _ _) ..
  next w peer rd wr cnt base limit =>
    have hwin := fun r hdims hlo hhi => tileJob_ne_window r hdims hlo hhi w
    refine KeepsTags.trans (KeepsTags.trans (KeepsTags.trans (State.keepsTags_fwReg64 ?_ ?_ s ..) (State.keepsTags_fwReg64 ?_ ?_ _ ..))
      (State.keepsTags_fwReg ?_ _ ..)) (State.keepsTags_schWrite (State.keepsTags_setReg ?_ _ _) ..) <;>
      exact hwin _ rfl (by decide) (by decide)
  · exact .refl s

/-- The counters of an admission are cleared and tagged (R327 step 2). -/
def State.admitCounter (c jid : Nat) (s : State) (k : Nat) : State :=
  if 16383 < k then s.accessError 2 (iniSch c) (Reg.adr .RNT_VALk [k]) 0 else (s.fwSetCtr c k 0).fwReg c .RNT_CFGk [k] (256 + jid)

theorem State.keepsTags_admitCounter (s : State) (c jid k : Nat) : KeepsTags s (s.admitCounter c jid k) := by
  unfold State.admitCounter
  split
  · exact (s.unitWrote_accessError ..).keepsTags
  · refine (State.keepsTags_schWrite (s.keepsTags_counterNow _ _) ..).trans (State.keepsTags_fwReg (tileJob_ne_of_lt ?_) _ _ _)
    change 0x1000008 + 0x10 * k < _
    omega

/-- The tag and the configuration of one context of an admission (R327 step 1). -/
def State.admitEnt (j : Job) (jid : Nat) (s : State) (e : JobCtx) : State :=
  (s.fwReg j.core .TILE_JOB (tix (s.physG e.gtile)) (256 + jid)).fwReg j.core .TILE_CTXk_CFG (tix (s.physG e.gtile) ++ [e.ctx]) (j.mctx % 64 * 256 + e.prio % 4)

/-- After its first step an admission leaves the tags as they are (R327). -/
theorem State.keepsTags_admitJob (s : State) (j : Job) {jid : Nat} (hjid : jid < 256) : KeepsTags (j.ents.foldl (State.admitEnt j jid) s) (s.admitJob j jid) := by
  have hctrs := KeepsTags.foldl (f := State.admitCounter j.core jid) (fun s k => s.keepsTags_admitCounter j.core jid k) (countersOf (s.schedHdr j.sched).ranges)
    (j.ents.foldl (State.admitEnt j jid) s)
  refine KeepsTags.trans (KeepsTags.trans (KeepsTags.trans (KeepsTags.trans hctrs (KeepsTags.foldl (fun s r => ?_) (s.schedRecs j.sched (s.schedHdr j.sched)) _))
    (State.keepsTags_schWrite (State.keepsTags_barWrite _ hjid _) ..)) (KeepsTags.foldl (fun s r => ?_) (s.schedRecs j.sched (s.schedHdr j.sched)) _))
    ⟨fun _ => rfl⟩
  · split
    · exact s.keepsTags_applyRec ..
    · exact .refl s
  · split
    · exact s.keepsTags_applyRec ..
    · exact .refl s

/-- One scale load of an admission, and the loads that must wait (R327 step 6). -/
def State.admitLoad (j : Job) (p : State × List (Nat × Nat × Nat × Nat)) (l : Nat × Nat × Nat × Nat) : State × List (Nat × Nat × Nat × Nat) :=
  let t := p.1.physG l.1
  if p.1.flag .TILE_SFLD_CTL (tix t) 30 then (p.1, p.2 ++ [l])
  else
    let v := j.mctx % 64 * 2 ^ 21 + l.2.2.1 % 2048 * 1024 + l.2.1 % 1024
    let s := p.1.fwReg64 j.core .TILE_SFLD_LO .TILE_SFLD_HI (tix t) (l.2.2.2 % 2 ^ 48)
    (s.schWrite j.core (Reg.adr .TILE_SFLD_CTL (tix t)) (2 ^ 31 + v) (fun s => (s.setReg .TILE_SFLD_CTL (tix t) v).startScaleLoad t), p.2)

theorem State.keepsTags_admitLoad (j : Job) (p : State × List (Nat × Nat × Nat × Nat)) (l : Nat × Nat × Nat × Nat) : KeepsTags p.1 (State.admitLoad j p l).1 := by
  have hlo := tileJob_ne_sfld .TILE_SFLD_LO rfl (by decide) (by decide) (p.1.physG l.1)
  have hhi := tileJob_ne_sfld .TILE_SFLD_HI rfl (by decide) (by decide) (p.1.physG l.1)
  have hctl := tileJob_ne_sfldCtl (p.1.physG l.1)
  unfold State.admitLoad
  dsimp only
  split
  · exact .refl _
  · have hva := State.keepsTags_fwReg64 hlo hhi p.1 j.core (l.2.2.2 % 2 ^ 48)
    refine hva.trans ?_
    dsimp only
    exact State.keepsTags_schWrite ((State.keepsTags_setReg hctl _ _).trans (State.keepsTags_startScaleLoad _ _)) ..

theorem State.keepsTags_admitLoads (s : State) (j : Job) : KeepsTags s (s.admitLoads j) := by
  have hloads : ∀ (ls : List (Nat × Nat × Nat × Nat)) p, KeepsTags p.1 (ls.foldl (State.admitLoad j) p).1 := by
    intro ls
    induction ls with
    | nil => exact fun p => .refl p.1
    | cons l ls ih => exact fun p => (State.keepsTags_admitLoad j p l).trans (ih _)
  have hgo := (hloads j.loads (s, [])).trans (State.keepsTags_updTaken _ j.q j.seq (fun i => { i with loads := (j.loads.foldl (State.admitLoad j) (s, [])).2 }))
  unfold State.admitLoads
  dsimp only
  split
  · exact hgo
  · refine ((hgo.trans (KeepsTags.foldl (fun s e => ?_) j.ents _)).trans (State.keepsTags_updTaken _ j.q j.seq _)).trans (State.keepsTags_fwLog _ ..)
    exact (s.unitWrote_schSpad ..).keepsTags

end Sys2Proof.Machine

namespace Sys2Proof.Machine
open Sys2Proof

/-! ### The tags of an admission -/

/-- The first step of an admission: the firewall and the bindings of the tiles are as they were. -/
structure EntsWritten (s u : State) : Prop where
  wf : s.regs.wf = true → u.regs.wf = true
  low : ∀ a, a < 0x400000 → u.rg a = s.rg a
  physG : ∀ g, u.physG g = s.physG g

theorem EntsWritten.refl (s : State) : EntsWritten s s := ⟨id, fun _ _ => rfl, fun _ => rfl⟩

theorem EntsWritten.trans {s t u : State} (h : EntsWritten s t) (h' : EntsWritten t u) : EntsWritten s u :=
  ⟨h'.wf ∘ h.wf, fun a ha => (h'.low a ha).trans (h.low a ha), fun g => (h'.physG g).trans (h.physG g)⟩

/-- The 32 bindings of a cluster stand at 0x100 to 0x17F of its window. -/
theorem State.physG_congr {s u : State} (h : ∀ c l, l < 32 → u.rg (0x2000100 + 0x1000000 * c + 4 * l) = s.rg (0x2000100 + 0x1000000 * c + 4 * l)) (g : Nat) :
    u.physG g = s.physG g := by
  have hreg : u.reg .CLU_REMAPl [g / 32, g % 32] = s.reg .CLU_REMAPl [g / 32, g % 32] := congrArg BitVec.toNat (h _ _ (Nat.mod_lt g (by decide)))
  rw [State.physG, State.physOf, State.fld, hreg]
  rfl

/-- A write of a tile's register beside the tile's windows for bindings and the firewall. -/
theorem State.entsWritten_setReg (s : State) {r : Reg} {is : List Nat} (t o : Nat) (hadr : r.adr is = 0x2100000 + 0x1000000 * (t / 34) + 0x10000 * (t % 34) + o)
    (ho : o < 0x10000) (v : Nat) : EntsWritten s (s.setReg r is v) := by
  refine ⟨fun hw => State.wf_setReg hw .., fun a ha => State.rg_setRg_ne (by omega) s _, State.physG_congr fun c l hl => State.rg_setRg_ne ?_ s _⟩
  omega

theorem State.entsWritten_accessError (s : State) (code : Nat) (ini : Initiator) (a d : Nat) : EntsWritten s (s.accessError code ini a d) :=
  ⟨id, fun _ _ => rfl, fun _ => rfl⟩

theorem State.entsWritten_tag (s : State) (t v : Nat) : EntsWritten s (s.setReg .TILE_JOB (tix t) v) :=
  s.entsWritten_setReg t 0x18 (by rw [adr_tileJob]; omega) (by decide) v

theorem State.entsWritten_ctxCfg (s : State) (c t : Nat) {k : Nat} (hk : k < 4) (v : Nat) : EntsWritten s (s.fwReg c .TILE_CTXk_CFG (tix t ++ [k]) v) := by
  refine State.schWrite_cases (s.entsWritten_setReg t (0x100 + 0x40 * k) ?_ (by omega) v) (s.entsWritten_accessError ..)
  change 0x2100100 + 0x1000000 * (t / 34) + 0x10000 * (t % 34) + 0x40 * k = _
  omega

/-- The core may tag every tile of the job, and the ENTRY records name contexts of a tile. -/
def State.mayTag (s : State) (es : List JobCtx) : Prop :=
  ∀ e ∈ es, e.ctx < 4 ∧ s.fwAllows .sch (Reg.adr .TILE_JOB (tix (s.physG e.gtile))) 4 true = true

theorem EntsWritten.mayTag {s u : State} (h : EntsWritten s u) {es : List JobCtx} (hes : s.mayTag es) : u.mayTag es := by
  intro e he
  rw [h.physG, State.fwAllows_congr h.low]
  exact hes e he

/-- A tile carries the tag of the admission. -/
def State.tagged (s : State) (jid t : Nat) : Prop := s.rg (Reg.adr .TILE_JOB (tix t)) = BitVec.ofNat 32 (256 + jid)

theorem KeepsTags.tagged {s u : State} (h : KeepsTags s u) {jid t : Nat} (ht : s.tagged jid t) : u.tagged jid t := (h.rg t).trans ht

/-- A tagged tile carries a valid JID (R184). -/
theorem State.jobOf_tagged {s : State} {jid t : Nat} (hjid : jid < 256) (h : s.tagged jid t) : s.jobOf t = some jid := by
  have hreg : s.reg .TILE_JOB (tix t) = 256 + jid := by
    rw [State.reg, h, BitVec.toNat_ofNat]
    exact Nat.mod_eq_of_lt (by omega)
  have hvalid : bit (256 + jid) 8 = true := by
    rw [bit, show (256 + jid) / 2 ^ 8 = 1 by omega]
    rfl
  have hfield : bits (256 + jid) 7 0 = jid := by
    rw [bits, Nat.pow_zero, Nat.div_one]
    omega
  simp [State.jobOf, State.flag, State.fld, hreg, hvalid, hfield]

theorem State.admitEnt_spec {s : State} (hw : s.regs.wf = true) {j : Job} {e : JobCtx} (he : s.mayTag [e]) (jid : Nat) :
    EntsWritten s (s.admitEnt j jid e) ∧ (s.admitEnt j jid e).tagged jid (s.physG e.gtile) ∧
      ∀ t, s.tagged jid t → (s.admitEnt j jid e).tagged jid t := by
  obtain ⟨hctx, hallow⟩ := he e (List.mem_singleton_self e)
  have htag : s.fwReg j.core .TILE_JOB (tix (s.physG e.gtile)) (256 + jid) = s.setReg .TILE_JOB (tix (s.physG e.gtile)) (256 + jid) :=
    State.schWrite_allowed hallow ..
  rw [State.admitEnt, htag]
  have hcfg := State.keepsTags_fwReg (tileJob_ne_ctxCfg (s.physG e.gtile) e.ctx) (s.setReg .TILE_JOB (tix (s.physG e.gtile)) (256 + jid)) j.core
    (j.mctx % 64 * 256 + e.prio % 4)
  have hsame : (s.setReg .TILE_JOB (tix (s.physG e.gtile)) (256 + jid)).tagged jid (s.physG e.gtile) := State.rg_setRg_same hw _ _
  refine ⟨(s.entsWritten_tag _ _).trans (State.entsWritten_ctxCfg _ _ _ hctx _), hcfg.tagged hsame, fun t ht => hcfg.tagged ?_⟩
  by_cases hadr : Reg.adr .TILE_JOB (tix t) = Reg.adr .TILE_JOB (tix (s.physG e.gtile))
  · rw [State.tagged, hadr]
    exact hsame
  · exact (State.rg_setRg_ne hadr s _).trans ht

/-- Every tile that the ENTRY records name carries the JID (R327 step 1). -/
theorem State.tagged_admitEnts {j : Job} {jid : Nat} (es : List JobCtx) {s : State} (hw : s.regs.wf = true) (hes : s.mayTag es) :
    (∀ e ∈ es, (es.foldl (State.admitEnt j jid) s).tagged jid (s.physG e.gtile)) ∧
      ∀ t, s.tagged jid t → (es.foldl (State.admitEnt j jid) s).tagged jid t := by
  induction es generalizing s with
  | nil => exact ⟨fun e he => absurd he List.not_mem_nil, fun _ => id⟩
  | cons e es ih =>
    obtain ⟨hwrote, htag, hkeep⟩ := State.admitEnt_spec (j := j) hw (fun x hx => hes x (List.mem_cons.2 (.inl (List.mem_singleton.1 hx)))) jid
    obtain ⟨hrest, hstay⟩ := ih (hwrote.wf hw) (hwrote.mayTag fun x hx => hes x (List.mem_cons_of_mem e hx))
    refine ⟨fun x hx => ?_, fun t ht => hstay t (hkeep t ht)⟩
    rcases List.mem_cons.1 hx with rfl | hx
    · exact hstay _ htag
    · rw [← hwrote.physG]
      exact hrest x hx

/-! ### Admission -/

/-- The last step of an admission starts its loads, and picks the job up where none is left. -/
def State.startLoads (s : State) (q : Nat) (j : Job) : State :=
  match s.fw.jobs.find? (fun i => i.q == q && i.seq == j.seq) with
  | some j => s.admitLoads j
  | none => s

theorem State.keepsTags_startLoads (s : State) (q : Nat) (j : Job) : KeepsTags s (s.startLoads q j) := by
  unfold State.startLoads
  split
  · exact s.keepsTags_admitLoads _
  · exact .refl s

/-- The JID that an admission draws (R327; log 22). -/
def State.drawnJid (s : State) : Nat := s.freeJids.getD ((s.free 64).1 % s.freeJids.length) 1

theorem State.drawnJid_mem {s : State} (h : s.freeJids ≠ []) : s.drawnJid ∈ s.freeJids := by
  have hlt : (s.free 64).1 % s.freeJids.length < s.freeJids.length := Nat.mod_lt _ (List.length_pos_of_ne_nil h)
  rw [State.drawnJid, List.getD_eq_getElem _ _ hlt]
  exact List.getElem_mem hlt

theorem State.freeJids_lt {s : State} {x : Nat} (h : x ∈ s.freeJids) : x < 256 := by
  have hmem := List.mem_of_mem_drop (List.mem_of_mem_filter h)
  exact List.mem_range.1 hmem

/-- An admission with a JID, on tiles that are ready (R327). -/
def State.admitReady (s : State) (q : Nat) (j : Job) : State := (({ s with fresh := s.fresh + 1 }).admitJob j s.drawnJid).startLoads q j

/-- What becomes of a job that may be admitted now: it waits, its tiles start up, or it is admitted (R327). -/
def State.admitNext (s : State) (q : Nat) (j : Job) : State :=
  match s.waitsFor j with
  | some why => if j.traced then s else (s.updTaken j.q j.seq (fun j => { j with traced := true })).fwLog j.core 4 1 q why
  | none =>
    let ts := j.ents.map (fun e => s.physG e.gtile)
    if ts.any (fun t => !(s.tile t).ready) then
      ts.foldl (fun s t => s.schWrite j.core (Reg.adr .TILE_CTRL (tix t)) 1 (fun s => s.enableTile t)) s
    else s.admitReady q j

theorem State.freeJids_ne_nil {s : State} {j : Job} (h : s.waitsFor j = none) : s.freeJids ≠ [] := by
  intro hnil
  unfold State.waitsFor at h
  dsimp only at h
  split_ifs at h

theorem State.jobOf_admitReady {s : State} (hw : s.regs.wf = true) {j : Job} (q : Nat) (hjids : s.freeJids ≠ []) (hes : s.mayTag j.ents) {e : JobCtx} (he : e ∈ j.ents) :
    (s.admitReady q j).jobOf (s.physG e.gtile) = some s.drawnJid := by
  have hlt := State.freeJids_lt (State.drawnJid_mem hjids)
  have htag := (State.tagged_admitEnts (j := j) (jid := s.drawnJid) j.ents (s := { s with fresh := s.fresh + 1 }) hw hes).1 e he
  have hkeeps := (({ s with fresh := s.fresh + 1 } : State).keepsTags_admitJob j hlt).trans (State.keepsTags_startLoads _ q j)
  exact State.jobOf_tagged hlt (hkeeps.tagged htag)

/-- The first entry of a queue that is not admitted. -/
def State.nextJob (s : State) (q : Nat) : Option Job := s.fw.jobs.find? (fun j => j.q == q && (j.st == .taken || j.st == .loading))

theorem State.jobAdmit_none {s : State} {q : Nat} (h : s.nextJob q = none) : s.jobAdmit q = s := by
  rw [State.nextJob] at h
  simp only [State.jobAdmit, h]

theorem State.jobAdmit_stopped {s : State} {q : Nat} {j : Job} (h : s.nextJob q = some j) (hrun : s.fwRuns j.core = false) : s.jobAdmit q = s := by
  rw [State.nextJob] at h
  simp [State.jobAdmit, h, hrun]

section
variable {s : State} {q : Nat} {j : Job} (h : s.nextJob q = some j) (hrun : s.fwRuns j.core = true) (hst : j.st = .taken)
  (hcl : ∀ e ∈ j.ents, s.clusterRuns (e.gtile / 32) = true)
include h hrun hst hcl

theorem State.jobAdmit_taken :
    s.jobAdmit q =
      if j.fence then
        if (s.fw.jobs.find? (fun i => i.q == q)).map (·.seq) = some j.seq then (s.record ⟨q, j.core, j.seq, j.tag, 0, (0, 0, 0), 0, 0, 0⟩).dropJob j else s
      else if s.fw.jobs.any (fun i => i.q == q && i.fence && decide (i.seq < j.seq)) then s
      else s.admitNext q j := by
  have hawake : (j.ents.any (fun e => !s.clusterRuns (e.gtile / 32))) = false := by
    rw [List.any_eq_false]
    intro e he
    simp [hcl e he]
  rw [State.nextJob] at h
  simp only [State.jobAdmit, h, hrun, hawake, hst]
  rfl

theorem State.jobAdmit_fence (hf : j.fence = true) (hfirst : s.fw.jobs.find? (fun i => i.q == q) = some j) :
    s.jobAdmit q = (s.record ⟨q, j.core, j.seq, j.tag, 0, (0, 0, 0), 0, 0, 0⟩).dropJob j := by
  rw [State.jobAdmit_taken h hrun hst hcl, if_pos hf, hfirst]
  exact if_pos rfl

theorem State.jobAdmit_behind (hf : j.fence = false) (hbehind : ∃ i ∈ s.fw.jobs, i.q = q ∧ i.fence = true ∧ i.seq < j.seq) : s.jobAdmit q = s := by
  rw [State.jobAdmit_taken h hrun hst hcl, if_neg (by simp [hf])]
  refine if_pos ?_
  rw [List.any_eq_true]
  obtain ⟨i, hi, hq, hfence, hseq⟩ := hbehind
  exact ⟨i, hi, by simp [hq, hfence, hseq]⟩

theorem State.jobAdmit_free (hf : j.fence = false) (hfree : ∀ i ∈ s.fw.jobs, i.q = q → i.fence = true → j.seq ≤ i.seq) : s.jobAdmit q = s.admitNext q j := by
  rw [State.jobAdmit_taken h hrun hst hcl, if_neg (by simp [hf])]
  refine if_neg ?_
  rw [List.any_eq_true]
  rintro ⟨i, hi, hp⟩
  simp only [Bool.and_eq_true, beq_iff_eq, decide_eq_true_eq] at hp
  obtain ⟨⟨hq, hfence⟩, hseq⟩ := hp
  exact absurd (hfree i hi hq hfence) (Nat.not_le.2 hseq)

end

/-! ### Launch -/

/-- Before a context starts its tile is told of the release and its ENTRY is written (R328). -/
def State.prepareEnt (c : Nat) (j : Job) (s : State) (e : JobCtx) : State :=
  (s.schSpad c (s.physG e.gtile) (0xFFF00 + 64 * e.ctx + 0x0E) (leBytes 2 j.rel.2 ++ leBytes 8 j.rel.1)).fwReg64 c .TILE_CTXk_ENTRY_LO .TILE_CTXk_ENTRY_HI
    (tix (s.physG e.gtile) ++ [e.ctx]) (e.va % 2 ^ 48 / 8 * 8)

/-- The start of one context of a released job (R328). -/
def State.launchEnt (c : Nat) (j : Job) (s : State) (e : JobCtx) : State :=
  (s.prepareEnt c j e).schWrite c (Reg.adr .TILE_CTXk_CMD (tix (s.physG e.gtile) ++ [e.ctx])) 1
    (fun u => if (u.tile (s.physG e.gtile)).ready ∧ !(u.tile (s.physG e.gtile)).killed then u.startCtx (s.physG e.gtile) e.ctx else u)

theorem State.launchJob_single {s : State} {c : Nat} {j : Job} {e : JobCtx} (h : j.ents.filter (fun e => e.gtile / 32 == c) = [e]) :
    s.launchJob c j = ((s.launchEnt c j e).updTaken j.q j.seq (fun j => { j with launch := j.launch.filter (· ≠ c) })).fwLog c 6 0 j.jid 1 := by
  simp only [State.launchJob, h]
  rfl

theorem State.jobLaunch_single {s : State} {c q : Nat} {j : Job} (hrun : s.fwRuns c = true) (hcl : s.clusterRuns c = true)
    (h : s.fw.jobs.filter (fun j => j.q == q && j.st == .released && j.launch.contains c) = [j]) : s.jobLaunch c q = (s.fwLog c 5 1 q 1).launchJob c j := by
  unfold State.jobLaunch
  dsimp only
  rw [h, hrun, hcl]
  rfl

theorem State.jobLaunch_nothing {s : State} {c q : Nat}
    (h : s.fwRuns c = false ∨ ∀ j ∈ s.fw.jobs, ¬ (j.q = q ∧ j.st = .released ∧ j.launch.contains c = true)) : s.jobLaunch c q = s := by
  unfold State.jobLaunch
  rcases h with hstop | hnone
  · exact if_pos (by simp [hstop])
  · have hp : ∀ j ∈ s.fw.jobs, ¬ (j.q == q && j.st == .released && j.launch.contains c) = true := fun j hj hb => by
      simp only [Bool.and_eq_true, beq_iff_eq, and_assoc] at hb
      exact hnone j hj hb
    have hany : s.fw.jobs.any (fun j => j.q == q && j.st == .released && j.launch.contains c) = false := List.any_eq_false.2 hp
    have hnil : s.fw.jobs.filter (fun j => j.q == q && j.st == .released && j.launch.contains c) = [] := List.filter_eq_nil_iff.2 hp
    dsimp only
    rw [hany, hnil, if_neg Bool.false_ne_true, if_pos rfl, ite_self, ite_self]

/-- START on an idle context takes the program counter from ENTRY (R95). -/
theorem State.startCtx_idle {s : State} {t k : Nat} (h : (s.ctxOf t k).st = .idle) :
    s.startCtx t k = s.updCtx t k (fun c => { c with st := .ready, pc := s.reg64 .TILE_CTXk_ENTRY_LO .TILE_CTXk_ENTRY_HI (tix t ++ [k]),
                                                     loops := [], rets := [], held := none, woken := false, bar := .no, skip := none, miss := none, ffail := none }) := by
  simp [State.startCtx, h]

theorem adr_entryLo (t k : Nat) : Reg.adr .TILE_CTXk_ENTRY_LO (tix t ++ [k]) = 0x2100108 + 0x1000000 * (t / 34) + 0x10000 * (t % 34) + 0x40 * k := rfl
theorem adr_entryHi (t k : Nat) : Reg.adr .TILE_CTXk_ENTRY_HI (tix t ++ [k]) = 0x210010c + 0x1000000 * (t / 34) + 0x10000 * (t % 34) + 0x40 * k := rfl

/-- The two halves of ENTRY give back what was written (R41). -/
theorem State.entry_setReg64 {s : State} (hw : s.regs.wf = true) (t k : Nat) {v : Nat} (hv : v < 2 ^ 64) :
    (s.setReg64 .TILE_CTXk_ENTRY_LO .TILE_CTXk_ENTRY_HI (tix t ++ [k]) v).reg64 .TILE_CTXk_ENTRY_LO .TILE_CTXk_ENTRY_HI (tix t ++ [k]) = v := by
  have hne : Reg.adr .TILE_CTXk_ENTRY_LO (tix t ++ [k]) ≠ Reg.adr .TILE_CTXk_ENTRY_HI (tix t ++ [k]) := by
    rw [adr_entryLo, adr_entryHi]
    omega
  rw [State.setReg64, State.reg64, State.reg_setReg_ne hne, State.reg_setReg_same hw, State.reg_setReg_same (State.wf_setReg hw ..)]
  omega

theorem State.schWrite_tiles {s : State} {c a d : Nat} {f : State → State} (hf : (f s).tiles = s.tiles) : (s.schWrite c a d f).tiles = s.tiles :=
  State.schWrite_cases (P := fun u => u.tiles = s.tiles) hf rfl

theorem State.ctxOf_congr {s u : State} (h : u.tiles = s.tiles) (t k : Nat) : u.ctxOf t k = s.ctxOf t k := by
  rw [State.ctxOf, State.tile, h]
  rfl

/-- The preparation writes no tile and no register of the firewall, and ENTRY holds what it was given. -/
theorem State.prepareEnt_spec {s : State} (hw : s.regs.wf = true) (c : Nat) (j : Job) (e : JobCtx) {t : Nat} (ht : s.physG e.gtile = t) :
    (s.prepareEnt c j e).tiles = s.tiles ∧ (∀ a, a < 0x400000 → (s.prepareEnt c j e).rg a = s.rg a) ∧
      (s.fwAllows .sch (Reg.adr .TILE_CTXk_ENTRY_HI (tix t ++ [e.ctx])) 4 true = true →
        (s.prepareEnt c j e).reg64 .TILE_CTXk_ENTRY_LO .TILE_CTXk_ENTRY_HI (tix t ++ [e.ctx]) = e.va % 2 ^ 48 / 8 * 8) := by
  have hspad := s.unitWrote_schSpad c t (0xFFF00 + 64 * e.ctx + 0x0E) (leBytes 2 j.rel.2 ++ leBytes 8 j.rel.1)
  rw [State.prepareEnt, ht]
  generalize s.schSpad c t (0xFFF00 + 64 * e.ctx + 0x0E) (leBytes 2 j.rel.2 ++ leBytes 8 j.rel.1) = p at hspad
  refine ⟨(State.schWrite_tiles rfl).trans hspad.tiles, fun a ha => ?_, fun hallow => ?_⟩
  · rw [← hspad.rg a (.inl (by omega))]
    refine State.schWrite_cases (P := fun u => u.rg a = p.rg a) ((State.rg_setRg_ne ?_ _ _).trans (State.rg_setRg_ne ?_ p _)) rfl
    · rw [adr_entryHi]
      omega
    · rw [adr_entryLo]
      omega
  · rw [← State.fwAllows_congr (fun a ha => hspad.rg a (.inl (by omega)))] at hallow
    rw [State.fwReg64, State.schWrite_allowed hallow]
    exact State.entry_setReg64 (hspad.wf hw) t e.ctx (by omega)

/-- The context of one entry, idle on a tile that takes commands, becomes ready at its ENTRY, and no other context changes (R328). -/
theorem State.launchEnt_spec {s : State} (hw : s.regs.wf = true) {c : Nat} {j : Job} {e : JobCtx} {t : Nat} (ht : s.physG e.gtile = t)
    (hready : (s.tile t).ready = true) (hkill : (s.tile t).killed = false) (hidle : (s.ctxOf t e.ctx).st = .idle)
    (hcmd : s.fwAllows .sch (Reg.adr .TILE_CTXk_CMD (tix t ++ [e.ctx])) 4 true = true) :
    ((s.launchEnt c j e).ctxOf t e.ctx).st = .ready ∧
      (s.fwAllows .sch (Reg.adr .TILE_CTXk_ENTRY_HI (tix t ++ [e.ctx])) 4 true = true → ((s.launchEnt c j e).ctxOf t e.ctx).pc = e.va % 2 ^ 48 / 8 * 8) ∧
      ∀ x y, x ≠ t ∨ y ≠ e.ctx → (s.launchEnt c j e).ctxOf x y = s.ctxOf x y := by
  obtain ⟨htiles, hlow, hentry⟩ := State.prepareEnt_spec hw c j e ht
  rw [State.launchEnt, ht]
  generalize s.prepareEnt c j e = w at htiles hlow hentry
  have htile : w.tile t = s.tile t := by
    rw [State.tile, htiles]
    rfl
  have hctx := fun x y => State.ctxOf_congr htiles x y
  rw [← State.fwAllows_congr hlow] at hcmd
  rw [State.schWrite_allowed hcmd, if_pos (by simp [htile, hready, hkill]), State.startCtx_idle (by rw [hctx]; exact hidle)]
  refine ⟨by rw [State.ctxOf_updCtx_same], fun hallow => ?_, fun x y hne => ?_⟩
  · rw [State.ctxOf_updCtx_same]
    exact hentry hallow
  · rw [State.ctxOf_updCtx_ne hne, hctx]

end Sys2Proof.Machine

namespace Sys2Proof.Machine
open Sys2Proof

/-! ### The end of a job by a fault, a kill or a miss -/

/-- The causes that end a job (R330). -/
def State.hasCause (s : State) (j : Job) (cause : EndCause) : Prop :=
  (cause = .fault ∧ s.firstFault j ≠ none) ∨ (cause = .killEntry ∧ j.killed = true) ∨ (cause = .miss ∧ j.miss ≠ none)

theorem State.jobEnd_none {s : State} {jid : Nat} (h : s.jobOfJid jid = none) (cause : EndCause) : s.jobEnd jid cause = s := by simp [State.jobEnd, h]

section
variable {s : State} {jid : Nat} {j : Job} (hj : s.jobOfJid jid = some j)
include hj

theorem State.jobEnd_stopped (hrun : s.fwRuns j.core = false) (cause : EndCause) : s.jobEnd jid cause = s := by simp [State.jobEnd, hj, hrun]

theorem State.jobEnd_no_fault (h : s.firstFault j = none) : s.jobEnd jid .fault = s := by simp [State.jobEnd, hj, h]

theorem State.jobEnd_not_killed (h : j.killed = false) : s.jobEnd jid .killEntry = s := by simp [State.jobEnd, hj, h]

theorem State.jobEnd_not_missed (h : j.miss = none) : s.jobEnd jid .miss = s := by simp [State.jobEnd, hj, h]

theorem State.jobEnd_ends (hrun : s.fwRuns j.core = true) {cause : EndCause} (h : s.hasCause j cause) :
    ∃ status code f, s.jobEnd jid cause = s.endJob j status code f := by
  rcases h with ⟨rfl, hf⟩ | ⟨rfl, hk⟩ | ⟨rfl, hm⟩
  · obtain ⟨v, hv⟩ := Option.ne_none_iff_exists'.1 hf
    exact ⟨j.miss.getD 5, 1, v, by simp [State.jobEnd, hj, hrun, hv]⟩
  · exact ⟨j.miss.getD 6, 2, (s.firstFault j).getD (0, 0, 0), by simp [State.jobEnd, hj, hrun, hk]⟩
  · obtain ⟨v, hv⟩ := Option.ne_none_iff_exists'.1 hm
    exact ⟨v, 3, (s.firstFault j).getD (0, 0, 0), by simp [State.jobEnd, hj, hrun, hv]⟩

end

/-! ### Admission, launch and completion as steps -/

section
variable {s : State} (hup : s.up = true)
include hup

theorem State.exec_jobAdmit (q : Fin 256) : exec (.jobAdmit q) s = .next (s.jobAdmit q.val) := congrArg Host.Outcome.next (if_pos hup)
theorem State.exec_jobLaunch (c : Fin 4) (q : Fin 256) : exec (.jobLaunch c q) s = .next (s.jobLaunch c.val q.val) := congrArg Host.Outcome.next (if_pos hup)
theorem State.exec_jobCompletionReport (jid : BitVec 8) : exec (.jobCompletionReport jid) s = .next (s.completionReport jid.toNat) := congrArg Host.Outcome.next (if_pos hup)
theorem State.exec_jobComplete (jid : BitVec 8) : exec (.jobComplete jid) s = .next (s.jobComplete jid.toNat) := congrArg Host.Outcome.next (if_pos hup)
theorem State.exec_jobEnd (jid : BitVec 8) (cause : EndCause) : exec (.jobEnd jid cause) s = .next (s.jobEnd jid.toNat cause) := congrArg Host.Outcome.next (if_pos hup)

end

/-- A fence leaves its queue with one record (R327, R332). -/
theorem State.fence_spec {s : State} {j : Job} (q : Nat) (hrun : s.fwRuns j.core = true) :
    ((s.record ⟨q, j.core, j.seq, j.tag, 0, (0, 0, 0), 0, 0, 0⟩).dropJob j).fw.jobs = s.fw.jobs.filter (fun i => i.q ≠ j.q ∨ i.seq ≠ j.seq) ∧
      (((s.record ⟨q, j.core, j.seq, j.tag, 0, (0, 0, 0), 0, 0, 0⟩).dropJob j).fwQueue q).n = (s.fwQueue q).n + 1 := by
  have hcore := State.exists_core_of_fwRuns hrun
  have hrec := State.coreActed_record (r := ⟨q, j.core, j.seq, j.tag, 0, (0, 0, 0), 0, 0, 0⟩) hcore
  exact ⟨congrArg (List.filter _) hrec.jobs, State.n_record (r := ⟨q, j.core, j.seq, j.tag, 0, (0, 0, 0), 0, 0, 0⟩) hcore⟩

theorem State.admitNext_waits_traced {s : State} {q why : Nat} {j : Job} (h : s.waitsFor j = some why) (ht : j.traced = true) : s.admitNext q j = s := by
  simp [State.admitNext, h, ht]

/-- A job that must wait is traced once (R327). -/
theorem State.admitNext_waits {s : State} {q why : Nat} {j : Job} (h : s.waitsFor j = some why) (ht : j.traced = false) :
    s.admitNext q j = (s.updTaken j.q j.seq (fun j => { j with traced := true })).fwLog j.core 4 1 q why := by
  simp [State.admitNext, h, ht]

theorem State.admitNext_ready {s : State} {q : Nat} {j : Job} (h : s.waitsFor j = none) (hready : ∀ e ∈ j.ents, (s.tile (s.physG e.gtile)).ready = true) :
    s.admitNext q j = s.admitReady q j := by
  have hany : (j.ents.map (fun e => s.physG e.gtile)).any (fun t => !(s.tile t).ready) = false := by
    rw [List.any_map, List.any_eq_false]
    intro e he
    simp [hready e he]
  simp [State.admitNext, h, hany]

/-- The one context of a released job that the core starts: ready at its ENTRY, all others as they were (R328). -/
theorem State.jobLaunch_spec {s : State} (hw : s.regs.wf = true) {c q : Nat} {j : Job} {e : JobCtx} {t : Nat} (hrun : s.fwRuns c = true)
    (hcl : s.clusterRuns c = true) (hj : s.fw.jobs.filter (fun j => j.q == q && j.st == .released && j.launch.contains c) = [j])
    (he : j.ents.filter (fun e => e.gtile / 32 == c) = [e]) (ht : t = s.physG e.gtile) (hready : (s.tile t).ready = true) (hkill : (s.tile t).killed = false)
    (hcmd : s.fwAllows .sch (Reg.adr .TILE_CTXk_CMD (tix t ++ [e.ctx])) 4 true = true) (hidle : (s.ctxOf t e.ctx).st = .idle) :
    ((s.jobLaunch c q).ctxOf t e.ctx).st = .ready ∧
      (s.fwAllows .sch (Reg.adr .TILE_CTXk_ENTRY_HI (tix t ++ [e.ctx])) 4 true = true → ((s.jobLaunch c q).ctxOf t e.ctx).pc = e.va % 2 ^ 48 / 8 * 8) ∧
      ∀ x y, x ≠ t ∨ y ≠ e.ctx → (s.jobLaunch c q).ctxOf x y = s.ctxOf x y := by
  have hlow : ∀ a, a < 0x400000 → (s.fwLog c 5 1 q 1).rg a = s.rg a := fun a ha => s.rg_fwLog c 5 1 q 1 (.inl (by omega))
  have hhigh : ∀ a, 0x430000 ≤ a → (s.fwLog c 5 1 q 1).rg a = s.rg a := fun a ha => s.rg_fwLog c 5 1 q 1 (.inr ha)
  have htiles := s.tiles_fwLog c 5 1 q 1
  have hwf := State.wf_fwLog hw c 5 1 q 1
  rw [State.jobLaunch_single hrun hcl hj, State.launchJob_single he]
  generalize s.fwLog c 5 1 q 1 = p at hlow hhigh htiles hwf
  have htile : p.tile t = s.tile t := by
    rw [State.tile, htiles]
    rfl
  have hctx := fun x y => State.ctxOf_congr htiles x y
  have hallow := fun a => State.fwAllows_congr hlow .sch a 4 true
  have hphys : p.physG e.gtile = t := (State.physG_congr (fun c l _ => hhigh _ (by omega)) _).trans ht.symm
  obtain ⟨hst, hpc, hne⟩ := State.launchEnt_spec (j := j) (c := c) hwf hphys (by rw [htile]; exact hready) (by rw [htile]; exact hkill)
    (by rw [hctx]; exact hidle) (by rw [hallow]; exact hcmd)
  have hend : (((p.launchEnt c j e).updTaken j.q j.seq (fun j => { j with launch := j.launch.filter (· ≠ c) })).fwLog c 6 0 j.jid 1).tiles =
      (p.launchEnt c j e).tiles := State.tiles_fwLog ..
  have hlast := fun x y => State.ctxOf_congr hend x y
  refine ⟨by rw [hlast]; exact hst, fun hw' => ?_, fun x y hxy => ?_⟩
  · rw [hlast]
    exact hpc (by rw [hallow]; exact hw')
  · rw [hlast, hne x y hxy, hctx]

end Sys2Proof.Machine

open Sys2Proof Sys2Proof.Machine

/-- Settles O45: of an admission only its first step touches the tags, a launch writes one context, and the ends of all jobs are one operation. -/
theorem jobsOfTheFirmware : Obligations.JobsOfTheFirmware := by
  intro c q jid s hup hInv _
  obtain ⟨-, hregs, -⟩ := hInv
  refine ⟨fun hnone => ?_, fun j hj => ⟨fun hstop => ?_, fun hrun hst hents => ⟨fun hfence hfirst => ?_, fun hfence hbehind => ?_, fun hfence hfree => ?_⟩⟩,
    fun hnothing => ?_, fun j e t hrun hcl hjs hes _ _ ht hready hkill hcmd hidle => ?_, fun hnone => ?_, fun j hj => ?_⟩
  · rw [State.exec_jobAdmit hup, State.jobAdmit_none hnone]
  · rw [State.exec_jobAdmit hup, State.jobAdmit_stopped hj hstop]
  · obtain ⟨hjobs, hn⟩ := State.fence_spec (s := s) q.val hrun
    refine ⟨_, (State.exec_jobAdmit hup q).trans (congrArg Host.Outcome.next ?_), hjobs, hn⟩
    exact State.jobAdmit_fence hj hrun hst (fun e he => (hents e he).2.2) hfence hfirst
  · rw [State.exec_jobAdmit hup, State.jobAdmit_behind hj hrun hst (fun e he => (hents e he).2.2) hfence hbehind]
  · rw [State.exec_jobAdmit hup, State.jobAdmit_free hj hrun hst (fun e he => (hents e he).2.2) hfence hfree]
    refine ⟨fun why hwait htraced => ?_, fun why hwait htraced => ?_, fun hwait htiles => ?_⟩
    · rw [State.admitNext_waits_traced hwait htraced]
    · rw [State.admitNext_waits hwait htraced]
      exact ⟨_, rfl, State.tiles_fwLog .., (State.coreActed_fwLog ..).jobs⟩
    · rw [State.admitNext_ready hwait fun e he => (htiles e he).2.1]
      have hjids := State.freeJids_ne_nil hwait
      have htag : s.mayTag j.ents := fun e he => ⟨(hents e he).2.1, (htiles e he).2.2⟩
      exact ⟨_, s.drawnJid, rfl, State.drawnJid_mem hjids, fun e he => State.jobOf_admitReady hregs q.val hjids htag he⟩
  · rw [State.exec_jobLaunch hup, State.jobLaunch_nothing hnothing]
  · exact ⟨_, State.exec_jobLaunch hup c q, State.jobLaunch_spec hregs hrun hcl hjs hes ht hready hkill hcmd hidle⟩
  · have hreport := State.completionReport_none hnone
    have hcomplete : s.jobComplete jid.toNat = s :=
      (State.jobComplete_not_judged fun i hi => by rw [hreport, hnone] at hi; exact absurd hi (by simp)).trans hreport
    refine ⟨?_, ?_, fun cause => ?_⟩
    · rw [State.exec_jobCompletionReport hup, hreport]
    · rw [State.exec_jobComplete hup, hcomplete]
    · rw [State.exec_jobEnd hup, State.jobEnd_none hnone]
  · refine ⟨fun hnot => ?_, fun hst hlaunch hdone hmiss hkill hhalt => ⟨?_, fun hrun hjobs => ?_⟩, fun hstop cause => ?_, fun hf => ?_, fun hk => ?_, fun hm => ?_,
      fun cause hrun hcause => ?_⟩
    · have hreport := State.completionReport_not hj hnot
      refine ⟨?_, fun hdone => ?_⟩
      · rw [State.exec_jobCompletionReport hup, hreport]
      · have hcomplete : s.jobComplete jid.toNat = s :=
          (State.jobComplete_not_judged fun i hi => by rw [hreport, hj] at hi; rw [← Option.some.inj hi]; exact hdone).trans hreport
        rw [State.exec_jobComplete hup, hcomplete]
    · rw [State.exec_jobCompletionReport hup, State.completionReport_completes hj ⟨hst, hlaunch, hdone, hmiss, hkill, hhalt⟩]
      exact ⟨_, s.judged jid.toNat, rfl, rfl, rfl, fun _ => State.mem_store_dropDeadline, State.judged_on_time⟩
    · exact ⟨_, State.exec_jobComplete hup jid, State.jobComplete_completes hj ⟨hst, hlaunch, hdone, hmiss, hkill, hhalt⟩ hrun hjobs⟩
    · rw [State.exec_jobEnd hup, State.jobEnd_stopped hj hstop]
    · rw [State.exec_jobEnd hup, State.jobEnd_no_fault hj hf]
    · rw [State.exec_jobEnd hup, State.jobEnd_not_killed hj hk]
    · rw [State.exec_jobEnd hup, State.jobEnd_not_missed hj hm]
    · obtain ⟨-, hjid, -⟩ := State.jobOfJid_spec hj
      obtain ⟨status, code, f, hend⟩ := State.jobEnd_ends hj hrun hcause
      obtain ⟨hjobs, hstore, hn, hkilled⟩ := State.ended_endJob (s := s) hrun status code f
      rw [hjid] at hkilled
      exact ⟨_, (State.exec_jobEnd hup jid cause).trans (congrArg Host.Outcome.next hend), hjobs, hstore, hn, hkilled⟩
end

section
/-! SUPPORT. What the wind-down, the stop and the fault of a context change, and what they leave as it was (R95, R115, R181, R197). -/

namespace Sys2Proof.Machine
open Sys2Proof

/-! ### One tile, one context changes -/

theorem State.tile_updCtx (s : State) (t k : Nat) (f : Ctx → Ctx) : (s.updCtx t k f).tile t = (s.tile t).setCtx k (f (s.ctxOf t k)) :=
  State.tile_updTile_same s t (·.setCtx k (f (s.ctxOf t k)))

theorem OnlyTile.trans {s u v : State} {t : Nat} (h1 : OnlyTile s u t) (h2 : OnlyTile u v t) : OnlyTile s v t := by
  obtain ⟨hu, htiles⟩ := h1
  obtain ⟨hv, htiles'⟩ := h2
  refine ⟨?_, fun x hx => (htiles' x hx).trans (htiles x hx)⟩
  rw [hv, hu]

theorem State.onlyTile_updTile (s : State) (t : Nat) (f : Tile → Tile) : OnlyTile s (s.updTile t f) t := ⟨rfl, fun _ hx => State.tile_updTile_ne hx s f⟩

theorem State.onlyTile_updCtx (s : State) (t k : Nat) (f : Ctx → Ctx) : OnlyTile s (s.updCtx t k f) t := s.onlyTile_updTile t (·.setCtx k (f (s.ctxOf t k)))

/-! ### Registers of a tile's window -/

theorem adr_tileCtrl (t : Nat) : Reg.adr .TILE_CTRL (tix t) = 0x2100000 + 0x1000000 * (t / 34) + 0x10000 * (t % 34) := rfl
theorem adr_strmErr (t : Nat) : Reg.adr .TILE_STRM_ERR (tix t) = 0x2100404 + 0x1000000 * (t / 34) + 0x10000 * (t % 34) := rfl
theorem adr_ctxFault (t k : Nat) : Reg.adr .TILE_CTXk_FAULT (tix t ++ [k]) = 0x2100114 + 0x1000000 * (t / 34) + 0x10000 * (t % 34) + 0x40 * k := rfl
theorem adr_fpcLo (t k : Nat) : Reg.adr .TILE_CTXk_FPC_LO (tix t ++ [k]) = 0x2100118 + 0x1000000 * (t / 34) + 0x10000 * (t % 34) + 0x40 * k := rfl
theorem adr_fpcHi (t k : Nat) : Reg.adr .TILE_CTXk_FPC_HI (tix t ++ [k]) = 0x210011c + 0x1000000 * (t / 34) + 0x10000 * (t % 34) + 0x40 * k := rfl
theorem adr_barStat (j : Nat) : Reg.adr .FAB_BARj_STAT [j] = 0x460004 + 8 * j := rfl

theorem State.reg_congr {s u : State} {r : Reg} {is : List Nat} (h : u.rg (r.adr is) = s.rg (r.adr is)) : u.reg r is = s.reg r is :=
  congrArg BitVec.toNat h

theorem State.flag_congr {s u : State} {r : Reg} {is : List Nat} (h : u.rg (r.adr is) = s.rg (r.adr is)) (i : Nat) : u.flag r is i = s.flag r is i :=
  congrArg (bit · i) (State.reg_congr h)

theorem State.jobOf_congr {s u : State} {t : Nat} (h : u.rg (Reg.adr .TILE_JOB (tix t)) = s.rg (Reg.adr .TILE_JOB (tix t))) : u.jobOf t = s.jobOf t := by
  rw [State.jobOf, State.fld, State.flag_congr h, State.reg_congr h]
  rfl

theorem State.jobOf_lt {s : State} {t j : Nat} (h : s.jobOf t = some j) : j < 256 := by
  unfold State.jobOf at h
  split at h
  · exact Option.some.inj h ▸ bits_lt ..
  · cases h

/-! ### Work inside one tile -/

/-- A tile has worked: beside it only memory and registers may have changed, and the registers whose addresses `P` names are as they were. -/
structure TileWorked (s u : State) (t : Nat) (P : Nat → Prop) : Prop where
  only : u = { s with regs := u.regs, mem := u.mem, tiles := u.tiles }
  wf : s.regs.wf = true → u.regs.wf = true
  rg : ∀ a, P a → u.rg a = s.rg a
  others : ∀ x, x ≠ t → u.tile x = s.tile x

theorem TileWorked.refl (s : State) (t : Nat) (P : Nat → Prop) : TileWorked s s t P := ⟨rfl, id, fun _ _ => rfl, fun _ _ => rfl⟩

theorem TileWorked.trans {s u v : State} {t : Nat} {P : Nat → Prop} (h : TileWorked s u t P) (h' : TileWorked u v t P) : TileWorked s v t P :=
  ⟨by rw [h'.only, h.only], h'.wf ∘ h.wf, fun a ha => (h'.rg a ha).trans (h.rg a ha), fun x hx => (h'.others x hx).trans (h.others x hx)⟩

theorem TileWorked.mono {s u : State} {t : Nat} {P Q : Nat → Prop} (h : TileWorked s u t P) (hQ : ∀ a, Q a → P a) : TileWorked s u t Q :=
  ⟨h.only, h.wf, fun a ha => h.rg a (hQ a ha), h.others⟩

theorem State.tileWorked_updTile (s : State) (t : Nat) (f : Tile → Tile) (P : Nat → Prop) : TileWorked s (s.updTile t f) t P :=
  ⟨rfl, id, fun _ _ => rfl, fun _ hx => State.tile_updTile_ne hx s f⟩

theorem State.tileWorked_updCtx (s : State) (t k : Nat) (f : Ctx → Ctx) (P : Nat → Prop) : TileWorked s (s.updCtx t k f) t P :=
  ⟨rfl, id, fun _ _ => rfl, fun _ hx => State.tile_updTile_ne hx s _⟩

theorem State.tileWorked_setReg {r : Reg} {is : List Nat} {P : Nat → Prop} (hP : ∀ a, P a → a ≠ r.adr is) (s : State) (t v : Nat) :
    TileWorked s (s.setReg r is v) t P :=
  ⟨rfl, fun hw => State.wf_setReg hw r is v, fun a ha => State.rg_setRg_ne (hP a ha) s _, fun _ _ => rfl⟩

/-! ### Discarded requests (R197) -/

/-- Requests of a tile are discarded: of the tile only the stream side changes, and of the registers the count of failures. -/
structure Discarded (s u : State) (t : Nat) : Prop extends TileWorked s u t (· ≠ Reg.adr .TILE_STRM_ERR (tix t)) where
  tile : u.tile t = { s.tile t with unlanded := (u.tile t).unlanded, poison := (u.tile t).poison, reqs := (u.tile t).reqs, walks := (u.tile t).walks,
                                    disc := (u.tile t).disc }

theorem Discarded.refl (s : State) (t : Nat) : Discarded s s t := ⟨.refl s t _, rfl⟩

theorem Discarded.trans {s u v : State} {t : Nat} (h : Discarded s u t) (h' : Discarded u v t) : Discarded s v t :=
  ⟨h.toTileWorked.trans h'.toTileWorked, by rw [h'.tile, h.tile]⟩

theorem Discarded.foldl {α : Type} {t : Nat} {f : State → α → State} (hf : ∀ s x, Discarded s (f s x) t) (xs : List α) (s : State) :
    Discarded s (xs.foldl f s) t := by
  induction xs generalizing s with
  | nil => exact .refl s t
  | cons x xs ih => exact (hf s x).trans (ih _)

theorem State.discarded_updTile {t : Nat} {f : Tile → Tile}
    (hf : ∀ x, f x = { x with unlanded := (f x).unlanded, poison := (f x).poison, reqs := (f x).reqs, walks := (f x).walks, disc := (f x).disc }) (s : State) :
    Discarded s (s.updTile t f) t :=
  ⟨s.tileWorked_updTile t f _, by rw [State.tile_updTile_same]; exact hf _⟩

theorem State.discarded_spWr (s : State) (t a : Nat) (bs : List Byte) : Discarded s (s.spWr t a bs) t := ⟨⟨rfl, id, fun _ _ => rfl, fun _ _ => rfl⟩, rfl⟩

theorem discarded_zeroCut (t row : Nat) (cut : List (Nat × Nat)) (s : State) : Discarded s (zeroCut s t row cut) t :=
  .foldl (fun s p => by dsimp only; split; exacts [s.discarded_spWr .., .refl s t]) cut s

theorem Tile.markPoison_only (x : Tile) (r : Nat) : x.markPoison r = { x with poison := (x.markPoison r).poison } := by
  unfold Tile.markPoison
  split <;> rfl

theorem State.discarded_landDiscarded (s : State) (t row : Nat) (cut : List (Nat × Nat)) : Discarded s (s.landDiscarded t row cut) t := by
  have hmark : Discarded (zeroCut s t row cut) ((zeroCut s t row cut).updTile t (fun x => (x.markPoison row).setLanded row)) t :=
    State.discarded_updTile (fun x => by rw [Tile.markPoison_only]; rfl) _
  exact ((discarded_zeroCut t row cut s).trans hmark).trans ⟨State.tileWorked_setReg (fun _ => id) _ t _, rfl⟩

theorem State.discarded_discardReqs (s : State) (t k : Nat) : Discarded s (s.discardReqs t k) t := by
  unfold State.discardReqs
  refine .trans (.foldl (fun s r => .trans ?_ (.foldl (fun s row => ?_) _ _)) _ s) (State.discarded_updTile (fun _ => rfl) _)
  · exact State.discarded_updTile (fun _ => rfl) s
  · split
    · exact State.discarded_updTile (fun _ => rfl) s
    · split
      · exact s.discarded_landDiscarded ..
      · exact State.discarded_updTile (fun _ => rfl) s

/-! ### The wind-down (R95) -/

/-- A context without its descriptor slots and without anything that it waits for. -/
def Ctx.unslotted (c : Ctx) : Ctx :=
  { c with d := .empty, held := none, woken := false, bar := .no, skip := none, miss := none, ffail := none }

theorem Tile.releaseAll_only (x : Tile) (k : Nat) : ∃ sl, x.releaseAll k = { x with slices := sl } := by
  unfold Tile.releaseAll
  generalize List.range 4 = js
  induction js generalizing x with
  | nil => exact ⟨_, rfl⟩
  | cons j js ih =>
    rw [List.foldl_cons]
    dsimp only
    split
    · obtain ⟨sl, hsl⟩ := ih (x.setSlice j { x.slice j with releasing := true, rel := x.clk })
      exact ⟨sl, hsl⟩
    · exact ih x

@[simp] theorem Tile.releaseAll_reqs (x : Tile) (k : Nat) : (x.releaseAll k).reqs = x.reqs := by
  obtain ⟨sl, hsl⟩ := x.releaseAll_only k
  rw [hsl]

/-- A context has wound down: the other contexts and the matrix queue are as they were. -/
structure WoundDown (s u : State) (t k : Nat) : Prop extends TileWorked s u t (· ≠ Reg.adr .TILE_STRM_ERR (tix t)) where
  tile : u.tile t = { s.tile t with unlanded := (u.tile t).unlanded, poison := (u.tile t).poison, reqs := (u.tile t).reqs, walks := (u.tile t).walks,
                                    disc := (u.tile t).disc, slices := (u.tile t).slices, ctx := (u.tile t).ctx }
  ctx : u.ctxOf t k = (s.ctxOf t k).unslotted
  ctxs : ∀ j, j ≠ k → u.ctxOf t j = s.ctxOf t j

theorem State.woundDown_windDown (s : State) (t k : Nat) : WoundDown s (s.windDown t k) t k := by
  have hd := s.discarded_discardReqs t k
  unfold State.windDown
  generalize s.discardReqs t k = d at hd
  have hctx : ∀ j, (d.updTile t (fun x => x.releaseAll k)).ctxOf t j = s.ctxOf t j := by
    intro j
    rw [State.ctxOf, State.tile_updTile_same, Tile.context, Tile.releaseAll_ctx, hd.tile]
    rfl
  refine ⟨(hd.toTileWorked.trans (State.tileWorked_updTile ..)).trans (State.tileWorked_updCtx ..), ?_, ?_, fun j hj => ?_⟩
  · simp only [State.tile_updCtx, State.tile_updTile_same, Tile.setCtx]
    obtain ⟨sl, hsl⟩ := (d.tile t).releaseAll_only k
    rw [hsl, hd.tile]
  · rw [State.ctxOf_updCtx_same, hctx]
    rfl
  · rw [State.ctxOf_updCtx_ne (Or.inr hj), hctx]

/-! ### A broken barrier (R181) -/

theorem State.barBreak_only (s : State) (t : Nat) : s.barBreak t = { s with regs := (s.barBreak t).regs } := by
  unfold State.barBreak
  split
  · rfl
  · split
    · rfl
    · exact (State.onlyRegs_setReg s _ _ _).1

@[simp] theorem State.barBreak_tiles (s : State) (t : Nat) : (s.barBreak t).tiles = s.tiles := by rw [State.barBreak_only]
@[simp] theorem State.barBreak_mem (s : State) (t : Nat) : (s.barBreak t).mem = s.mem := by rw [State.barBreak_only]
@[simp] theorem State.barBreak_events (s : State) (t : Nat) : (s.barBreak t).events = s.events := by rw [State.barBreak_only]

theorem State.rg_barBreak {s : State} {t a : Nat} (h : ∀ j, s.jobOf t = some j → a ≠ Reg.adr .FAB_BARj_STAT [j]) : (s.barBreak t).rg a = s.rg a := by
  unfold State.barBreak
  split
  · rfl
  · split
    · rfl
    · exact State.rg_setRg_ne (h _ ‹_›) s _

theorem State.wf_barBreak {s : State} (hw : s.regs.wf = true) (t : Nat) : (s.barBreak t).regs.wf = true := by
  unfold State.barBreak
  split
  · exact hw
  · split
    · exact hw
    · exact State.wf_setFlag hw ..

/-- The barriers stand below the windows of the clusters. -/
theorem State.rg_barBreak_high {s : State} {t a : Nat} (ha : 0x2000000 ≤ a) : (s.barBreak t).rg a = s.rg a := by
  refine State.rg_barBreak fun j hj => ?_
  have hlt := State.jobOf_lt hj
  rw [adr_barStat]
  omega

theorem State.tileWorked_barBreak (s : State) (t : Nat) : TileWorked s (s.barBreak t) t (0x2000000 ≤ ·) :=
  ⟨by rw [State.barBreak_only], fun hw => State.wf_barBreak hw t, fun _ => State.rg_barBreak_high, fun x _ => by rw [State.barBreak_only]; rfl⟩

/-! ### STOP (R95) -/

/-- A context has been stopped or was idle: its slots and waits are gone, its registers and the other contexts stay. -/
structure Stopped (s u : State) (t k : Nat) : Prop extends TileWorked s u t (fun a => 0x2000000 ≤ a ∧ a ≠ Reg.adr .TILE_STRM_ERR (tix t)) where
  tile : u.tile t = { s.tile t with unlanded := (u.tile t).unlanded, poison := (u.tile t).poison, reqs := (u.tile t).reqs, walks := (u.tile t).walks,
                                    disc := (u.tile t).disc, slices := (u.tile t).slices, ctx := (u.tile t).ctx }
  idle : (u.ctxOf t k).st = .idle
  ctx : (s.ctxOf t k).st ≠ .idle → u.ctxOf t k = { (s.ctxOf t k).unslotted with st := .idle }
  ctxs : ∀ j, j ≠ k → u.ctxOf t j = s.ctxOf t j

theorem State.stopCtx_idle {s : State} {t k : Nat} (h : (s.ctxOf t k).st = .idle) : s.stopCtx t k = s := if_pos h

theorem State.stopCtx_not_idle {s : State} {t k : Nat} (h : (s.ctxOf t k).st ≠ .idle) :
    s.stopCtx t k = ((s.windDown t k).updCtx t k (fun c => { c with st := .idle })).barBreak t := if_neg h

theorem State.stopped_stopCtx (s : State) (t k : Nat) : Stopped s (s.stopCtx t k) t k := by
  by_cases h : (s.ctxOf t k).st = .idle
  · rw [State.stopCtx_idle h]
    exact ⟨.refl s t _, rfl, h, absurd h, fun _ _ => rfl⟩
  · rw [State.stopCtx_not_idle h]
    have hwind := s.woundDown_windDown t k
    generalize s.windDown t k = d at hwind
    have hctx : ∀ j, ((d.updCtx t k (fun c => { c with st := .idle })).barBreak t).ctxOf t j = (d.updCtx t k (fun c => { c with st := .idle })).ctxOf t j :=
      State.ctxOf_congr (State.barBreak_tiles ..) t
    have hself : ((d.updCtx t k (fun c => { c with st := .idle })).barBreak t).ctxOf t k = { (s.ctxOf t k).unslotted with st := .idle } := by
      rw [hctx, State.ctxOf_updCtx_same, hwind.ctx]
    refine ⟨?_, ?_, by rw [hself], fun _ => hself, fun j hj => ?_⟩
    · exact ((hwind.toTileWorked.mono fun _ => And.right).trans (State.tileWorked_updCtx ..)).trans ((State.tileWorked_barBreak ..).mono fun _ => And.left)
    · have htile : ∀ e : State, (e.barBreak t).tile t = e.tile t := fun e => by rw [State.barBreak_only]; rfl
      rw [htile]
      simp only [State.tile_updCtx, Tile.setCtx]
      rw [hwind.tile]
    · rw [hctx, State.ctxOf_updCtx_ne (Or.inr hj), hwind.ctxs j hj]

/-- Without stream requests a stop changes no memory, and leaves no request. -/
theorem State.stopCtx_quiet {s : State} {t : Nat} (h : (s.tile t).reqs = []) (k : Nat) : (s.stopCtx t k).mem = s.mem ∧ ((s.stopCtx t k).tile t).reqs = [] := by
  by_cases hidle : (s.ctxOf t k).st = .idle
  · rw [State.stopCtx_idle hidle]
    exact ⟨rfl, h⟩
  · rw [State.stopCtx_not_idle hidle]
    refine ⟨?_, ?_⟩
    · rw [State.barBreak_mem, State.updCtx_mem, (windDown_quiet s t k h).1]
    · have htile : ∀ e : State, (e.barBreak t).tile t = e.tile t := fun e => by rw [State.barBreak_only]; rfl
      rw [htile]
      unfold State.windDown State.discardReqs
      simp [h, State.tile_updCtx, Tile.setCtx, Tile.dropDone]

/-! ### Faults (R115) -/

/-- FAULT and FPC of a context as a fault records them. -/
def State.faultRecorded (s : State) (t k code pc : Nat) : State :=
  (s.setReg .TILE_CTXk_FAULT (tix t ++ [k]) (2 ^ 31 + code * 2 ^ 16)).setReg64 .TILE_CTXk_FPC_LO .TILE_CTXk_FPC_HI (tix t ++ [k]) (pc % 2 ^ 48)

theorem State.contextFault_live {s : State} {t k : Nat} (h : (s.ctxOf t k).live = true) (code pc : Nat) :
    s.contextFault t k code pc =
      ((((s.faultRecorded t k code pc).windDown t k).updCtx t k (fun c => { c with st := .fault })).barBreak t).tell (.fault t k) := by
  simp only [State.contextFault, h, Bool.not_true, Bool.false_eq_true, if_false]
  rfl

theorem State.rg_faultRecorded {s : State} {t k a : Nat} (h1 : a ≠ Reg.adr .TILE_CTXk_FAULT (tix t ++ [k])) (h2 : a ≠ Reg.adr .TILE_CTXk_FPC_LO (tix t ++ [k]))
    (h3 : a ≠ Reg.adr .TILE_CTXk_FPC_HI (tix t ++ [k])) (code pc : Nat) : (s.faultRecorded t k code pc).rg a = s.rg a := by
  rw [State.faultRecorded, State.setReg64, State.setReg, State.rg_setRg_ne h3, State.setReg, State.rg_setRg_ne h2, State.setReg, State.rg_setRg_ne h1]

theorem State.fault_faultRecorded {s : State} (hw : s.regs.wf = true) (t k code pc : Nat) :
    (s.faultRecorded t k code pc).reg .TILE_CTXk_FAULT (tix t ++ [k]) = (2 ^ 31 + code * 2 ^ 16) % 2 ^ 32 := by
  have hlo : Reg.adr .TILE_CTXk_FAULT (tix t ++ [k]) ≠ Reg.adr .TILE_CTXk_FPC_LO (tix t ++ [k]) := by rw [adr_ctxFault, adr_fpcLo]; omega
  have hhi : Reg.adr .TILE_CTXk_FAULT (tix t ++ [k]) ≠ Reg.adr .TILE_CTXk_FPC_HI (tix t ++ [k]) := by rw [adr_ctxFault, adr_fpcHi]; omega
  rw [State.faultRecorded, State.setReg64, State.reg_setReg_ne hhi, State.reg_setReg_ne hlo, State.reg_setReg_same hw]

theorem State.fpc_faultRecorded {s : State} (hw : s.regs.wf = true) (t k code pc : Nat) :
    (s.faultRecorded t k code pc).reg64 .TILE_CTXk_FPC_LO .TILE_CTXk_FPC_HI (tix t ++ [k]) = pc % 2 ^ 48 := by
  have hne : Reg.adr .TILE_CTXk_FPC_LO (tix t ++ [k]) ≠ Reg.adr .TILE_CTXk_FPC_HI (tix t ++ [k]) := by rw [adr_fpcLo, adr_fpcHi]; omega
  rw [State.faultRecorded, State.setReg64, State.reg64, State.reg_setReg_ne hne, State.reg_setReg_same (State.wf_setReg hw ..),
    State.reg_setReg_same (State.wf_setReg (State.wf_setReg hw ..) ..)]
  omega

section
variable {s : State} {t k : Nat} (hlive : (s.ctxOf t k).live = true) (code pc : Nat)
include hlive

/-- The tiles after a fault: those of the wind-down, but for the context's state. -/
theorem State.contextFault_tiles :
    (s.contextFault t k code pc).tiles = (((s.faultRecorded t k code pc).windDown t k).updCtx t k (fun c => { c with st := .fault })).tiles := by
  rw [State.contextFault_live hlive]
  exact State.barBreak_tiles ..

theorem State.tile_contextFault (x : Nat) :
    (s.contextFault t k code pc).tile x = (((s.faultRecorded t k code pc).windDown t k).updCtx t k (fun c => { c with st := .fault })).tile x := by
  rw [State.tile, State.contextFault_tiles hlive]
  rfl

/-- The context is in FAULT, its registers as they were and its slots gone; the others stay. -/
theorem State.ctxOf_contextFault : (s.contextFault t k code pc).ctxOf t k = { (s.ctxOf t k).unslotted with st := .fault } := by
  rw [State.ctxOf_congr (State.contextFault_tiles hlive code pc), State.ctxOf_updCtx_same, (State.woundDown_windDown _ t k).ctx]
  rfl

theorem State.ctxOf_contextFault_ne {j : Nat} (hj : j ≠ k) : (s.contextFault t k code pc).ctxOf t j = s.ctxOf t j := by
  rw [State.ctxOf_congr (State.contextFault_tiles hlive code pc), State.ctxOf_updCtx_ne (Or.inr hj), (State.woundDown_windDown _ t k).ctxs j hj]
  rfl

theorem State.tile_contextFault_ne {x : Nat} (hx : x ≠ t) : (s.contextFault t k code pc).tile x = s.tile x := by
  rw [State.tile_contextFault hlive, (State.tileWorked_updCtx _ t k _ (fun _ => True)).others x hx, (State.woundDown_windDown _ t k).others x hx]
  rfl

/-- The matrix queue stays as it was (R95). -/
theorem State.mq_contextFault : ((s.contextFault t k code pc).tile t).mq = (s.tile t).mq := by
  rw [State.tile_contextFault hlive]
  simp only [State.tile_updCtx, Tile.setCtx]
  rw [(State.woundDown_windDown _ t k).tile]
  rfl

/-- A register that neither the record nor the broken barrier touches is as the wind-down leaves it. -/
theorem State.rg_contextFault (hk : k < 4) {a : Nat} (hbar : ∀ j, s.jobOf t = some j → a ≠ Reg.adr .FAB_BARj_STAT [j]) :
    (s.contextFault t k code pc).rg a = ((s.faultRecorded t k code pc).windDown t k).rg a := by
  have hwind := (State.woundDown_windDown (s.faultRecorded t k code pc) t k).rg (Reg.adr .TILE_JOB (tix t)) (by rw [adr_tileJob, adr_strmErr]; omega)
  have hrec : (s.faultRecorded t k code pc).rg (Reg.adr .TILE_JOB (tix t)) = s.rg (Reg.adr .TILE_JOB (tix t)) :=
    State.rg_faultRecorded (by rw [adr_tileJob, adr_ctxFault]; omega) (by rw [adr_tileJob, adr_fpcLo]; omega) (by rw [adr_tileJob, adr_fpcHi]; omega) code pc
  rw [State.contextFault_live hlive]
  generalize (s.faultRecorded t k code pc).windDown t k = w at hwind ⊢
  refine State.rg_barBreak (s := w.updCtx t k _) fun j hj => hbar j ?_
  rw [← hj]
  exact (State.jobOf_congr (u := w.updCtx t k _) (hwind.trans hrec)).symm

/-- FAULT and FPC after a fault (R115). -/
theorem State.fault_contextFault (hw : s.regs.wf = true) (hk : k < 4) :
    (s.contextFault t k code pc).reg .TILE_CTXk_FAULT (tix t ++ [k]) = (2 ^ 31 + code * 2 ^ 16) % 2 ^ 32 ∧
      (s.contextFault t k code pc).reg64 .TILE_CTXk_FPC_LO .TILE_CTXk_FPC_HI (tix t ++ [k]) = pc % 2 ^ 48 := by
  have hkeep : ∀ a, 0x2100114 + 0x1000000 * (t / 34) + 0x10000 * (t % 34) + 0x40 * k ≤ a → a < 0x2100200 + 0x1000000 * (t / 34) + 0x10000 * (t % 34) →
      (s.contextFault t k code pc).rg a = (s.faultRecorded t k code pc).rg a := by
    intro a hlo hhi
    rw [State.rg_contextFault hlive code pc hk, (State.woundDown_windDown _ t k).rg]
    · rw [adr_strmErr]
      omega
    · intro j hj
      have hlt := State.jobOf_lt hj
      rw [adr_barStat]
      omega
  have hfault := State.reg_congr (r := .TILE_CTXk_FAULT) (is := tix t ++ [k]) (hkeep _ (by rw [adr_ctxFault]) (by rw [adr_ctxFault]; omega))
  have hlo := State.reg_congr (r := .TILE_CTXk_FPC_LO) (is := tix t ++ [k]) (hkeep _ (by rw [adr_fpcLo]; omega) (by rw [adr_fpcLo]; omega))
  have hhi := State.reg_congr (r := .TILE_CTXk_FPC_HI) (is := tix t ++ [k]) (hkeep _ (by rw [adr_fpcHi]; omega) (by rw [adr_fpcHi]; omega))
  rw [hfault, State.reg64, hlo, hhi]
  exact ⟨State.fault_faultRecorded hw t k code pc, State.fpc_faultRecorded hw t k code pc⟩

end

end Sys2Proof.Machine
end

section
/-! SUPPORT. The statements of enabling and disabling a tile, of START, STOP and LOCKSTEP, and of the stall counters (R89, R90, R94, R95, R105). -/

namespace Sys2Proof.Machine
open Sys2Proof

/-! ### A write of one bit of TILE_CTRL -/

theorem tix_slot (t : Nat) : 34 * nth (tix t) 0 + nth (tix t) 1 = t := Nat.div_add_mod t 34

theorem State.regWrite_tileCtrl (s : State) (ini : Initiator) (t : Nat) {i : Nat} (hi : i < 3) (b : Bool) :
    s.regWrite ini .TILE_CTRL (tix t) (Reg.adr .TILE_CTRL (tix t)) (putBits (s.rwPart .TILE_CTRL (tix t)) i i (b2n b)) =
      (s.setFlag .TILE_CTRL (tix t) i b).tileCtrlWritten (tix t) (s.reg .TILE_CTRL (tix t)) := by
  have hrw : (7 : Nat).testBit i = true := by
    rw [show (7 : Nat) = 2 ^ 3 - 1 from rfl, Nat.testBit_two_pow_sub_one]
    exact decide_eq_true hi
  exact State.regWrite_wrBit (r := .TILE_CTRL) (by decide) rfl rfl rfl rfl rfl rfl hrw

theorem exec_tileEnable_takes {ini : Initiator} {t : TileId} {s : State}
    (h : s.takes ini .TILE_CTRL (tix t.val) (putBits (s.rwPart .TILE_CTRL (tix t.val)) 0 0 1)) :
    exec (.tileEnable ini t) s = .next ((s.setFlag .TILE_CTRL (tix t.val) 0 true).tileCtrlWritten (tix t.val) (s.reg .TILE_CTRL (tix t.val))) := by
  rw [← State.regWrite_tileCtrl s ini t.val (by decide) true]
  exact live_wrBit (b := true) h

theorem exec_tileDisable_takes {ini : Initiator} {t : TileId} {s : State}
    (h : s.takes ini .TILE_CTRL (tix t.val) (putBits (s.rwPart .TILE_CTRL (tix t.val)) 0 0 0)) :
    exec (.tileDisable ini t) s = .next ((s.setFlag .TILE_CTRL (tix t.val) 0 false).tileCtrlWritten (tix t.val) (s.reg .TILE_CTRL (tix t.val))) := by
  rw [← State.regWrite_tileCtrl s ini t.val (by decide) false]
  exact live_wrBit (b := false) h

theorem exec_lockstep_takes {ini : Initiator} {t : TileId} {on : Bool} {s : State}
    (h : s.takes ini .TILE_CTRL (tix t.val) (putBits (s.rwPart .TILE_CTRL (tix t.val)) 1 1 (b2n on))) :
    exec (.lockstep ini t on) s = .next ((s.setFlag .TILE_CTRL (tix t.val) 1 on).tileCtrlWritten (tix t.val) (s.reg .TILE_CTRL (tix t.val))) := by
  rw [← State.regWrite_tileCtrl s ini t.val (by decide) on]
  exact live_wrBit h

/-! ### What the write does (R90, R94, R95) -/

/-- The bindings of a cluster are registers of their own. -/
theorem State.bindingsDistinct_setFlag (s : State) (t i : Nat) (b : Bool) :
    (s.setFlag .TILE_CTRL (tix t) i b).bindingsDistinct (clusterOf t) = s.bindingsDistinct (clusterOf t) := by
  have hfld : ∀ l, l < 32 → (s.setFlag .TILE_CTRL (tix t) i b).fld .CLU_REMAPl [clusterOf t, l] 5 0 = s.fld .CLU_REMAPl [clusterOf t, l] 5 0 := by
    intro l hl
    refine congrArg (bits · 5 0) (State.reg_setReg_ne ?_ s _)
    rw [adr_tileCtrl]
    change 0x2000100 + 0x1000000 * (t / 34) + 0x4 * l ≠ _
    omega
  unfold State.bindingsDistinct
  rw [Bool.eq_iff_iff, List.all_eq_true, List.all_eq_true]
  refine forall_congr' fun l => forall_congr' fun hl => ?_
  have hl32 : l < 32 := List.mem_range.1 hl
  rw [List.all_eq_true, List.all_eq_true]
  refine forall_congr' fun m => forall_congr' fun hm => ?_
  have hml : m < l := List.mem_range.1 hm
  rw [hfld l hl32, hfld m (by omega)]

/-- A start-up as it begins (R94). -/
def Tile.enabled (x : Tile) : Tile := { x with brining := true, ready := false, everOn := true }

/-- The tile as LOCKSTEP is set: the contexts other than context 0 leave RUN (R90). -/
def Tile.lockstepped (x : Tile) : Tile :=
  { x with sel := some 0, turn := false,
           ctx := ⟨x.ctx.entries.map (fun e => (e.1, if e.1 ≠ 0 ∧ e.2.st = .run then { e.2 with st := .ready } else e.2))⟩ }

section
variable {s : State} (hw : s.regs.wf = true) {t : Nat}
include hw

/-- A write of EN leaves LOCKSTEP as it was. -/
theorem State.tileCtrlWritten_en (b : Bool) :
    (s.setFlag .TILE_CTRL (tix t) 0 b).tileCtrlWritten (tix t) (s.reg .TILE_CTRL (tix t)) =
      if !s.flag .TILE_CTRL (tix t) 0 && b then
        if s.bindingsDistinct (clusterOf t) then (s.setFlag .TILE_CTRL (tix t) 0 b).updTile t Tile.enabled
        else (s.setFlag .TILE_CTRL (tix t) 0 b).setFlag .TILE_CTRL (tix t) 0 false
      else if s.flag .TILE_CTRL (tix t) 0 && !b then (s.setFlag .TILE_CTRL (tix t) 0 b).tileOff t
      else s.setFlag .TILE_CTRL (tix t) 0 b := by
  have hen : bit ((s.setFlag .TILE_CTRL (tix t) 0 b).reg .TILE_CTRL (tix t)) 0 = b := State.flag_setFlag_same hw _ _ (by decide) b
  have hlock : bit ((s.setFlag .TILE_CTRL (tix t) 0 b).reg .TILE_CTRL (tix t)) 1 = bit (s.reg .TILE_CTRL (tix t)) 1 :=
    State.flag_setFlag_ne hw _ _ (by decide) (by decide) b
  have hdist : (s.setFlag .TILE_CTRL (tix t) 0 b).bindingsDistinct (nth (tix t) 0) = s.bindingsDistinct (clusterOf t) := s.bindingsDistinct_setFlag t 0 b
  have hboth : (!bit (s.reg .TILE_CTRL (tix t)) 1 && bit (s.reg .TILE_CTRL (tix t)) 1) = false := by cases bit (s.reg .TILE_CTRL (tix t)) 1 <;> rfl
  unfold State.tileCtrlWritten
  dsimp only
  rw [tix_slot, hen, hlock, hdist, hboth, if_neg Bool.false_ne_true]
  rfl

/-- A write of LOCKSTEP leaves EN as it was. -/
theorem State.tileCtrlWritten_lockstep (on : Bool) :
    (s.setFlag .TILE_CTRL (tix t) 1 on).tileCtrlWritten (tix t) (s.reg .TILE_CTRL (tix t)) =
      if !s.flag .TILE_CTRL (tix t) 1 && on then (s.setFlag .TILE_CTRL (tix t) 1 on).updTile t Tile.lockstepped else s.setFlag .TILE_CTRL (tix t) 1 on := by
  have hlock : bit ((s.setFlag .TILE_CTRL (tix t) 1 on).reg .TILE_CTRL (tix t)) 1 = on := State.flag_setFlag_same hw _ _ (by decide) on
  have hen : bit ((s.setFlag .TILE_CTRL (tix t) 1 on).reg .TILE_CTRL (tix t)) 0 = bit (s.reg .TILE_CTRL (tix t)) 0 :=
    State.flag_setFlag_ne hw _ _ (by decide) (by decide) on
  have hset : (!bit (s.reg .TILE_CTRL (tix t)) 0 && bit (s.reg .TILE_CTRL (tix t)) 0) = false := by cases bit (s.reg .TILE_CTRL (tix t)) 0 <;> rfl
  have hclr : (bit (s.reg .TILE_CTRL (tix t)) 0 && !bit (s.reg .TILE_CTRL (tix t)) 0) = false := by cases bit (s.reg .TILE_CTRL (tix t)) 0 <;> rfl
  unfold State.tileCtrlWritten
  dsimp only
  rw [tix_slot, hen, hlock, hset, hclr, if_neg Bool.false_ne_true, if_neg Bool.false_ne_true]
  rfl

end

/-- The contexts of a tile of which those other than `k` have left RUN. -/
theorem Tile.context_yield (x : Tile) (k j : Nat) :
    (Tab.mk (x.ctx.entries.map (fun e => (e.1, if e.1 ≠ k ∧ e.2.st = .run then { e.2 with st := .ready } else e.2)))).get Ctx.zero j =
      if j ≠ k ∧ (x.context j).st = .run then { x.context j with st := .ready } else x.context j := by
  simp only [Tab.get, Tab.find, lookupKey_yield]
  exact getD_yield _ _

theorem Tile.context_lockstepped (x : Tile) (j : Nat) :
    x.lockstepped.context j = if j ≠ 0 ∧ (x.context j).st = .run then { x.context j with st := .ready } else x.context j := x.context_yield 0 j

theorem State.ctxOf_lockstepped (s : State) (t j : Nat) : (s.updTile t Tile.lockstepped).ctxOf t j =
    if j ≠ 0 ∧ (s.ctxOf t j).st = .run then { s.ctxOf t j with st := .ready } else s.ctxOf t j := by
  rw [State.ctxOf, State.tile_updTile_same, Tile.context_lockstepped]
  rfl

/-! ### The end of the start-up (R94) -/

/-- A tile as its start-up leaves it. -/
def Tile.startedUp (x : Tile) : Tile :=
  { x with unlanded := [], poison := [], icache := [], stat := .empty, samples := [], drop := [], ready := true, brining := false, slices := .empty,
           sets := .empty, banks := .empty, mq := [], reqs := [], fetches := [], sends := [], load := none, disc := [], walks := [], tlb := [], ctx := .empty }

@[simp] theorem State.tile_zeroRegs (s : State) (lo hi t : Nat) : (s.zeroRegs lo hi).tile t = s.tile t := rfl

theorem State.brineTile_mem (s : State) (t : Nat) : (s.brineTile t).mem = s.mem.zero (spadBase t) 0x100000 := State.updTile_mem ..

theorem State.tile_brineTile (s : State) (t : Nat) :
    (s.brineTile t).tile t = { s.tile t with unlanded := [], poison := [], icache := [], stat := .empty, samples := [], drop := [],
                                             ctx := ⟨(s.tile t).ctx.entries.map (fun e => (e.1, e.2.wiped))⟩ } := State.tile_updTile_same ..

theorem State.tile_brineTile_ne {t x : Nat} (hx : x ≠ t) (s : State) : (s.brineTile t).tile x = s.tile x := State.tile_updTile_ne hx ..

theorem State.tileStartUp_mem (s : State) (t : Nat) : (s.tileStartUp t).mem = s.mem.zero (spadBase t) 0x100000 := by
  rw [State.tileStartUp, State.updTile_mem, State.zeroRegs_mem, State.brineTile_mem]

theorem State.tile_tileStartUp (s : State) (t : Nat) : (s.tileStartUp t).tile t = (s.tile t).startedUp := by
  rw [State.tileStartUp, State.tile_updTile_same, State.tile_zeroRegs, State.tile_brineTile]
  rfl

theorem State.tile_tileStartUp_ne {t x : Nat} (hx : x ≠ t) (s : State) : (s.tileStartUp t).tile x = s.tile x := by
  rw [State.tileStartUp, State.tile_updTile_ne hx, State.tile_zeroRegs, State.tile_brineTile_ne hx]

theorem exec_tileReady {t : TileId} {s : State} (h : s.clocked t.val) (hb : (s.tile t.val).brining = true) :
    exec (.tileReady t) s = .next (s.tileStartUp t.val) :=
  (liveIn_clocked h _).trans (congrArg Host.Outcome.next (if_pos hb))

/-! ### EN from 1 to 0 (R95) -/

/-- The wind-down of a tile's contexts in turn. -/
def State.stopAll (s : State) (t : Nat) : State := foldState (fun s k => s.stopCtx t k) s (upTo 4)

/-- Every context is idle, and the registers of other units, the scale load and the other tiles are as they were. -/
theorem State.stopAll_spec (s : State) (t : Nat) :
    (TileWorked s (s.stopAll t) t (fun a => 0x2000000 ≤ a ∧ a ≠ Reg.adr .TILE_STRM_ERR (tix t)) ∧ ((s.stopAll t).tile t).load = (s.tile t).load ∧
      ((s.tile t).reqs = [] → (s.stopAll t).mem = s.mem ∧ ((s.stopAll t).tile t).reqs = [])) ∧
    ∀ j, j < 4 → ((s.stopAll t).ctxOf t j).st = .idle :=
  foldState_upTo
    (ok := fun u => TileWorked s u t (fun a => 0x2000000 ≤ a ∧ a ≠ Reg.adr .TILE_STRM_ERR (tix t)) ∧ (u.tile t).load = (s.tile t).load ∧
      ((s.tile t).reqs = [] → u.mem = s.mem ∧ (u.tile t).reqs = []))
    (view := fun j u => (u.ctxOf t j).st) (R := fun _ _ st => st = .idle)
    (fun u k _ ⟨hwork, hload, hquiet⟩ => by
      have hstop := u.stopped_stopCtx t k
      refine ⟨hwork.trans hstop.toTileWorked, by rw [hstop.tile, hload], fun hreqs => ?_⟩
      obtain ⟨hmem, hnone⟩ := State.stopCtx_quiet (hquiet hreqs).2 k
      exact ⟨hmem.trans (hquiet hreqs).1, hnone⟩)
    (fun u k _ _ => (u.stopped_stopCtx t k).idle)
    (fun u k j _ _ hj _ => by rw [(u.stopped_stopCtx t k).ctxs j hj])
    ⟨.refl s t _, rfl, fun hreqs => ⟨rfl, hreqs⟩⟩

/-- The scale load that is under way is cut short (R152). -/
def State.cutLoad (s : State) (t : Nat) : State := if (s.tile t).load.isSome then s.endLoad t true else s

theorem State.tileOff_eq (s : State) (t : Nat) : s.tileOff t = ((s.stopAll t).cutLoad t).updTile t (fun x => { x with ready := false, brining := false }) := by
  rw [State.stopAll, foldState_eq_foldl]
  rfl

/-- The tile without its scale load. -/
def Tile.unloaded (x : Tile) : Tile :=
  { x with load := none, fetches := x.fetches.filter (fun f => f.ctx ≠ 4), walks := x.walks.filter (fun w => w.who ≠ .scale) }

theorem State.endLoad_cut (s : State) (t : Nat) :
    s.endLoad t true = ((s.updTile t Tile.unloaded).setFlag .TILE_SFLD_CTL (tix t) 30 false).setFlag .TILE_SFLD_CTL (tix t) 29 true := rfl

/-- A load that ends leaves the contexts, memory and every register but its own. -/
theorem State.cutLoad_spec (s : State) (t : Nat) :
    TileWorked s (s.cutLoad t) t (· ≠ Reg.adr .TILE_SFLD_CTL (tix t)) ∧ ((s.cutLoad t).tile t).load = none ∧ ((s.cutLoad t).tile t).ctx = (s.tile t).ctx ∧
      (s.cutLoad t).mem = s.mem := by
  unfold State.cutLoad
  split
  case isTrue =>
    have hwork : TileWorked s (s.endLoad t true) t (· ≠ Reg.adr .TILE_SFLD_CTL (tix t)) :=
      ((s.tileWorked_updTile t Tile.unloaded _).trans (State.tileWorked_setReg (fun _ => id) _ t _)).trans (State.tileWorked_setReg (fun _ => id) _ t _)
    refine ⟨hwork, ?_, ?_, ?_⟩
    all_goals rw [State.endLoad_cut]
    · rw [State.tile_setFlag, State.tile_setFlag, State.tile_updTile_same]
      rfl
    · rw [State.tile_setFlag, State.tile_setFlag, State.tile_updTile_same]
      rfl
    · rw [State.setFlag_mem, State.setFlag_mem, State.updTile_mem]
  case isFalse hnone => exact ⟨.refl s t _, Option.not_isSome_iff_eq_none.1 hnone, rfl, rfl⟩

theorem State.tileOff_spec (s : State) (t : Nat) :
    (∀ a, 0x2000000 ≤ a → a ≠ Reg.adr .TILE_STRM_ERR (tix t) → a ≠ Reg.adr .TILE_SFLD_CTL (tix t) → (s.tileOff t).rg a = s.rg a) ∧
      ((s.tileOff t).tile t).ready = false ∧ ((s.tileOff t).tile t).brining = false ∧ ((s.tileOff t).tile t).load = none ∧
      (∀ j, j < 4 → ((s.tileOff t).ctxOf t j).st = .idle) ∧ (∀ x, x ≠ t → (s.tileOff t).tile x = s.tile x) ∧
      ((s.tile t).reqs = [] → (s.tileOff t).mem = s.mem) := by
  obtain ⟨⟨hstop, -, hquiet⟩, hidle⟩ := s.stopAll_spec t
  obtain ⟨hcut, hload, hctx, hmem⟩ := (s.stopAll t).cutLoad_spec t
  rw [State.tileOff_eq]
  generalize (s.stopAll t).cutLoad t = d at hcut hload hctx hmem
  refine ⟨fun a hhi herr hctl => (hcut.rg a hctl).trans (hstop.rg a ⟨hhi, herr⟩), ?_, ?_, ?_, fun j hj => ?_, fun x hx => ?_, fun hreqs => ?_⟩
  · rw [State.tile_updTile_same]
  · rw [State.tile_updTile_same]
  · rw [State.tile_updTile_same]
    exact hload
  · rw [State.ctxOf, State.tile_updTile_same]
    change ((d.tile t).ctx.get Ctx.zero j).st = .idle
    rw [hctx]
    exact hidle j hj
  · rw [State.tile_updTile_ne hx, hcut.others x hx, hstop.others x hx]
  · rw [State.updTile_mem, hmem, (hquiet hreqs).1]

/-! ### START and STOP (R95, R105) -/

theorem State.regWrite_ctxCmd (s : State) (ini : Initiator) (t k d : Nat) :
    s.regWrite ini .TILE_CTXk_CMD (tix t ++ [k]) (Reg.adr .TILE_CTXk_CMD (tix t ++ [k])) d =
      (s.stored .TILE_CTXk_CMD (tix t ++ [k]) d).ctxCmd (tix t ++ [k]) (bits d 1 0) := by
  rw [State.regWrite_plain (by decide) (by decide) (by decide)]
  rfl

theorem adr_ctxCmd (t k : Nat) : Reg.adr .TILE_CTXk_CMD (tix t ++ [k]) = 0x2100110 + 0x1000000 * (t / 34) + 0x10000 * (t % 34) + 0x40 * k := rfl

theorem State.ctxCmd_eq {s : State} {t : Nat} (hready : (s.tile t).ready = true) (hkill : (s.tile t).killed = false) (k cmd : Nat) :
    s.ctxCmd (tix t ++ [k]) cmd = if cmd = 1 then s.startCtx t k else if cmd = 2 then s.stopCtx t k else s := by
  have ht : 34 * nth (tix t ++ [k]) 0 + nth (tix t ++ [k]) 1 = t := tix_slot t
  have hk : nth (tix t ++ [k]) 2 = k := rfl
  unfold State.ctxCmd
  dsimp only
  rw [ht, hk, hready, hkill, if_neg (by simp)]

section
variable {ini : Initiator} {t : TileId} {k : CtxId} {s : State} (hready : (s.tile t.val).ready = true) (hkill : (s.tile t.val).killed = false)
include hready hkill

theorem exec_start_takes (h : s.takes ini .TILE_CTXk_CMD (tix t.val ++ [k.val]) 1) :
    exec (.start ini t k) s = .next ((s.stored .TILE_CTXk_CMD (tix t.val ++ [k.val]) 1).startCtx t.val k.val) := by
  refine (live_wr h).trans (congrArg Host.Outcome.next ?_)
  rw [State.regWrite_ctxCmd, State.ctxCmd_eq (s := s.stored .TILE_CTXk_CMD (tix t.val ++ [k.val]) 1) hready hkill]
  rfl

theorem exec_stop_takes (h : s.takes ini .TILE_CTXk_CMD (tix t.val ++ [k.val]) 2) :
    exec (.stop ini t k) s = .next ((s.stored .TILE_CTXk_CMD (tix t.val ++ [k.val]) 2).stopCtx t.val k.val) := by
  refine (live_wr h).trans (congrArg Host.Outcome.next ?_)
  rw [State.regWrite_ctxCmd, State.ctxCmd_eq (s := s.stored .TILE_CTXk_CMD (tix t.val ++ [k.val]) 2) hready hkill]
  rfl

end

/-- A context at the bundle `pc` with empty stacks, waiting for nothing. -/
def Ctx.startedAt (c : Ctx) (pc : Nat) : Ctx :=
  { c with st := .ready, pc := pc, loops := [], rets := [], held := none, woken := false, bar := .no, skip := none, miss := none, ffail := none }

theorem State.startCtx_resting {s : State} {t k : Nat} (h : (s.ctxOf t k).st = .idle ∨ (s.ctxOf t k).st = .halted ∨ (s.ctxOf t k).st = .fault) :
    s.startCtx t k = s.updCtx t k (fun c => c.startedAt (s.reg64 .TILE_CTXk_ENTRY_LO .TILE_CTXk_ENTRY_HI (tix t ++ [k]))) := if_pos h

theorem State.startCtx_going {s : State} {t k : Nat}
    (h : (s.ctxOf t k).st = .ready ∨ (s.ctxOf t k).st = .run ∨ (s.ctxOf t k).st = .wait ∨ (s.ctxOf t k).st = .park) : s.startCtx t k = s :=
  if_neg fun h' => by rcases h with h | h | h | h <;> simp [h] at h'

/-- The write of the command leaves ENTRY as it was. -/
theorem State.entry_stored_cmd (s : State) (t k d : Nat) :
    (s.stored .TILE_CTXk_CMD (tix t ++ [k]) d).reg64 .TILE_CTXk_ENTRY_LO .TILE_CTXk_ENTRY_HI (tix t ++ [k]) =
      s.reg64 .TILE_CTXk_ENTRY_LO .TILE_CTXk_ENTRY_HI (tix t ++ [k]) := by
  rw [State.reg64, State.reg_stored_ne (by rw [adr_entryLo, adr_ctxCmd]; omega), State.reg_stored_ne (by rw [adr_entryHi, adr_ctxCmd]; omega)]
  rfl

/-! ### The stall counters (R89) -/

theorem State.rg_zeroRegs (s : State) (lo hi a : Nat) : (s.zeroRegs lo hi).rg a = if lo ≤ a ∧ a < hi then regReset a else s.rg a := by
  have hfind := lookupKey_filter (fun k => !(decide (lo ≤ k) && decide (k < hi))) s.regs.entries a
  simp only [State.rg, State.zeroRegs, Tab.get, Tab.find, hfind]
  by_cases h : lo ≤ a ∧ a < hi
  · simp [h]
  · rw [if_neg h, if_pos (by simp only [Bool.not_eq_true', Bool.and_eq_false_iff, decide_eq_false_iff_not]; omega)]

theorem mem_of_findReg {rs : List Reg} {a : Nat} {r : Reg} {is : List Nat} (h : findReg rs a = some (r, is)) : r ∈ rs := by
  induction rs with
  | nil => cases h
  | cons q rs ih =>
    unfold findReg at h
    split at h
    · cases h
      exact List.mem_cons_self
    · exact List.mem_cons_of_mem q (ih h)

/-- Every register of a tile's window is 0 at reset (R49). -/
theorem Reg.resetAt_tile {r : Reg} (h : r ∈ regsCLU_TILE) (is : List Nat) : r.resetAt is = 0 := by
  unfold regsCLU_TILE at h
  fin_cases h <;> rfl

theorem regsNear_tile {a : Nat} (hlo : 0x2000000 ≤ a) (hhi : a < 0x6000000) (htile : 0x100000 ≤ a % 0x1000000) (htop : a % 0x1000000 < 0x320000) :
    regsNear a = regsCLU_TILE := by
  unfold regsNear
  repeat rw [if_neg (by omega)]
  rw [if_pos hhi]
  dsimp only
  rw [if_neg (by omega), if_neg (by omega), if_pos htop]

theorem regReset_tile {a : Nat} (hlo : 0x2000000 ≤ a) (hhi : a < 0x6000000) (htile : 0x100000 ≤ a % 0x1000000) (htop : a % 0x1000000 < 0x320000) :
    regReset a = 0 := by
  unfold regReset
  split
  · next r is h =>
    rw [regAt, regsNear_tile hlo hhi htile htop] at h
    exact Reg.resetAt_tile (mem_of_findReg h) is
  · rfl

theorem State.regWrite_stallclr (s : State) (ini : Initiator) (t : Nat) :
    s.regWrite ini .TILE_STALLCLR (tix t) (Reg.adr .TILE_STALLCLR (tix t)) 1 =
      (s.stored .TILE_STALLCLR (tix t) 1).zeroRegs (tileWin t + 0x200) (tileWin t + 0x240) := by
  rw [State.regWrite_plain (by decide) (by decide) (by decide)]
  change State.zeroRegs _ (tileWin (34 * nth (tix t) 0 + nth (tix t) 1) + 0x200) (tileWin (34 * nth (tix t) 0 + nth (tix t) 1) + 0x240) = _
  rw [tix_slot]
  rfl

theorem adr_stallLo (t c : Nat) : Reg.adr .TILE_STALLc_LO (tix t ++ [c]) = 0x2100200 + 0x1000000 * (t / 34) + 0x10000 * (t % 34) + 0x8 * c := rfl
theorem adr_stallHi (t c : Nat) : Reg.adr .TILE_STALLc_HI (tix t ++ [c]) = 0x2100204 + 0x1000000 * (t / 34) + 0x10000 * (t % 34) + 0x8 * c := rfl

theorem tileWin_eq (t : Nat) : tileWin t = 0x2100000 + 0x1000000 * (t / 34) + 0x10000 * (t % 34) := by
  unfold tileWin clusterOf slotOf
  omega

/-- A register of the cleared range of a tile's window reads 0. -/
theorem State.rg_stall_cleared (s : State) {t a : Nat} (ht : t < 136) (hlo : tileWin t + 0x200 ≤ a) (hhi : a < tileWin t + 0x240) :
    (s.zeroRegs (tileWin t + 0x200) (tileWin t + 0x240)).rg a = 0 := by
  rw [State.rg_zeroRegs, if_pos ⟨hlo, hhi⟩]
  rw [tileWin_eq] at hlo hhi
  exact regReset_tile (by omega) (by omega) (by omega) (by omega)

theorem State.stall_cleared (s : State) {t c : Nat} (ht : t < 136) (hc : c < 8) :
    (s.zeroRegs (tileWin t + 0x200) (tileWin t + 0x240)).reg64 .TILE_STALLc_LO .TILE_STALLc_HI (tix t ++ [c]) = 0 := by
  rw [State.reg64, State.reg, State.reg, State.rg_stall_cleared s ht, State.rg_stall_cleared s ht]
  · rfl
  all_goals simp only [adr_stallLo, adr_stallHi, tileWin_eq]; omega

end Sys2Proof.Machine

open Sys2Proof Sys2Proof.Machine

/-- Settles O13: the write of EN begins the start-up that TILE_READY ends. -/
theorem tileEnableStartsUp : Obligations.TileEnableStartsUp := by
  intro ini t s hInv
  obtain ⟨-, hregs, -⟩ := hInv
  refine ⟨fun htk hoff => ⟨fun hdist => ?_, fun hdist => ?_⟩, fun hclk hbrine => ?_⟩
  · refine ⟨(s.setFlag .TILE_CTRL (tix t.val) 0 true).updTile t.val Tile.enabled, ?_, ?_, rfl, ?_, fun x hx => ?_, fun a ha => ?_⟩
    · rw [exec_tileEnable_takes htk, State.tileCtrlWritten_en hregs, hoff, hdist]
      rfl
    · exact State.flag_setFlag_same hregs _ _ (by decide) true
    · exact State.tile_updTile_same ..
    · exact State.tile_updTile_ne hx ..
    · exact State.rg_setRg_ne ha s _
  · refine ⟨(s.setFlag .TILE_CTRL (tix t.val) 0 true).setFlag .TILE_CTRL (tix t.val) 0 false, ?_, ?_, rfl, rfl⟩
    · rw [exec_tileEnable_takes htk, State.tileCtrlWritten_en hregs, hoff, hdist]
      rfl
    · exact State.flag_setFlag_same (State.wf_setFlag hregs ..) _ _ (by decide) false
  · have hmem : ∀ x, (s.tileStartUp t.val).mem.rd x = if spadBase t.val ≤ x ∧ x < spadBase t.val + 0x100000 then 0 else s.mem.rd x := fun x => by
      rw [State.tileStartUp_mem, Mem.rd_zero]
    refine ⟨s.tileStartUp t.val, exec_tileReady hclk hbrine, ?_⟩
    rw [State.tile_tileStartUp]
    refine ⟨rfl, rfl, rfl, rfl, fun k => ?_, rfl, rfl, rfl, rfl, fun a ha => ?_, fun x hx => ?_, fun x hx => State.tile_tileStartUp_ne hx s⟩
    · rw [State.ctxOf, State.tile_tileStartUp]
      rfl
    · rw [hmem, if_pos (by omega)]
    · rw [hmem, if_neg hx]

/-- Settles O14: EN 0 is a stop of every context; START and STOP write one context; LOCKSTEP returns the others to READY; STALLCLR zeroes a range of the window. -/
theorem contextStartStopLockstep : Obligations.ContextStartStopLockstep := by
  refine ⟨fun ini t k s hInv => ?_, fun ini t on s hInv => ?_⟩
  all_goals obtain ⟨-, hregs, -⟩ := hInv
  · refine ⟨fun htk hon => ?_, fun htk hready hkill => ⟨fun hst => ?_, fun hst => ?_⟩, fun htk hready hkill hst => ?_⟩
    · obtain ⟨hrg, hready, hbrine, hload, hidle, hothers, hmem⟩ := (s.setFlag .TILE_CTRL (tix t.val) 0 false).tileOff_spec t.val
      refine ⟨_, ?_, ?_, hready, hbrine, hload, hidle, hothers, hmem⟩
      · rw [exec_tileDisable_takes htk, State.tileCtrlWritten_en hregs, hon]
        rfl
      · rw [State.flag_congr (hrg _ ?_ ?_ ?_)]
        · exact State.flag_setFlag_same hregs _ _ (by decide) false
        · rw [adr_tileCtrl]
          omega
        · rw [adr_tileCtrl, adr_strmErr]
          omega
        · change _ ≠ 0x2100308 + 0x1000000 * (t.val / 34) + 0x10000 * (t.val % 34)
          rw [adr_tileCtrl]
          omega
    · have hself := State.ctxOf_updCtx_same (s.stored .TILE_CTXk_CMD (tix t.val ++ [k.val]) 1) t.val k.val
        (fun c => c.startedAt (s.reg64 .TILE_CTXk_ENTRY_LO .TILE_CTXk_ENTRY_HI (tix t.val ++ [k.val])))
      refine ⟨_, by rw [exec_start_takes hready hkill htk,
        State.startCtx_resting (s := s.stored .TILE_CTXk_CMD (tix t.val ++ [k.val]) 1) hst, State.entry_stored_cmd], ?_⟩
      rw [hself]
      exact ⟨rfl, rfl, rfl, rfl, rfl, rfl, rfl, rfl, fun j hj => State.ctxOf_updCtx_ne (Or.inr hj) _ _, rfl⟩
    · exact ⟨_, by rw [exec_start_takes hready hkill htk, State.startCtx_going (s := s.stored .TILE_CTXk_CMD (tix t.val ++ [k.val]) 1) hst], rfl⟩
    · have hstop := (s.stored .TILE_CTXk_CMD (tix t.val ++ [k.val]) 2).stopped_stopCtx t.val k.val
      refine ⟨_, exec_stop_takes hready hkill htk, ?_⟩
      rw [hstop.ctx hst]
      exact ⟨rfl, rfl, rfl, rfl, rfl, rfl, rfl, hstop.ctxs, hstop.others⟩
  · refine ⟨fun htk => ?_, fun htk => ?_⟩
    · have hset : (s.setFlag .TILE_CTRL (tix t.val) 1 on).flag .TILE_CTRL (tix t.val) 1 = on := State.flag_setFlag_same hregs _ _ (by decide) on
      have hen : (s.setFlag .TILE_CTRL (tix t.val) 1 on).flag .TILE_CTRL (tix t.val) 0 = s.flag .TILE_CTRL (tix t.val) 0 :=
        State.flag_setFlag_ne hregs _ _ (by decide) (by decide) on
      rw [exec_lockstep_takes htk, State.tileCtrlWritten_lockstep hregs]
      by_cases hnew : on = true ∧ s.flag .TILE_CTRL (tix t.val) 1 = false
      · obtain ⟨rfl, hold⟩ := hnew
        have hctx := (s.setFlag .TILE_CTRL (tix t.val) 1 true).ctxOf_lockstepped t.val
        rw [hold, if_pos (show (!false && true) = true from rfl)]
        refine ⟨_, rfl, hset, hen, rfl, fun x hx => State.tile_updTile_ne hx _ _, hctx 0, fun _ _ j hj => ?_, fun h => ?_⟩
        · rw [hctx]
          simp only [ne_eq, hj, not_false_eq_true, true_and]
          rfl
        · simp at h
      · have hkeep : (!s.flag .TILE_CTRL (tix t.val) 1 && on) = false :=
          Bool.eq_false_iff.2 fun h => hnew (by simpa [and_comm] using h)
        rw [hkeep, if_neg Bool.false_ne_true]
        exact ⟨_, rfl, hset, hen, rfl, fun _ _ => rfl, rfl, fun hon hold => absurd ⟨hon, hold⟩ hnew, fun _ => rfl⟩
    · exact ⟨_, (live_wr htk).trans (congrArg Host.Outcome.next (s.regWrite_stallclr ini t.val)), rfl, fun c hc => State.stall_cleared _ t.isLt hc⟩
end

section
/-! SUPPORT. The statements of words that are disabled, fault or are held,
and of the matrix instructions at their issue (R82, R97, R99, R107, R113 to R116, R125, R131, R134). -/

namespace Sys2Proof.Machine
open Sys2Proof

/-! ### A word that its guard disables (R99, R125) -/

theorem Ctx.guardS_of_disabled {c : Ctx} {w : RWord} (h : c.enables w = false) : c.guardS w.g = false := by
  unfold Ctx.enables at h
  split at h
  · have hmask : c.guardMask w.g = 0 := by simpa using h
    simp [Ctx.guardS, hmask]
  · exact h

/-- A disabled word takes no branch and opens no loop: only the end of a loop counts. -/
theorem Ctx.advance_disabled {c : Ctx} {w : RWord} (h : c.guardS w.g = false) :
    c.advance [w] = { c with loops := (loopEnd c.pc c.loops).1, pc := (loopEnd c.pc c.loops).2.getD ((c.pc + 8) % 2 ^ 48) } := by
  have hbranch : c.branch w = none := if_pos (by rw [h]; rfl)
  simp only [Ctx.advance, List.findSome?_cons, List.findSome?_nil, hbranch, List.length_singleton, Nat.mul_one]
  split
  · rfl
  · next hloop =>
    split at hloop
    · next hloop' =>
      cases hloop
      split at hloop'
      · rw [h] at hloop'
        cases hloop'
      · cases hloop'
    · cases hloop

theorem loopEnd_elsewhere {pc : Nat} {e : LoopEnt} (h : e.fin ≠ pc) (es : List LoopEnt) : loopEnd pc (e :: es) = (e :: es, none) := if_neg h

theorem loopEnd_again {pc : Nat} {e : LoopEnt} (h : e.fin = pc) (hcount : 1 < e.count) (es : List LoopEnt) :
    loopEnd pc (e :: es) = ({ e with count := e.count - 1 } :: es, some e.start) := by
  rw [loopEnd, if_pos h, if_neg (Nat.not_le.2 hcount)]

theorem loopEnd_over {pc : Nat} {e : LoopEnt} (h : e.fin = pc) (hcount : e.count ≤ 1) : loopEnd pc [e] = ([], none) := by
  rw [loopEnd, if_pos h, if_pos hcount, loopEnd]

/-! ### A word that faults (R97, R116) -/

theorem State.tries.live {s : State} {t k : Nat} (h : s.tries t k) : (s.ctxOf t k).live = true := by
  obtain ⟨-, -, -, -, hst, -⟩ := h
  rcases hst with hst | hst | ⟨-, hst | hst⟩ <;> simp [Ctx.live, hst]

theorem State.tryBundle_faults {s : State} {t k code : Nat} {w : RWord}
    (h : (bundleLegal [w] = false ∧ code = 0x01) ∨ (bundleLegal [w] = true ∧ s.holdOf t k [w] = none ∧ s.bundleFault t k [w] = some code)) (lock : Bool) :
    (s.tryBundle t k [some w] lock).1 = s.contextFault t k code (s.ctxOf t k).pc := by
  rcases h with ⟨hill, rfl⟩ | ⟨hlegal, hfree, hfault⟩
  · simp [State.tryBundle, hill, fILL]
  · simp [State.tryBundle, hlegal, hfree, hfault]

section
variable {s : State} {t k : Nat} (hlive : (s.ctxOf t k).live = true) (hreqs : (s.tile t).reqs = []) (code pc : Nat)
include hlive hreqs

/-- A context without stream requests that faults touches no memory, and the scheduler core is told. -/
theorem State.contextFault_quiet : (s.contextFault t k code pc).mem = s.mem ∧ (s.contextFault t k code pc).events = s.events ++ [.fault t k] := by
  have hquiet := (windDown_quiet (s.faultRecorded t k code pc) t k hreqs).1
  rw [State.contextFault_live hlive]
  generalize (s.faultRecorded t k code pc).windDown t k = w at hquiet
  constructor
  · change (State.barBreak _ t).mem = _
    rw [State.barBreak_mem, State.updCtx_mem, hquiet]
    rfl
  · change (State.barBreak _ t).events ++ [.fault t k] = _
    rw [State.barBreak_events, State.updCtx_events, hquiet]
    rfl

theorem State.rg_contextFault_quiet (hk : k < 4) {a : Nat} (h1 : a ≠ Reg.adr .TILE_CTXk_FAULT (tix t ++ [k]))
    (h2 : a ≠ Reg.adr .TILE_CTXk_FPC_LO (tix t ++ [k])) (h3 : a ≠ Reg.adr .TILE_CTXk_FPC_HI (tix t ++ [k]))
    (hbar : ∀ j, s.jobOf t = some j → a ≠ Reg.adr .FAB_BARj_STAT [j]) : (s.contextFault t k code pc).rg a = s.rg a := by
  rw [State.rg_contextFault hlive code pc hk hbar, (windDown_quiet (s.faultRecorded t k code pc) t k hreqs).1]
  exact State.rg_faultRecorded h1 h2 h3 code pc

end

/-! ### A word that is held (R81, R82, R131, R134) -/

theorem State.tryBundle_held {s : State} {t k : Nat} {w : RWord} {h : Hold} (hlegal : bundleLegal [w] = true) (hhold : s.holdOf t k [w] = some h)
    (lock : Bool) : (s.tryBundle t k [some w] lock).1 = s.applyHold t k [w] h := by
  simp [State.tryBundle, hlegal, hhold]

theorem State.applyHold_rnt {s : State} {t k : Nat} (hst : (s.ctxOf t k).st ≠ .park) (ws : List RWord) :
    s.applyHold t k ws .rnt = s.updCtx t k (fun c => { c with st := .park, held := some ws, woken := false }) :=
  congrArg (s.setCtx t k) (if_neg hst)

/-- The holds that leave a context in WAIT. -/
theorem State.applyHold_wait {h : Hold} (hw : h = .oldVal ∨ h = .rows ∨ h = .grant ∨ h = .full ∨ h = .fence ∨ h = .barFence) (s : State) (t k : Nat)
    (ws : List RWord) : s.applyHold t k ws h = s.updCtx t k (fun c => { c with st := .wait, held := some ws }) := by
  rcases hw with rfl | rfl | rfl | rfl | rfl | rfl <;> rfl

/-- A BAR that sends its arrival. -/
def State.barArrival (s : State) (t k : Nat) : State :=
  { s with fab := { s.fab with bars := s.fab.bars ++ [⟨s.fld .TILE_JOB (tix t) 7 0, t, k⟩] } }

theorem State.applyHold_arrive (s : State) (t k : Nat) (ws : List RWord) :
    s.applyHold t k ws .barArrive = (s.barArrival t k).updCtx t k (fun c => { c with st := .park, held := some ws, bar := .sent }) := rfl

/-! ### Matrix instructions at their issue (R82, R113) -/

theorem Ctx.enables_of_guardS {c : Ctx} {w : RWord} (hslot : w.mn.slot ≠ 2) (h : c.guardS w.g = true) : c.enables w = true := by
  rw [Ctx.enables, if_neg hslot, h]

/-- An enabled M-slot word that nothing holds finds room in the queue. -/
theorem State.queued_of_not_held {s : State} {t k : Nat} {w : RWord} (hslot : w.mn.slot = 3) (hen : (s.ctxOf t k).enables w = true)
    (hfree : s.holdOf t k [w] = none) : (s.tile t).queued < 8 := by
  by_contra hfull
  have hact : (s.ctxOf t k).active [w] = [w] := by simp [Ctx.active, hen]
  unfold State.holdOf at hfree
  dsimp only at hfree
  rw [hact] at hfree
  have hmq : ([w].any (fun w => w.mn.slot == 3) = true ∧ 8 ≤ (s.tile t).queued) := ⟨by simp [hslot], Nat.not_lt.1 hfull⟩
  rw [if_pos hmq] at hfree
  split_ifs at hfree

/-- The tile with one more entry in its matrix queue. -/
def Tile.enqueued (x : Tile) (k pc : Nat) (mn : Mn) (f : MX) (addr clk : Nat) : Tile :=
  { x with nid := x.nid + 1, mq := x.mq ++ [⟨x.nid, k, pc, mn, f, addr, clk, none⟩] }

section
variable {s : State} {t k : Nat} {mn : Mn} {g : Guard} {f : MX}

/-- The state whose matrix queue has taken an instruction of context `k`. -/
def State.enqueued (s : State) (t k : Nat) (mn : Mn) (f : MX) : State :=
  s.updTile t (fun x => x.enqueued k (s.ctxOf t k).pc mn f ((s.ctxOf t k).rdA f.ar.toNat).toNat (s.tile t).clk)

/-- What INC has on its way to the a register (R113). -/
def State.mxInc (s : State) (t k : Nat) (mn : Mn) (f : MX) : List PendWr :=
  if f.inc then [⟨(s.tile t).clk + 1, none, .a f.ar.toNat ((s.ctxOf t k).postInc f.ar.toNat ((s.tile t).mxBytes mn f))⟩] else []

theorem effM_eq (s : State) (t k : Nat) (mn : Mn) (f : MX) :
    effM s t k mn f s = if f.inc then (s.enqueued t k mn f).updCtx t k (fun c => { c with pend := c.pend ++ s.mxInc t k mn f }) else s.enqueued t k mn f := by
  unfold effM State.mxInc
  split <;> rfl

/-- An M-slot word at its issue enters the queue, and INC is on its way. -/
theorem issueNow_matrix (hslot : mn.slot = 3) (hg : (s.ctxOf t k).guardS g = true) (lock : Bool) :
    IssuedOnly (s.enqueued t k mn f) (s.issueNow t k [⟨mn, g, .mx f⟩] lock) t k ⟨mn, g, .mx f⟩ (s.mxInc t k mn f) := by
  have hen : (s.ctxOf t k).enables ⟨mn, g, .mx f⟩ = true := Ctx.enables_of_guardS (by rw [hslot]; decide) hg
  have hy : mn ≠ .YIELD := by rintro rfl; cases hslot
  have hh : mn ≠ .HALT := by rintro rfl; cases hslot
  unfold State.mxInc
  cases hinc : f.inc
  · have heff : effM s t k mn f s = s.enqueued t k mn f := (effM_eq s t k mn f).trans (if_neg (by rw [hinc]; decide))
    exact issueNow_enabled hen hy hh heff rfl (fun _ _ => rfl) rfl (fun _ _ => rfl) (by simp)
  · have heff := (effM_eq s t k mn f).trans (if_pos hinc)
    refine issueNow_enabled hen hy hh heff rfl (fun x hx => State.tile_updTile_ne hx _ _) ?_ (fun j hj => State.ctxOf_updCtx_ne (Or.inr hj) _ _) ?_
    · simp [State.tile_updCtx, Tile.setCtx]
    · rw [State.ctxOf_updCtx_same, State.mxInc, if_pos hinc, if_pos rfl]

end

end Sys2Proof.Machine

open Sys2Proof Sys2Proof.Machine

/-- Settles O16: a disabled word only moves its context on; a word that faults is `State.contextFault`, a held one `State.applyHold`. -/
theorem guardedOffHeldAndFaultingWords : Obligations.GuardedOffHeldAndFaultingWords := by
  refine ⟨fun i t k w s hi hs hoff => ?_, fun i t k w code s hInv hi ht hfault hreqs => ?_, fun i t k w h s hi ht hlegal hhold => ?_⟩
  · have hissue := issueNow_disabled (lock := s.flag .TILE_CTRL (tix t.val) 1) hoff
    refine ⟨_, exec_issues hi hs, hissue, ?_⟩
    obtain ⟨-, -, -, hctx⟩ := hissue
    rw [hctx, Ctx.issued, Ctx.advance_disabled (Ctx.guardS_of_disabled hoff)]
    refine ⟨fun hnone => ?_, fun e es hloops => ⟨fun hne => ?_, fun hend hcount => ?_, fun hend hcount hes => ?_⟩⟩
    · rw [hnone]
      exact ⟨rfl, rfl⟩
    · rw [hloops, loopEnd_elsewhere hne]
      exact ⟨rfl, rfl⟩
    · rw [hloops, loopEnd_again hend hcount]
      exact ⟨rfl, rfl⟩
    · rw [hloops, hes, loopEnd_over hend hcount]
      exact ⟨rfl, rfl⟩
  · obtain ⟨-, hregs, -⟩ := hInv
    have hlive := ht.live
    obtain ⟨hrec, hfpc⟩ := State.fault_contextFault hlive code (s.ctxOf t.val k.val).pc hregs k.isLt
    obtain ⟨hmem, hevents⟩ := State.contextFault_quiet hlive hreqs code (s.ctxOf t.val k.val).pc
    exact ⟨_, by rw [exec_tries hi ht, State.tryBundle_faults hfault], hrec, hfpc, State.ctxOf_contextFault hlive .., hevents, hmem,
      fun j hj => State.ctxOf_contextFault_ne hlive _ _ hj, fun x hx => State.tile_contextFault_ne hlive _ _ hx,
      fun a h1 h2 h3 hbar => State.rg_contextFault_quiet hlive hreqs _ _ k.isLt h1 h2 h3 hbar⟩
  · rw [exec_tries hi ht, State.tryBundle_held hlegal hhold]
    refine ⟨?_, fun hwait => ?_, ?_, ?_, ?_⟩
    · rintro rfl
      rfl
    · rw [State.applyHold_wait hwait]
    · rintro rfl hst
      rw [State.applyHold_rnt hst]
    · rintro rfl
      rfl
    · rintro rfl
      rw [State.applyHold_arrive]
      exact ⟨_, rfl, rfl, rfl, State.ctxOf_updCtx_same .., fun j hj => State.ctxOf_updCtx_ne (Or.inr hj) _ _, fun x hx => State.tile_updTile_ne hx _ _⟩

/-- Settles O24: each of the five is an M-slot word that is issued. -/
theorem matrixInstructionsQueue : Obligations.MatrixInstructionsQueue := by
  intro t k g f s i mn hg hrow hs
  have hmn : i.ralok = some (t, k, ⟨mn, g, .mx f⟩) ∧ mn.slot = 3 := by
    rcases hrow with ⟨rfl, rfl⟩ | ⟨rfl, rfl⟩ | ⟨rfl, rfl⟩ | ⟨rfl, rfl⟩ | ⟨rfl, rfl⟩ <;> exact ⟨rfl, rfl⟩
  obtain ⟨hi, hslot⟩ := hmn
  have hissue := exec_issues hi hs
  obtain ⟨-, -, hfree, -⟩ := hs
  exact ⟨_, hissue, State.queued_of_not_held hslot (Ctx.enables_of_guardS (by rw [hslot]; decide) hg) hfree, issueNow_matrix hslot hg _⟩
end

section
/-! SUPPORT. The statement of freed slices and filled instruction lines (R87, R114, R117, R118). -/

namespace Sys2Proof.Machine
open Sys2Proof

/-! ### The release of a slice (R87) -/

theorem Tab.get_erase_same {α : Type} {t : Tab α} (h : t.wf = true) (d : α) (k : Nat) : (t.erase k).get d k = d := by
  rw [Tab.get, Tab.find_erase_same h]
  rfl

/-- What has its default value keeps it when a key is erased. -/
theorem Tab.get_erase_default {α : Type} {t : Tab α} (h : t.wf = true) {d : α} {j : Nat} (hj : t.get d j = d) (k : Nat) : (t.erase k).get d j = d := by
  by_cases hjk : j = k
  · rw [hjk, Tab.get_erase_same h]
  · rwa [Tab.get, Tab.find_erase_ne hjk]

/-- The tile whose slice `j` has become free. -/
def Tile.freeSlice (x : Tile) (j : Nat) : Tile :=
  { x.setSlice j { Slice.free with rel := (x.slice j).rel } with
    sets := (x.sets.erase (2 * j)).erase (2 * j + 1),
    banks := (((x.banks.erase (4 * j)).erase (4 * j + 1)).erase (4 * j + 2)).erase (4 * j + 3) }

theorem Tile.slice_freeSlice (x : Tile) (j : Nat) : (x.freeSlice j).slice j = { Slice.free with rel := (x.slice j).rel } := Tab.get_put_same ..

theorem Tile.slice_freeSlice_ne {i j : Nat} (h : i ≠ j) (x : Tile) : (x.freeSlice j).slice i = x.slice i := Tab.get_put_ne h ..

theorem Tile.statSet_freeSlice {x : Tile} (h : x.sets.wf = true) (j : Nat) (set : Bool) : (x.freeSlice j).statSet j set = StatSet.zero := by
  cases set
  · exact Tab.get_erase_default (Tab.wf_erase h _) (Tab.get_erase_same h _ _) _
  · exact Tab.get_erase_same (Tab.wf_erase h _) _ _

theorem Tile.bank_freeSlice {x : Tile} (h : x.banks.wf = true) (j : Nat) {b : Nat} (hb : b < 4) : (x.freeSlice j).bank j b = Bank.zero := by
  have h1 := Tab.wf_erase h (4 * j)
  have h2 := Tab.wf_erase h1 (4 * j + 1)
  have h3 := Tab.wf_erase h2 (4 * j + 2)
  obtain rfl | rfl | rfl | rfl : b = 0 ∨ b = 1 ∨ b = 2 ∨ b = 3 := by omega
  · exact Tab.get_erase_default h3 (Tab.get_erase_default h2 (Tab.get_erase_default h1 (Tab.get_erase_same h ..) _) _) _
  · exact Tab.get_erase_default h3 (Tab.get_erase_default h2 (Tab.get_erase_same h1 ..) _) _
  · exact Tab.get_erase_default h3 (Tab.get_erase_same h2 ..) _
  · exact Tab.get_erase_same h3 ..

theorem State.sliceFree_kept {s : State} {t j : Nat} (h : ((s.tile t).slice j).releasing = false ∨ (s.tile t).clk < ((s.tile t).slice j).rel + 4) :
    s.sliceFree t j = s :=
  if_pos (h.imp (fun h => by rw [h]; rfl) Or.inr)

/-- A slice whose four clocks have passed becomes free: of the instructions in the queue only an accumulating MPART names it. -/
theorem State.sliceFree_frees {s : State} {t j : Nat} (hrel : ((s.tile t).slice j).releasing = true) (hclk : ((s.tile t).slice j).rel + 4 ≤ (s.tile t).clk)
    (hmq : ∀ e ∈ (s.tile t).mq, ((s.tile t).slice j).owner = some e.ctx → e.f.slm.getLsbD j = true → e.mn = .MPART ∧ e.f.acc = true) :
    s.sliceFree t j = s.updTile t (·.freeSlice j) := by
  have hidle : (s.tile t).mq.any (fun e => decide (((s.tile t).slice j).owner = some e.ctx) && e.f.slm.getLsbD j && !(e.mn == .MPART && e.f.acc)) = false := by
    refine List.any_eq_false.2 fun e he hbusy => ?_
    simp only [Bool.and_eq_true, decide_eq_true_eq, Bool.not_eq_true'] at hbusy
    obtain ⟨⟨howner, hslm⟩, hpart⟩ := hbusy
    obtain ⟨hmn, hacc⟩ := hmq e he howner hslm
    simp [hmn, hacc] at hpart
  have hgo : ¬(!((s.tile t).slice j).releasing ∨ (s.tile t).mq.any (fun e => decide (((s.tile t).slice j).owner = some e.ctx) && e.f.slm.getLsbD j &&
      !(e.mn == .MPART && e.f.acc)) ∨ (s.tile t).clk < ((s.tile t).slice j).rel + 4) := by
    rw [hrel, hidle]
    simp [Nat.not_lt.2 hclk]
  rw [State.sliceFree, if_neg hgo, State.updTile, State.updTile]
  rfl

/-! ### A missed instruction line (R114, R117, R118) -/

@[simp] theorem State.logFault_mem (s : State) (src kind mctx va : Nat) : (s.logFault src kind mctx va).mem = s.mem := by
  rw [State.logFault]
  split
  · rfl
  · rw [State.setReg_mem, State.setReg_mem]

@[simp] theorem State.logFault_tiles (s : State) (src kind mctx va : Nat) : (s.logFault src kind mctx va).tiles = s.tiles := by
  rw [State.logFault]
  split
  · rfl
  · rw [State.setReg_tiles, State.setReg_tiles]

/-- An error that is counted and reported leaves the memory and the tiles. -/
theorem State.counted_mem_tiles (s : State) (r : Reg) (is : List Nat) (hi lo n cls code src inst a : Nat) :
    ((s.satInc r is hi lo n).signal cls code src inst a).mem = s.mem ∧ ((s.satInc r is hi lo n).signal cls code src inst a).tiles = s.tiles := by
  rw [State.signal_mem, State.satInc_mem, State.signal_tiles, State.satInc_tiles]
  exact ⟨rfl, rfl⟩

theorem State.eccReport_mem_tiles (s : State) (a src : Nat) (e : Ecc) : (s.eccReport a src e).mem = s.mem ∧ (s.eccReport a src e).tiles = s.tiles := by
  cases e
  case clean => exact ⟨rfl, rfl⟩
  all_goals
    rw [State.eccReport]
    split
    · exact State.counted_mem_tiles ..
    · exact State.counted_mem_tiles ..
    · exact ⟨State.signal_mem .., State.signal_tiles ..⟩
    · exact ⟨State.signal_mem .., State.signal_tiles ..⟩

/-- A read's tag mismatches are counted and reported (R301). -/
def State.sealReport (s : State) (bad : List (Nat × Nat)) : State :=
  bad.foldl (fun s p => (s.satInc .FAB_SEALr_CNT [p.1] 31 16 1).signal 5 0 0xD8 p.1 p.2) s

theorem State.sealReport_mem_tiles (s : State) (bad : List (Nat × Nat)) : (s.sealReport bad).mem = s.mem ∧ (s.sealReport bad).tiles = s.tiles := by
  induction bad generalizing s with
  | nil => exact ⟨rfl, rfl⟩
  | cons p bad ih =>
    obtain ⟨hmem, htiles⟩ := ih ((s.satInc .FAB_SEALr_CNT [p.1] 31 16 1).signal 5 0 0xD8 p.1 p.2)
    obtain ⟨hmem', htiles'⟩ := s.counted_mem_tiles .FAB_SEALr_CNT [p.1] 31 16 1 5 0 0xD8 p.1 p.2
    exact ⟨hmem.trans hmem', htiles.trans htiles'⟩

/-- A memory read reports errors and changes neither a byte nor a tile. -/
theorem State.memRead_mem_tiles (s : State) (a n src : Nat) (e : Ecc) : (s.memRead a n src e).2.mem = s.mem ∧ (s.memRead a n src e).2.tiles = s.tiles := by
  have hread : (s.memRead a n src e).2 = (if s.poisoned a n then s else s.eccReport a src e).sealReport (s.badLines a n) := rfl
  rw [hread]
  obtain ⟨hmem, htiles⟩ := State.sealReport_mem_tiles (if s.poisoned a n then s else s.eccReport a src e) (s.badLines a n)
  obtain ⟨hmem', htiles'⟩ := s.eccReport_mem_tiles a src e
  rw [hmem, htiles]
  split
  · exact ⟨rfl, rfl⟩
  · exact ⟨hmem', htiles'⟩

/-- Outside the tag areas a read returns the bytes stored (R303). -/
theorem State.memRead_bytes {s : State} {a n : Nat} (h : ∀ i, i < n → s.inTags (a + i) = false) (src : Nat) (e : Ecc) :
    (s.memRead a n src e).1.bytes = s.mem.rdBytes a n := by
  have hstored : ∀ p ∈ (s.mem.rdBytes a n).zipIdx, (if s.inTags (a + p.2) then 0 else p.1) = p.1 := by
    intro p hp
    have hlt := List.snd_lt_of_mem_zipIdx hp
    rw [Mem.rdBytes_length] at hlt
    rw [h p.2 (by omega)]
    rfl
  change (s.mem.rdBytes a n).zipIdx.map _ = _
  rw [List.map_congr_left hstored]
  exact List.zipIdx_map_fst ..

/-- The parts of a new instruction line that came poisoned. -/
def State.lineBad (s : State) (pa : Nat) (ecc : Ecc) : List Nat :=
  (upTo 4).filter (fun i => ecc == .uncorrectable || s.poisoned (pa + 64 * i) 64 || s.badLines (pa + 64 * i) 64 != [])

theorem State.mem_lineBad {s : State} {pa i : Nat} (hi : i < 4) (ecc : Ecc) :
    i ∈ s.lineBad pa ecc ↔ ecc = .uncorrectable ∨ s.poisoned (pa + 64 * i) 64 = true ∨ s.badLines (pa + 64 * i) 64 ≠ [] := by
  simp [State.lineBad, upTo, hi, or_assoc]

/-- The context's wait for the missed line is over. -/
def State.missOver (s : State) (t k : Nat) : State := s.updCtx t k (fun c => { c with miss := none })

/-- The missed line's fetch has failed. -/
def State.missFailed (s : State) (t k line : Nat) : State := (s.missOver t k).updCtx t k (fun c => { c with ffail := some (line, 0x02) })

theorem State.ctxOf_missFailed (s : State) (t k line : Nat) : (s.missFailed t k line).ctxOf t k = { s.ctxOf t k with miss := none, ffail := some (line, 0x02) } := by
  rw [State.missFailed, State.ctxOf_updCtx_same, State.missOver, State.ctxOf_updCtx_same]

theorem State.icache_missOver (s : State) (t k : Nat) : ((s.missOver t k).tile t).icache = (s.tile t).icache := by
  rw [State.missOver, State.tile_updCtx, Tile.setCtx]

theorem State.icache_missFailed (s : State) (t k line : Nat) : ((s.missFailed t k line).tile t).icache = (s.tile t).icache := by
  rw [State.missFailed, State.tile_updCtx, ← s.icache_missOver t k, Tile.setCtx]

section
variable {s : State} {t k line : Nat} (hmiss : (s.ctxOf t k).miss = some line) (hnew : (s.tile t).iline (s.mmuCtx t k) line = none)
include hmiss hnew

theorem State.icacheFill_waits (hwalk : lookupTlb (s.tile t).tlb (s.mmuCtx t k) line = none) (ecc : Ecc) : s.icacheFill t k ecc = s := by
  simp [State.icacheFill, hmiss, hnew, hwalk]

section
variable {e : Tlb} (hwalk : lookupTlb (s.tile t).tlb (s.mmuCtx t k) line = some e)
include hwalk

/-- A page that is not executable, or not in a sealed region, gives IFETCH; the first is an MMU fault too. -/
theorem State.icacheFill_fails (hbad : e.x = false ∨ s.sealedAt (e.map line) = none) (ecc : Ecc) :
    ∃ v : State, s.icacheFill t k ecc = v.missFailed t k line ∧ v.mem = s.mem ∧ v.tiles = s.tiles := by
  cases hx : e.x
  · refine ⟨s.logFault 1 kPERM (s.mmuCtx t k) line, ?_, logFault_mem .., logFault_tiles ..⟩
    simp only [State.icacheFill, hmiss, hnew, hwalk, Tlb.allows, hx]
    rfl
  · have hopen : s.sealedAt (e.map line) = none := hbad.resolve_left (by rw [hx]; decide)
    refine ⟨s, ?_, rfl, rfl⟩
    simp only [State.icacheFill, hmiss, hnew, hwalk, Tlb.allows, hx, hopen]
    rfl

/-- An executable page of a sealed region gives the line. -/
theorem State.icacheFill_fills (hx : e.x = true) (hsealed : s.sealedAt (e.map line) ≠ none) (ecc : Ecc) :
    s.icacheFill t k ecc = ((s.memRead (e.map line) 256 t ecc).2.missOver t k).updTile t (fun x =>
      { x with icache := (if 256 ≤ x.icache.length then x.icache.drop 1 else x.icache) ++
        [⟨s.mmuCtx t k, line, e.map line, (s.memRead (e.map line) 256 t ecc).1.bytes, s.lineBad (e.map line) ecc⟩] }) := by
  obtain ⟨r, hr⟩ := Option.ne_none_iff_exists'.1 hsealed
  simp only [State.icacheFill, hmiss, hnew, hwalk, Tlb.allows, hx, hr]
  rfl

end

end

end Sys2Proof.Machine

open Sys2Proof Sys2Proof.Machine

/-- Settles O26: the two commands by the branches of `State.sliceFree` and `State.icacheFill`. -/
theorem slicesAndInstructionLines : Obligations.SlicesAndInstructionLines := by
  intro t j k ecc s hclk
  have hfree : exec (.sliceFree t j) s = .next (s.sliceFree t.val j.val) := liveIn_clocked hclk (fun s => s.sliceFree t.val j.val)
  have hfill : exec (.icacheFill t k ecc) s = .next (s.icacheFill t.val k.val ecc) := liveIn_clocked hclk (fun s => s.icacheFill t.val k.val ecc)
  refine ⟨fun h => ?_, fun h => ?_, fun hrel hfour hmq hsets hbanks => ?_, fun hmiss => ?_, ?_⟩
  · rw [hfree, State.sliceFree_kept (Or.inl h)]
  · rw [hfree, State.sliceFree_kept (Or.inr h)]
  · refine ⟨_, hfree.trans (congrArg Host.Outcome.next (State.sliceFree_frees hrel hfour hmq)), ⟨rfl, fun x hx => State.tile_updTile_ne hx _ _⟩, ?_⟩
    rw [State.tile_updTile_same, Tile.slice_freeSlice]
    exact ⟨rfl, rfl, Tile.statSet_freeSlice hsets _, fun b hb => Tile.bank_freeSlice hbanks _ hb, fun i hi => Tile.slice_freeSlice_ne hi _, rfl⟩
  · rw [hfill, State.icacheFill, hmiss]
  · rintro line m hmiss rfl hnew
    refine ⟨fun hwalk => ?_, fun e hwalk => ⟨fun hbad => ?_, fun hx hsealed => ?_⟩⟩
    · rw [hfill, State.icacheFill_waits hmiss hnew hwalk]
    · obtain ⟨v, hv, hmem, htiles⟩ := State.icacheFill_fails hmiss hnew hwalk hbad ecc
      refine ⟨v.missFailed t.val k.val line, by rw [hfill, hv], by rw [State.ctxOf_missFailed], by rw [State.ctxOf_missFailed], ?_, hmem⟩
      rw [State.icache_missFailed, State.tile, htiles]
      rfl
    · obtain ⟨hmem, htiles⟩ := s.memRead_mem_tiles (e.map line) 256 t.val ecc
      refine ⟨_, ⟨s.mmuCtx t.val k.val, line, e.map line, (s.memRead (e.map line) 256 t.val ecc).1.bytes, s.lineBad (e.map line) ecc⟩,
        hfill.trans (congrArg Host.Outcome.next (State.icacheFill_fills hmiss hnew hwalk hx hsealed ecc)), ?_, hmem, ?_, rfl, rfl, rfl,
        fun htags => State.memRead_bytes htags t.val ecc, fun i hi => State.mem_lineBad hi ecc⟩
      · rw [State.ctxOf, State.tile_updTile_same]
        change (State.ctxOf (State.missOver _ _ _) _ _).miss = none
        rw [State.missOver, State.ctxOf_updCtx_same]
      · rw [State.tile_updTile_same]
        dsimp only
        rw [State.icache_missOver, State.tile, htiles]
        rfl
end

section
/-! SUPPORT. The statement of the matrix queue's events (R82, R83, R114, R115, R141 to R146). -/

namespace Sys2Proof.Machine
open Sys2Proof

/-! ### Folds and searches -/

/-- A fold whose steps each work at one index works at an index of its list. -/
theorem foldl_at {α β : Type} {f : α → Nat → α} {view : α → Nat → β} {R : β → β → Prop} {i : Nat}
    (hne : ∀ x j, i ≠ j → view (f x j) i = view x i)
    (hat : ∀ x, R (view x i) (view (f x i) i)) {js : List Nat} (hnodup : js.Nodup) (hi : i ∈ js) (x : α) : R (view x i) (view (js.foldl f x) i) := by
  induction js generalizing x with
  | nil => cases hi
  | cons j js ih =>
    obtain ⟨hj, hjs⟩ := List.nodup_cons.1 hnodup
    rw [List.foldl_cons]
    by_cases hij : i = j
    · subst hij
      have hrest : view (js.foldl f (f x i)) i = view (f x i) i :=
        List.foldlRecOn (motive := fun y => view y i = view (f x i) i) js f rfl (fun y hy k hk => (hne y k (fun hik => hj (hik ▸ hk))).trans hy)
      rw [hrest]
      exact hat x
    · have hrest := ih hjs ((List.mem_cons.1 hi).resolve_left hij) (f x j)
      rwa [hne x j hij] at hrest

/-- A fold keeps what each of its steps keeps. -/
theorem foldl_kept {α β γ : Type} {f : α → β → α} {view : α → γ} (h : ∀ x b, view (f x b) = view x) (x : α) (bs : List β) :
    view (bs.foldl f x) = view x :=
  List.foldlRecOn (motive := fun y => view y = view x) bs f rfl (fun y hy b _ => (h y b).trans hy)

theorem nodup_slicesOf (slm : BitVec 4) : (slicesOf slm).Nodup := List.nodup_range.filter _

theorem mem_slicesOf {slm : BitVec 4} {j : Nat} (hj : j < 4) (h : slm.getLsbD j = true) : j ∈ slicesOf slm := by simp [slicesOf, hj, h]

theorem find?_updFirst {α : Type} {p : α → Bool} {f : α → α} {xs : List α} {x : α} (hx : xs.find? p = some x) (hf : p (f x) = true) :
    (updFirst p f xs).find? p = some (f x) := by
  induction xs with
  | nil => cases hx
  | cons y ys ih =>
    rw [List.find?_cons] at hx
    cases hy : p y
    · rw [hy] at hx
      rw [updFirst, hy, if_neg (by decide), List.find?_cons, hy]
      exact ih hx
    · rw [hy] at hx
      cases hx
      rw [updFirst, hy, if_pos rfl, List.find?_cons, hf]

/-- The queue's parts about the instruction at which it is split. -/
theorem splitFirst_some {eng : Engine} {es pre post : List MEnt} {e : MEnt} (h : splitFirst eng es = some (pre, e, post)) :
    e ∈ es ∧ e.mn.engine = eng ∧ e.run = none := by
  induction es generalizing pre with
  | nil => cases h
  | cons x xs ih =>
    rw [splitFirst] at h
    split at h
    · next hx =>
      cases h
      exact ⟨List.mem_cons_self, hx.1, Option.isNone_iff_eq_none.1 hx.2⟩
    · obtain ⟨⟨pre', e', post'⟩, hsplit, heq⟩ := Option.map_eq_some_iff.1 h
      cases heq
      obtain ⟨hmem, hrest⟩ := ih hsplit
      exact ⟨List.mem_cons_of_mem _ hmem, hrest⟩

theorem Tile.startable_some {x : Tile} {eng : Engine} {pre post : List MEnt} {e : MEnt} (h : x.startable eng = some (pre, e, post)) :
    e ∈ x.mq ∧ e.mn.engine = eng ∧ e.run = none := by
  unfold Tile.startable at h
  split at h
  · cases h
  · next hsplit =>
    split at h
    · cases h
      exact splitFirst_some hsplit
    · cases h

/-! ### One clock of an engine (R83, R84) -/

/-- What a clock of a running instruction leaves of its tile. -/
structure TileTicked (x y : Tile) : Prop where
  ctx : y.ctx = x.ctx
  slices : y.slices = x.slices
  mq : y.mq = x.mq
  clk : y.clk = x.clk
  fmt : ∀ key, (y.sets.get StatSet.zero key).fmt = (x.sets.get StatSet.zero key).fmt

theorem TileTicked.refl (x : Tile) : TileTicked x x := ⟨rfl, rfl, rfl, rfl, fun _ => rfl⟩

theorem TileTicked.trans {x y z : Tile} (h1 : TileTicked x y) (h2 : TileTicked y z) : TileTicked x z :=
  ⟨h2.ctx.trans h1.ctx, h2.slices.trans h1.slices, h2.mq.trans h1.mq, h2.clk.trans h1.clk, fun key => (h2.fmt key).trans (h1.fmt key)⟩

theorem Tile.ticked_addSample (x : Tile) (ch r : Nat) : TileTicked x (x.addSample ch r) := by
  unfold Tile.addSample
  split
  · exact ⟨rfl, rfl, rfl, rfl, fun _ => rfl⟩
  · exact .refl x

theorem Tile.ticked_mstwStep (x : Tile) (f : MX) (i sf : Nat) (ws : List Byte) : TileTicked x (x.mstwStep f i sf ws) := by
  unfold Tile.mstwStep
  exact List.foldlRecOn (motive := fun (p : Tile × Nat) => TileTicked x p.1) _ _ (.refl x)
    (fun p hp g _ => hp.trans ⟨rfl, rfl, rfl, rfl, fun _ => rfl⟩)

/-- What a clock of a running instruction leaves of the state. -/
structure Ticked (s u : State) (t : Nat) : Prop where
  only : OnlyTile s u t
  tile : TileTicked (s.tile t) (u.tile t)

theorem Ticked.refl (s : State) (t : Nat) : Ticked s s t := ⟨⟨rfl, fun _ _ => rfl⟩, .refl _⟩

theorem Ticked.trans {s u v : State} {t : Nat} (h1 : Ticked s u t) (h2 : Ticked u v t) : Ticked s v t := ⟨h1.only.trans h2.only, h1.tile.trans h2.tile⟩

theorem State.ticked_updTile {s : State} {t : Nat} {f : Tile → Tile} (h : TileTicked (s.tile t) (f (s.tile t))) : Ticked s (s.updTile t f) t :=
  ⟨s.onlyTile_updTile t f, by rwa [State.tile_updTile_same]⟩

theorem State.ticked_feedRow (s : State) (t a : Nat) : Ticked s (s.feedRow t a).2 t := by
  have h : TileTicked (s.tile t) { s.tile t with rdBanks := (s.tile t).rdBanks ++ [a / 256 % 16] } := ⟨rfl, rfl, rfl, rfl, fun _ => rfl⟩
  exact State.ticked_updTile (f := fun x => { x with rdBanks := x.rdBanks ++ [a / 256 % 16] }) h

theorem ticked_mstwSteps (s : State) (t : Nat) (f : MX) (sz i n : Nat) (buf : List Byte) : Ticked s (mstwSteps s t f sz i n buf).1 t := by
  induction n generalizing s i buf with
  | zero => exact .refl s t
  | succ n ih => exact (State.ticked_updTile (Tile.ticked_mstwStep ..)).trans (ih ..)

theorem ticked_tickMstw (s : State) (t : Nat) (e : MEnt) (r : MRun) : Ticked s (tickMstw s t e r).1 t ∧ (tickMstw s t e r).2.start = r.start := by
  have hfeed : ∀ (c : Prop) [Decidable c] (a : Nat), Ticked s (if c then s.feedRow t a else ([], s)).2 t := by
    intro c _ a
    split
    · exact s.ticked_feedRow t a
    · exact .refl s t
  unfold tickMstw
  dsimp only
  split
  · exact ⟨.refl s t, rfl⟩
  · split
    · split
      · dsimp only
        exact ⟨(hfeed ..).trans (State.ticked_updTile (Tile.ticked_mstwStep ..)), rfl⟩
      · exact ⟨hfeed .., rfl⟩
    · exact ⟨(hfeed ..).trans (ticked_mstwSteps ..), rfl⟩

theorem ticked_tickMldi (s : State) (t : Nat) (e : MEnt) (r : MRun) (free : Bool) :
    Ticked s (tickMldi s t e r free).1 t ∧ (tickMldi s t e r free).2.start = r.start := by
  unfold tickMldi
  dsimp only
  split
  · dsimp only
    refine ⟨(s.ticked_feedRow t _).trans (State.ticked_updTile ⟨rfl, rfl, rfl, rfl, fun key => ?_⟩), rfl⟩
    dsimp only
    generalize 2 * (slicesOf e.f.slm).getD (r.rows / loadRows e.f) 0 + b2n e.f.set = key'
    by_cases hkey : key = key'
    · rw [hkey, Tab.get_put_same]
    · rw [Tab.get_put_ne hkey]
  · exact ⟨.refl s t, rfl⟩

/-- The first clock of an MDRN: no span is four clocks old. -/
theorem ticked_tickMdrn (s : State) (t : Nat) (e : MEnt) {r : MRun} (houts : r.outs = []) :
    Ticked s (tickMdrn s t e r).1 t ∧ (tickMdrn s t e r).2.start = r.start := by
  have hset : ∀ y, TileTicked (s.tile t) y → Ticked s (s.setTile t y) t := fun y hy => State.ticked_updTile (f := fun _ => y) hy
  unfold tickMdrn
  dsimp only
  rw [houts]
  split
  · generalize hgo : List.foldl _ (s.tile t, [], r.msat) _ = go
    have htick : TileTicked (s.tile t) go.1 := by
      rw [← hgo]
      refine List.foldlRecOn (motive := fun (p : Tile × List Byte × Bool) => TileTicked (s.tile t) p.1) _ _ (.refl _) (fun p hp q _ => ?_)
      dsimp only
      split
      · exact hp.trans (Tile.ticked_addSample ..)
      · exact hp
    have hlate : ¬(s.tile t).clk + 4 ≤ go.1.clk := by
      rw [htick.clk]
      omega
    refine ⟨?_, rfl⟩
    simp only [List.nil_append, List.filter_cons, hlate, decide_false, Bool.false_eq_true, if_false, List.filter_nil, List.foldl_nil]
    exact hset _ htick
  · exact ⟨hset _ (.refl _), rfl⟩

/-- The first clock of an instruction on its engine. -/
theorem tickEngine_first {eng : Engine} {t : Nat} {s : State} {fed : Bool} {e : MEnt} {r : MRun} (hrun : e.run = some r) (heng : e.mn.engine = eng)
    (houts : r.outs = []) : ∃ (v : State) (r' : MRun),
      (tickEngine eng t (s, fed) e).1 = v.updTile t (fun x => { x with mq := updFirst (fun p => p.id == e.id) (fun p => { p with run := some r' }) x.mq }) ∧
      Ticked s v t ∧ r'.start = r.start ∧ (e.mn = .MCLR → v = s) := by
  unfold tickEngine
  simp only [hrun, heng, ne_eq, not_true, if_false]
  split
  · next hmn =>
    obtain ⟨htick, hstart⟩ := ticked_tickMstw s t e r
    exact ⟨_, _, rfl, htick, hstart, fun h => by rw [hmn] at h; cases h⟩
  · next hmn =>
    obtain ⟨htick, hstart⟩ := ticked_tickMldi s t e r (!fed)
    exact ⟨_, _, rfl, htick, hstart, fun h => by rw [hmn] at h; cases h⟩
  · next hmn =>
    obtain ⟨htick, hstart⟩ := ticked_tickMdrn s t e houts
    exact ⟨_, _, rfl, htick, hstart, fun h => by rw [hmn] at h; cases h⟩
  · exact ⟨_, _, rfl, .refl s t, rfl, fun _ => rfl⟩

/-! ### Effects at the start (R142, R145, R146) -/

theorem Tile.slice_setSlice (x : Tile) (j : Nat) (v : Slice) : (x.setSlice j v).slice j = v := Tab.get_put_same ..

theorem Tile.slice_setSlice_ne {i j : Nat} (h : i ≠ j) (x : Tile) (v : Slice) : (x.setSlice j v).slice i = x.slice i := Tab.get_put_ne h ..

/-- An MPART that takes slices gives them their owner and MODE. -/
theorem Tile.slice_startMpart_takes {f : MX} (hacc : f.acc = false) {j : Nat} (hj : j ∈ slicesOf f.slm) (x : Tile) (k : Nat) :
    ((x.startMpart k f).slice j).owner = some k ∧ ((x.startMpart k f).slice j).mode = f.mode.toNat ∧ ((x.startMpart k f).slice j).releasing = false := by
  unfold Tile.startMpart
  refine foldl_at (view := Tile.slice) (R := fun _ y => y.owner = some k ∧ y.mode = f.mode.toNat ∧ y.releasing = false) (fun x i hij => ?_) (fun x => ?_)
    (nodup_slicesOf _) hj x
  · rw [hacc]
    exact Tile.slice_setSlice_ne hij ..
  · rw [hacc]
    simp [Tile.slice_setSlice]

/-- An MPART that releases slices releases those of its context. -/
theorem Tile.slice_startMpart_releases {f : MX} (hacc : f.acc = true) {j k : Nat} (hj : j ∈ slicesOf f.slm) {x : Tile} (howner : (x.slice j).owner = some k) :
    ((x.startMpart k f).slice j).releasing = true := by
  unfold Tile.startMpart
  refine foldl_at (view := Tile.slice) (R := fun y z => y.owner = some k → z.releasing = true) (fun x i hij => ?_) (fun x hx => ?_)
    (nodup_slicesOf _) hj x howner
  · rw [hacc, if_pos rfl]
    split
    · exact Tile.slice_setSlice_ne hij ..
    · rfl
  · rw [hacc, if_pos rfl]
    split
    · rw [Tile.slice_setSlice]
    · next hkept => simpa [hx] using hkept

/-- MCLR empties its bank of every slice it names. -/
theorem Tile.bank_startMclr {f : MX} {j : Nat} (hj : j ∈ slicesOf f.slm) (x : Tile) : ((x.startMclr f).bank j f.bank.toNat).ent = .empty := by
  unfold Tile.startMclr
  refine foldl_at (view := fun x j => x.bank j f.bank.toNat) (R := fun _ y => y.ent = .empty) (fun x i hij => ?_) (fun x => ?_) (nodup_slicesOf _) hj x
  · exact Tab.get_put_ne (by omega) ..
  · dsimp only [Tile.bank]
    rw [Tab.get_put_same]

/-- MLDI records its format in the sets it loads. -/
theorem State.fmt_startMldi {f : MX} {j : Nat} (hj : j ∈ slicesOf f.slm) (s : State) (t : Nat) :
    (((s.startMldi t f).tile t).statSet j f.set).fmt = some f.fmt.toNat := by
  rw [State.startMldi, State.tile_updTile_same]
  refine foldl_at (view := fun x j => Tile.statSet x j f.set) (R := fun _ y => y.fmt = some f.fmt.toNat) (fun x i hij => ?_) (fun x => ?_)
    (nodup_slicesOf _) hj (s.tile t)
  · exact Tab.get_put_ne (by omega) ..
  · dsimp only [Tile.statSet]
    rw [Tab.get_put_same]

/-- What the effects at the start leave of the tile; the instruction itself stays in the queue. -/
structure TileBegun (e : MEnt) (x y : Tile) : Prop where
  ctx : y.ctx = x.ctx
  clk : y.clk = x.clk
  queue : e ∈ x.mq → e ∈ y.mq

theorem TileBegun.of_kept {e : MEnt} {x y : Tile} (hctx : y.ctx = x.ctx) (hclk : y.clk = x.clk) (hmq : y.mq = x.mq) : TileBegun e x y := by
  refine ⟨hctx, hclk, ?_⟩
  rw [hmq]
  exact id

theorem TileBegun.trans {e : MEnt} {x y z : Tile} (h1 : TileBegun e x y) (h2 : TileBegun e y z) : TileBegun e x z :=
  ⟨h2.ctx.trans h1.ctx, h2.clk.trans h1.clk, fun h => h2.queue (h1.queue h)⟩

theorem TileBegun.foldl {e : MEnt} {f : Tile → Nat → Tile} (h : ∀ x j, TileBegun e x (f x j)) (x : Tile) (js : List Nat) : TileBegun e x (js.foldl f x) :=
  List.foldlRecOn (motive := fun y => TileBegun e x y) js f ⟨rfl, rfl, id⟩ (fun y hy j _ => hy.trans (h y j))

theorem Tile.begun_startMpart (e : MEnt) (x : Tile) (k : Nat) (f : MX) : TileBegun e x (x.startMpart k f) := by
  refine .foldl (fun x j => ?_) x _
  dsimp only
  split
  · split
    · exact .of_kept rfl rfl rfl
    · exact .of_kept rfl rfl rfl
  · exact .of_kept rfl rfl rfl

theorem Tile.begun_yieldFeeder {e : MEnt} (hmn : e.mn = .MSTW) (x : Tile) : TileBegun e x x.yieldFeeder := by
  unfold Tile.yieldFeeder
  split
  · exact .of_kept rfl rfl rfl
  · refine ⟨rfl, rfl, fun he => List.mem_map.2 ⟨e, he, ?_⟩⟩
    rw [hmn]

theorem State.begun_startEffect (s : State) (t : Nat) (e : MEnt) :
    OnlyTile s (s.startEffect t e) t ∧ TileBegun e (s.tile t) ((s.startEffect t e).tile t) := by
  unfold State.startEffect
  split
  · refine ⟨s.onlyTile_updTile .., ?_⟩
    rw [State.tile_updTile_same]
    exact Tile.begun_startMpart ..
  · rw [State.startMldi, State.tile_updTile_same]
    refine ⟨s.onlyTile_updTile .., .foldl (fun _ _ => ?_) _ _⟩
    exact .of_kept rfl rfl rfl
  · refine ⟨s.onlyTile_updTile .., ?_⟩
    rw [State.tile_updTile_same, Tile.startMclr]
    refine .foldl (fun _ _ => ?_) _ _
    exact .of_kept rfl rfl rfl
  · next hmn =>
    refine ⟨s.onlyTile_updTile .., ?_⟩
    rw [State.tile_updTile_same]
    exact Tile.begun_yieldFeeder hmn _
  · exact ⟨⟨rfl, fun _ _ => rfl⟩, .of_kept rfl rfl rfl⟩

/-! ### MATRIX_START (R82, R114, R115) -/

/-- The state in which the instruction `e` runs, before its first clock. -/
def State.begun (s : State) (t : Nat) (e : MEnt) : State :=
  (s.startEffect t e).updTile t (fun x =>
    { x with mq := updFirst (fun p => p.id == e.id) (fun _ => e.started (s.tile t).clk (((s.startEffect t e).tile t).occupancy e)) x.mq })

theorem State.matrixStart_waits {s : State} {t : Nat} {eng : Engine} (h : (s.tile t).startable eng = none) : s.matrixStart t eng = s := by
  simp only [State.matrixStart, h]

section
variable {s : State} {t : Nat} {eng : Engine} {pre post : List MEnt} {e : MEnt} (hstart : (s.tile t).startable eng = some (pre, e, post))
include hstart

theorem State.matrixStart_faults {code : Nat} (hfault : (s.tile t).startFault e = some code) :
    s.matrixStart t eng =
      (s.updTile t (fun x => { x with mq := pre ++ post.filter (fun p => p.ctx ≠ e.ctx ∨ p.run.isSome) })).contextFault t e.ctx code e.pc := by
  simp only [State.matrixStart, hstart, hfault]

/-- An instruction without a fault starts, and its first clock is this one. -/
theorem State.matrixStart_starts (hfault : (s.tile t).startFault e = none) : ∃ (v : State) (r : MRun),
    s.matrixStart t eng = v.updTile t (fun x => { x with mq := updFirst (fun p => p.id == e.id) (fun p => { p with run := some r }) x.mq }) ∧
    Ticked (s.begun t e) v t ∧ r.start = (s.tile t).clk ∧ (e.mn = .MCLR → v = s.begun t e) := by
  obtain ⟨-, heng, -⟩ := Tile.startable_some hstart
  simp only [State.matrixStart, hstart, hfault]
  exact tickEngine_first (e := e.started (s.tile t).clk (((s.startEffect t e).tile t).occupancy e)) rfl heng rfl

end

/-- What the start of an instruction leaves (R82). -/
theorem State.begun_kept (s : State) (t : Nat) (e : MEnt) (he : e ∈ (s.tile t).mq) :
    OnlyTile s (s.begun t e) t ∧ ((s.begun t e).tile t).ctx = (s.tile t).ctx ∧
    ((s.begun t e).tile t).mq.find? (fun p => p.id == e.id) = some (e.started (s.tile t).clk (((s.startEffect t e).tile t).occupancy e)) := by
  obtain ⟨honly, hbegun⟩ := s.begun_startEffect t e
  refine ⟨honly.trans (State.onlyTile_updTile ..), ?_, ?_⟩
  · rw [State.begun, State.tile_updTile_same]
    exact hbegun.ctx
  · have hfound := List.find?_isSome (p := fun p : MEnt => p.id == e.id) |>.2 ⟨e, hbegun.queue he, beq_self_eq_true e.id⟩
    obtain ⟨e0, he0⟩ := Option.isSome_iff_exists.1 hfound
    rw [State.begun, State.tile_updTile_same]
    exact find?_updFirst (f := fun _ => e.started (s.tile t).clk (((s.startEffect t e).tile t).occupancy e)) he0 (beq_self_eq_true e.id)

/-! ### MATRIX_COMPLETE (R83, R87, R144) -/

/-- The tile without an instruction that has reached its latency point `c`. -/
def Tile.completed (x : Tile) (e : MEnt) (rest : List MEnt) (c : Nat) : Tile :=
  (slicesOf e.f.slm).foldl (fun x j =>
    let y := x.slice j
    if y.releasing ∧ e.mn ≠ .MPART then x.setSlice j { y with rel := max y.rel c } else x) { x with mq := rest }

theorem Tile.completed_kept (x : Tile) (e : MEnt) (rest : List MEnt) (c : Nat) : (x.completed e rest c).mq = rest ∧ (x.completed e rest c).ctx = x.ctx := by
  have hkept : ∀ (x : Tile) (j : Nat), (fun x : Tile => (x.mq, x.ctx)) (if (x.slice j).releasing ∧ e.mn ≠ .MPART then
      x.setSlice j { x.slice j with rel := max (x.slice j).rel c } else x) = (fun x : Tile => (x.mq, x.ctx)) x := by
    intro x j
    split <;> rfl
  have hboth := foldl_kept (view := fun x : Tile => (x.mq, x.ctx)) hkept { x with mq := rest } (slicesOf e.f.slm)
  exact ⟨congrArg Prod.fst hboth, congrArg Prod.snd hboth⟩

section
variable {s : State} {t : Nat} {eng : Engine} {e : MEnt} {rest : List MEnt} {r : MRun} {c : Nat}
  (hfirst : takeFirst (fun e => decide (e.mn.engine = eng) && e.run.isSome) (s.tile t).mq = some (e, rest)) (hrun : e.run = some r) (hlat : e.latPoint = some c)
include hfirst hlat

theorem State.matrixComplete_early (hc : (s.tile t).clk < c) : s.matrixComplete t eng = s := by
  simp only [State.matrixComplete, hfirst, hlat, if_pos hc]

include hrun

theorem State.matrixComplete_due (hc : c ≤ (s.tile t).clk) :
    s.matrixComplete t eng =
      if r.msat then (s.updTile t (·.completed e rest c)).updCtx t e.ctx (fun c => { c with fflags := Nat.lor c.fflags 32, newFl := Nat.lor c.newFl 32 })
      else s.updTile t (·.completed e rest c) := by
  simp only [State.matrixComplete, hfirst, hlat, if_neg (Nat.not_lt.2 hc), hrun]
  rfl

end

end Sys2Proof.Machine

open Sys2Proof Sys2Proof.Machine

/-- Settles O25: the two commands by what `State.matrixStart` and `State.matrixComplete` do in each case. -/
theorem matrixQueueEvents : Obligations.MatrixQueueEvents := by
  intro t eng s hclk
  have hstartCmd : exec (.matrixStart t eng) s = .next (s.matrixStart t.val eng) := liveIn_clocked hclk (fun s => s.matrixStart t.val eng)
  have hcompleteCmd : exec (.matrixComplete t eng) s = .next (s.matrixComplete t.val eng) := liveIn_clocked hclk (fun s => s.matrixComplete t.val eng)
  rw [hstartCmd, hcompleteCmd]
  refine ⟨fun h => by rw [State.matrixStart_waits h], fun pre e post hstart => ⟨fun code hfault hInv hk hlive => ?_, fun hfault _ => ?_⟩,
    fun e rest r c hfirst hrun hlat => ⟨fun hc => by rw [State.matrixComplete_early hfirst hlat hc], fun hc => ?_⟩⟩
  · obtain ⟨-, hregs, -⟩ := hInv
    have hctx : (s.updTile t.val (fun x => { x with mq := pre ++ post.filter (fun p => p.ctx ≠ e.ctx ∨ p.run.isSome) })).ctxOf t.val e.ctx =
        s.ctxOf t.val e.ctx := by
      rw [State.ctxOf, State.tile_updTile_same]
      rfl
    rw [← hctx] at hlive
    obtain ⟨hrec, hfpc⟩ := State.fault_contextFault hlive code e.pc hregs hk
    refine ⟨_, congrArg Host.Outcome.next (State.matrixStart_faults hstart hfault), ?_, ?_, hrec, hfpc⟩
    · rw [State.mq_contextFault hlive, State.tile_updTile_same]
    · rw [State.ctxOf_contextFault hlive]
  · obtain ⟨hmem, -, -⟩ := Tile.startable_some hstart
    obtain ⟨v, r, hv, ⟨honly, htick⟩, hr, hclr⟩ := State.matrixStart_starts hstart hfault
    obtain ⟨hbegun, hctx, hfind⟩ := s.begun_kept t.val e hmem
    obtain ⟨hu, hothers⟩ := (hbegun.trans honly).trans (State.onlyTile_updTile v t.val
      (fun x => { x with mq := updFirst (fun p => p.id == e.id) (fun p => { p with run := some r }) x.mq }))
    have hslice : ∀ j, (v.tile t.val).slice j = ((s.startEffect t.val e).tile t.val).slice j := by
      intro j
      rw [Tile.slice, htick.slices, State.begun, State.tile_updTile_same]
      rfl
    refine ⟨_, r, congrArg Host.Outcome.next hv, ?_, hr, by rw [hu], by rw [hu], ?_, hothers, fun hmn hacc j hj hslm => ?_, fun hmn hacc j hj hslm howner => ?_,
      fun hmn j hj hslm => ?_, fun hmn j hj hslm => ?_⟩
    all_goals rw [State.tile_updTile_same]
    · rw [← htick.mq] at hfind
      exact find?_updFirst (f := fun p => { p with run := some r }) hfind (beq_self_eq_true e.id)
    · exact htick.ctx.trans hctx
    · change ((v.tile t.val).slice j).owner = _ ∧ ((v.tile t.val).slice j).mode = _ ∧ ((v.tile t.val).slice j).releasing = _
      rw [hslice, State.startEffect, hmn]
      dsimp only
      rw [State.tile_updTile_same]
      exact Tile.slice_startMpart_takes hacc (mem_slicesOf hj hslm) ..
    · change ((v.tile t.val).slice j).releasing = _
      rw [hslice, State.startEffect, hmn]
      dsimp only
      rw [State.tile_updTile_same]
      exact Tile.slice_startMpart_releases hacc (mem_slicesOf hj hslm) howner
    · change ((v.tile t.val).bank j e.f.bank.toNat).ent = _
      rw [hclr hmn, State.begun, State.tile_updTile_same]
      change (((s.startEffect t.val e).tile t.val).bank j e.f.bank.toNat).ent = _
      rw [State.startEffect, hmn]
      dsimp only
      rw [State.tile_updTile_same]
      exact Tile.bank_startMclr (mem_slicesOf hj hslm) _
    · change ((v.tile t.val).statSet j e.f.set).fmt = _
      rw [Tile.statSet, htick.fmt, State.begun, State.tile_updTile_same]
      change (((s.startEffect t.val e).tile t.val).statSet j e.f.set).fmt = _
      rw [State.startEffect, hmn]
      exact State.fmt_startMldi (mem_slicesOf hj hslm) ..
  · obtain ⟨hmq, hctx⟩ := (s.tile t.val).completed_kept e rest c
    have hsame : ∀ k, (s.updTile t.val (·.completed e rest c)).ctxOf t.val k = s.ctxOf t.val k := by
      intro k
      rw [State.ctxOf, State.tile_updTile_same, Tile.context, hctx]
      rfl
    refine ⟨_, congrArg Host.Outcome.next (State.matrixComplete_due hfirst hrun hlat hc), ?_⟩
    cases hsat : r.msat
    · rw [if_neg (by decide)]
      refine ⟨State.onlyTile_updTile .., ?_, fun k _ => hsame k, fun h => absurd h Bool.false_ne_true, fun _ => hsame _⟩
      rw [State.tile_updTile_same, hmq]
    · rw [if_pos rfl]
      refine ⟨(State.onlyTile_updTile ..).trans (State.onlyTile_updCtx ..), ?_, fun k hk => ?_, fun _ => ?_, fun h => absurd h.symm Bool.false_ne_true⟩
      · rw [State.tile_updCtx, State.tile_updTile_same, Tile.setCtx, hmq]
      · rw [State.ctxOf_updCtx_ne (Or.inr hk), hsame]
      · rw [State.ctxOf_updCtx_same, hsame]
end

section
/-! SUPPORT. The statement of the tile clock and of the contexts that become READY (R86, R106, R134). -/

namespace Sys2Proof.Machine
open Sys2Proof

/-! ### The clock begins -/

/-- The context at the start of a clock: none of its flags is new. -/
def Ctx.flagsSeen (c : Ctx) : Ctx := { c with newFl := 0 }

/-- The tile at the start of a clock: last clock's samples are in, and no flag is new. -/
def Tile.clockBegun (x : Tile) : Tile :=
  { x.flushSamples with clk := x.clk + 1, rdBanks := [], wrBanks := [], ctx := ⟨x.ctx.entries.map (fun e => (e.1, e.2.flagsSeen))⟩ }

theorem Tile.context_clockBegun (x : Tile) (j : Nat) : x.clockBegun.context j = (x.context j).flagsSeen := by
  have hmap := lookupKey_map (fun _ => Ctx.flagsSeen) x.ctx.entries j
  simp only [Tile.context, Tile.clockBegun, Tab.get, Tab.find, hmap]
  cases lookupKey x.ctx.entries j <;> rfl

theorem State.tileClock_off {s : State} {t : Nat} (h : s.flag .TILE_CTRL (tix t) 0 = false) : s.tileClock t = s := by
  simp only [State.tileClock, h]
  rfl

theorem State.tileClock_starting {s : State} {t : Nat} (hen : s.flag .TILE_CTRL (tix t) 0 = true) (hready : (s.tile t).ready = false) :
    s.tileClock t = s.updTile t (fun x => { x with clk := x.clk + 1 }) := by
  simp only [State.tileClock, hen, hready]
  rfl

theorem State.tileClock_ready {s : State} {t : Nat} (hen : s.flag .TILE_CTRL (tix t) 0 = true) (hready : (s.tile t).ready = true) :
    s.tileClock t = ((foldState (fun s k => s.commitCtx t k) ((s.updTile t Tile.clockBegun).tickEngines t) (upTo 4)).landFills t).issuePhase t := by
  simp only [State.tileClock, hen, hready]
  rfl

theorem State.tickEngines_idle {s : State} {t : Nat} (h : (s.tile t).mq = []) : s.tickEngines t = s := by
  simp only [State.tickEngines, h, List.foldl_nil]

theorem State.landFills_idle {s : State} {t : Nat} (h : (s.tile t).reqs = []) : s.landFills t = s := by
  simp only [State.landFills, h, List.foldl_nil]

/-! ### Results that land (R106) -/

/-- At most one result is on its way, and it is a scalar one. -/
def Ctx.oneScalar (c : Ctx) : Prop := c.pend = [] ∨ ∃ i v due, c.pend = [⟨due, none, .s i v⟩]

/-- What the landing of results in clock `clk` makes of such a context. -/
def Ctx.landed (clk : Nat) (c : Ctx) : Ctx :=
  match c.pend with
  | [⟨due, _, .s i v⟩] => if due ≤ clk then { c with pend := [] }.wrS i v else c
  | _ => c

theorem Ctx.pend_wrS (c : Ctx) (i : Nat) (v : DWord) : (c.wrS i v).pend = c.pend := by
  unfold Ctx.wrS
  split <;> rfl

theorem Ctx.landed_due {clk due i : Nat} {v : DWord} {c : Ctx} (hp : c.pend = [⟨due, none, .s i v⟩]) (h : due ≤ clk) :
    c.landed clk = { c with pend := [] }.wrS i v := by
  simp only [Ctx.landed, hp, if_pos h]

theorem Ctx.landed_early {clk due i : Nat} {v : DWord} {c : Ctx} (hp : c.pend = [⟨due, none, .s i v⟩]) (h : clk < due) : c.landed clk = c := by
  simp only [Ctx.landed, hp, if_neg (Nat.not_le.2 h)]

theorem Ctx.oneScalar_landed {c : Ctx} (h : c.oneScalar) (clk : Nat) : (c.landed clk).oneScalar := by
  rcases h with hnone | ⟨i, v, due, hp⟩
  · exact .inl (by simp only [Ctx.landed, hnone])
  · by_cases hdue : due ≤ clk
    · exact .inl (by rw [Ctx.landed_due hp hdue, Ctx.pend_wrS])
    · rw [Ctx.landed_early hp (Nat.not_le.1 hdue)]
      exact .inr ⟨i, v, due, hp⟩

/-- What the landing of context `k`'s results leaves. -/
structure CtxCommitted (s u : State) (t k : Nat) : Prop where
  only : OnlyTile s u t
  tile : u.tile t = { s.tile t with ctx := (u.tile t).ctx }
  ctxs : ∀ j, j ≠ k → u.ctxOf t j = s.ctxOf t j
  ctx : u.ctxOf t k = (s.ctxOf t k).landed (s.tile t).clk

theorem State.ctxCommitted_updCtx {s : State} {t k : Nat} {f : Ctx → Ctx} (h : f (s.ctxOf t k) = (s.ctxOf t k).landed (s.tile t).clk) :
    CtxCommitted s (s.updCtx t k f) t k where
  only := s.onlyTile_updCtx t k f
  tile := by rw [State.tile_updCtx, Tile.setCtx]
  ctxs := fun _ hj => State.ctxOf_updCtx_ne (Or.inr hj) s f
  ctx := by rw [State.ctxOf_updCtx_same, h]

theorem State.ctxCommitted_commitCtx {s : State} {t k : Nat} (h : (s.ctxOf t k).oneScalar) : CtxCommitted s (s.commitCtx t k) t k := by
  rcases h with hnone | ⟨i, v, due, hp⟩
  · have hcommit : s.commitCtx t k = s.updCtx t k (fun c => { c with pend := [] }) := by
      simp only [State.commitCtx, hnone, List.filter_nil, List.map_nil, List.foldl_nil]
    rw [hcommit]
    refine State.ctxCommitted_updCtx ?_
    simp only [Ctx.landed, hnone]
    rw [← hnone]
  · by_cases hdue : due ≤ (s.tile t).clk
    · have hcommit : s.commitCtx t k = (s.updCtx t k (fun c => { c with pend := [] })).updCtx t k (fun c => c.wrS i v) := by
        simp [State.commitCtx, hp, hdue, State.commitDst]
      have hfirst := s.onlyTile_updCtx t k (fun c => { c with pend := [] })
      rw [hcommit]
      refine ⟨hfirst.trans (State.onlyTile_updCtx ..), ?_, fun j hj => ?_, ?_⟩
      · rw [State.tile_updCtx, State.tile_updCtx, Tile.setCtx, Tile.setCtx]
      · rw [State.ctxOf_updCtx_ne (Or.inr hj), State.ctxOf_updCtx_ne (Or.inr hj)]
      · rw [State.ctxOf_updCtx_same, State.ctxOf_updCtx_same, Ctx.landed_due hp hdue]
    · have hcommit : s.commitCtx t k = s.updCtx t k (fun c => { c with pend := [⟨due, none, .s i v⟩] }) := by
        simp [State.commitCtx, hp, hdue, Nat.not_le.1 hdue]
      rw [hcommit]
      refine State.ctxCommitted_updCtx ?_
      rw [Ctx.landed_early hp (Nat.not_le.1 hdue), ← hp]

/-- What the landing of a tile's results leaves. -/
theorem State.commitAll_spec {s : State} {t : Nat} (h : ∀ j, (s.ctxOf t j).oneScalar) :
    (OnlyTile s (foldState (fun s k => s.commitCtx t k) s (upTo 4)) t ∧
      ((foldState (fun s k => s.commitCtx t k) s (upTo 4)).tile t).clk = (s.tile t).clk ∧
      ((foldState (fun s k => s.commitCtx t k) s (upTo 4)).tile t).reqs = (s.tile t).reqs ∧
      ∀ j, ((foldState (fun s k => s.commitCtx t k) s (upTo 4)).ctxOf t j).oneScalar) ∧
    ∀ j, j < 4 → (foldState (fun s k => s.commitCtx t k) s (upTo 4)).ctxOf t j = (s.ctxOf t j).landed (s.tile t).clk :=
  foldState_upTo
    (ok := fun u => OnlyTile s u t ∧ (u.tile t).clk = (s.tile t).clk ∧ (u.tile t).reqs = (s.tile t).reqs ∧ ∀ j, (u.ctxOf t j).oneScalar)
    (view := fun j u => u.ctxOf t j) (R := fun _ c c' => c' = c.landed (s.tile t).clk)
    (fun u k _ ⟨honly, hclk, hreqs, hscalar⟩ => by
      have hstep := State.ctxCommitted_commitCtx (hscalar k)
      refine ⟨honly.trans hstep.only, by rw [hstep.tile, hclk], by rw [hstep.tile, hreqs], fun j => ?_⟩
      by_cases hj : j = k
      · rw [hj, hstep.ctx]
        exact Ctx.oneScalar_landed (hscalar k) _
      · rw [hstep.ctxs j hj]
        exact hscalar j)
    (fun u k _ ⟨_, hclk, _, hscalar⟩ => by rw [(State.ctxCommitted_commitCtx (hscalar k)).ctx, hclk])
    (fun u k j _ _ hj ⟨_, _, _, hscalar⟩ => (State.ctxCommitted_commitCtx (hscalar k)).ctxs j hj)
    ⟨⟨rfl, fun _ _ => rfl⟩, rfl, rfl, h⟩

/-! ### A clock under DBG_HOLD only counts (R88, R89) -/

theorem State.stall_mem_tiles (s : State) (t c : Nat) : (s.stall t c).mem = s.mem ∧ (s.stall t c).tiles = s.tiles := by
  rw [State.stall, State.setReg64_mem, State.setReg64_tiles]
  exact ⟨rfl, rfl⟩

theorem State.issuePhase_held {s : State} {t : Nat} (h : s.dbgHold t = true) : (s.issuePhase t).mem = s.mem ∧ (s.issuePhase t).tiles = s.tiles := by
  rw [State.issuePhase, if_pos h]
  split
  · split
    · exact s.stall_mem_tiles t 7
    · exact ⟨rfl, rfl⟩
  · rw [State.countIdle]
    split
    · exact s.stall_mem_tiles t _
    · exact ⟨rfl, rfl⟩

theorem OnlyTile.dbgHold {s u : State} {t : Nat} (h : OnlyTile s u t) (x : Nat) : u.dbgHold x = s.dbgHold x := by
  obtain ⟨hu, -⟩ := h
  rw [hu]
  rfl

/-- A clock of a READY tile that DBG_HOLD holds and whose queues are empty lands results and counts. -/
theorem State.tileClock_held {s : State} {t : Nat} (hen : s.flag .TILE_CTRL (tix t) 0 = true) (hready : (s.tile t).ready = true) (hhold : s.dbgHold t = true)
    (hmq : (s.tile t).mq = []) (hreqs : (s.tile t).reqs = []) (hscalar : ∀ j, (s.ctxOf t j).oneScalar) :
    (s.tileClock t).mem = s.mem ∧ ((s.tileClock t).tile t).clk = (s.tile t).clk + 1 ∧
      ∀ j, j < 4 → (s.tileClock t).ctxOf t j = (s.ctxOf t j).flagsSeen.landed ((s.tile t).clk + 1) := by
  have hctx : ∀ j, (s.updTile t Tile.clockBegun).ctxOf t j = (s.ctxOf t j).flagsSeen := by
    intro j
    rw [State.ctxOf, State.tile_updTile_same, Tile.context_clockBegun]
    rfl
  have hbegun := s.onlyTile_updTile t Tile.clockBegun
  have hidle : (s.updTile t Tile.clockBegun).tickEngines t = s.updTile t Tile.clockBegun := by
    refine State.tickEngines_idle ?_
    rw [State.tile_updTile_same]
    exact hmq
  obtain ⟨⟨honly, hclk, hreqs', -⟩, hland⟩ := State.commitAll_spec (s := s.updTile t Tile.clockBegun) (t := t) (fun j => by rw [hctx]; exact hscalar j)
  rw [State.tileClock_ready hen hready, hidle]
  generalize foldState (fun s k => s.commitCtx t k) (s.updTile t Tile.clockBegun) (upTo 4) = w at honly hclk hreqs' hland ⊢
  rw [State.tile_updTile_same] at hclk hreqs' hland
  rw [State.landFills_idle (hreqs'.trans hreqs)]
  have hall := hbegun.trans honly
  obtain ⟨hmem, htiles⟩ := State.issuePhase_held ((hall.dbgHold t).trans hhold)
  obtain ⟨hw, -⟩ := hall
  refine ⟨?_, ?_, fun j hj => ?_⟩
  · rw [hmem, hw]
  · rw [State.tile, htiles]
    exact hclk
  · rw [State.ctxOf_congr htiles, hland j hj, hctx]
    rfl

theorem Ctx.rdS_wrS_same {c : Ctx} (h : c.s.wf = true) (i : Nat) (v : DWord) : (c.wrS i v).rdS i = if i = 0 then 0 else v := by
  unfold Ctx.wrS Ctx.rdS
  split
  · rfl
  · exact Tab.get_set_same h 0 i v

/-! ### Contexts that become READY (R86, R134) -/

theorem State.contextReady_free {s : State} {t k : Nat} {ws : List RWord} (hst : (s.ctxOf t k).st = .wait) (hheld : (s.ctxOf t k).held = some ws)
    (hfree : s.holdOf t k ws = none) : s.contextReady t k = s.updCtx t k (fun c => { c with st := .ready }) := by
  simp only [State.contextReady, hst, hheld, hfree]

theorem State.contextReady_parked {s : State} {t k : Nat} (hst : (s.ctxOf t k).st = .park) :
    s.contextReady t k = if (s.ctxOf t k).woken ∨ (s.ctxOf t k).bar = .woken then s.updCtx t k (fun c => { c with st := .ready }) else s := by
  simp only [State.contextReady, hst]

theorem State.contextReady_other {s : State} {t k : Nat} (hwait : (s.ctxOf t k).st ≠ .wait) (hpark : (s.ctxOf t k).st ≠ .park) : s.contextReady t k = s := by
  unfold State.contextReady
  dsimp only
  split
  · exact absurd ‹_› hwait
  · exact absurd ‹_› hpark
  · rfl

end Sys2Proof.Machine

open Sys2Proof Sys2Proof.Machine

/-- Settles O15: the clock by `State.tileClock_held` and its two shorter forms, CONTEXT_READY by what holds the context. -/
theorem tileClockAndContextReady : Obligations.TileClockAndContextReady := by
  intro t k s hclk
  have hclock : exec (.tileClock t) s = .next (s.tileClock t.val) := liveIn_clocked hclk (fun s => s.tileClock t.val)
  have hctxReady : exec (.contextReady t k) s = .next (s.contextReady t.val k.val) := liveIn_clocked hclk (fun s => s.contextReady t.val k.val)
  rw [hclock, hctxReady]
  refine ⟨fun hoff => by rw [State.tileClock_off hoff], fun hen hready => ?_, fun hen hready hhold hmq hreqs i v due hothers hpend hwf => ?_,
    fun hst ⟨ws, hheld, hfree⟩ => ?_, fun hst => ⟨fun hwoken => ?_, fun hwoken hbar => ?_⟩,
    fun hwait hpark => by rw [State.contextReady_other hwait hpark]⟩
  · exact ⟨_, congrArg Host.Outcome.next (State.tileClock_starting hen hready), State.onlyTile_updTile .., State.tile_updTile_same ..⟩
  · have hscalar : ∀ j, (s.ctxOf t.val j).oneScalar := by
      intro j
      by_cases hj : j = k.val
      · exact .inr ⟨i, v, due, by rw [hj, hpend]⟩
      · exact .inl (hothers j hj)
    obtain ⟨hmem, hcount, hland⟩ := State.tileClock_held hen hready hhold hmq hreqs hscalar
    have hpend' : (s.ctxOf t.val k.val).flagsSeen.pend = [⟨due, none, .s i v⟩] := hpend
    refine ⟨_, rfl, hcount, hmem, fun hdue => ?_, fun hearly => ?_⟩
    · rw [hland k.val k.isLt, Ctx.landed_due hpend' hdue, Ctx.pend_wrS]
      exact ⟨rfl, Ctx.rdS_wrS_same (c := { (s.ctxOf t.val k.val).flagsSeen with pend := [] }) hwf i v⟩
    · rw [hland k.val k.isLt, Ctx.landed_early hpend' hearly]
      exact ⟨hpend, rfl⟩
  · exact ⟨_, congrArg Host.Outcome.next (State.contextReady_free hst hheld hfree), State.onlyTile_updCtx .., State.ctxOf_updCtx_same ..,
      fun j hj => State.ctxOf_updCtx_ne (Or.inr hj) ..⟩
  · rw [State.contextReady_parked hst, if_pos hwoken]
    exact ⟨_, rfl, State.onlyTile_updCtx .., State.ctxOf_updCtx_same ..⟩
  · rw [State.contextReady_parked hst, if_neg (by simp [hwoken, hbar])]
end

section
/-! SUPPORT. The statement of the Ralok words: the encoder and the decoder read the same fields at the same places (R100, R101, R104). -/

namespace Sys2Proof.Machine
open Sys2Proof

/-! ### Fields side by side -/

/-- A field of a word: its width, and a value that fits in it. -/
structure BitField where
  width : Nat
  val : Nat
  fits : val < 2 ^ width

/-- A numeric field. -/
@[simp] def BitField.vec {w : Nat} (v : BitVec w) : BitField := ⟨w, v.toNat, v.isLt⟩

/-- A field of one bit. -/
@[simp] def BitField.flag (b : Bool) : BitField := ⟨1, b2n b, by cases b <;> decide⟩

/-- Bits that a format lists as 0 (R101). -/
@[simp] def BitField.zeros (w : Nat) : BitField := ⟨w, 0, Nat.two_pow_pos w⟩

def totalWidth (fs : List BitField) : Nat := (fs.map BitField.width).sum

/-- The number that holds the fields side by side, the first one highest. -/
def pack : List BitField → Nat
  | [] => 0
  | f :: fs => f.val * 2 ^ totalWidth fs + pack fs

/-- `x` holds each field at its place, the last one in its low bits. -/
@[simp] def Holds (x : Nat) : List BitField → Prop
  | [] => True
  | f :: fs => x / 2 ^ totalWidth fs % 2 ^ f.width = f.val ∧ Holds x fs

@[simp] theorem totalWidth_nil : totalWidth [] = 0 := rfl

@[simp] theorem totalWidth_cons (f : BitField) (fs : List BitField) : totalWidth (f :: fs) = totalWidth fs + f.width := by
  rw [totalWidth, List.map_cons, List.sum_cons, Nat.add_comm, totalWidth]

theorem pack_lt (fs : List BitField) : pack fs < 2 ^ totalWidth fs := by
  induction fs with
  | nil => exact Nat.one_pos
  | cons f fs ih =>
    rw [pack, totalWidth_cons, Nat.pow_add', Nat.mul_comm f.val]
    exact Nat.mul_add_lt_mul_of_lt_of_lt f.fits ih

/-- A number is the fields side by side exactly when each field can be read at its place. -/
theorem pack_eq_iff_holds (x : Nat) (fs : List BitField) : pack fs = x % 2 ^ totalWidth fs ↔ Holds x fs := by
  induction fs with
  | nil => simp [pack, Holds, totalWidth, Nat.mod_one]
  | cons f fs ih =>
    have hunique := Nat.div_mod_unique (a := x % 2 ^ (totalWidth fs + f.width)) (d := f.val) (c := pack fs) (Nat.two_pow_pos (totalWidth fs))
    rw [and_iff_left (pack_lt fs), Nat.pow_add, Nat.mod_mul_right_div_self, Nat.mod_mul_right_mod, ← Nat.pow_add, eq_comm (b := pack fs), ih] at hunique
    rw [pack, totalWidth_cons, Nat.add_comm, Nat.mul_comm, ← hunique, Holds]

/-! ### The operand areas (R101) -/

/-- The format of an operand area. -/
@[simp] def Opnd.layout : Opnd → Layout
  | .sa _ => .SA | .sm _ => .SM | .sb _ => .SB | .sc _ => .SC | .sn => .SN
  | .ts _ => .TS | .tx _ => .TX | .tr _ => .TR | .tb _ => .TB | .vr _ => .VR | .mx _ => .MX

/-- The fields of an operand area, bit 49 first. -/
@[simp] def Opnd.fields : Opnd → List BitField
  | .sa ⟨rd, rs1, fn, .imm v⟩ => [.vec rd, .vec rs1, .vec fn, .vec v]
  | .sa ⟨rd, rs1, fn, .reg rs2⟩ => [.vec rd, .vec rs1, .vec fn, .vec rs2, .zeros 27]
  | .sm ⟨rd, ab, fn, imm⟩ => [.vec rd, .vec ab, .zeros 1, .vec fn, .vec imm]
  | .sb ⟨rs1, rs2, fn, off⟩ => [.vec rs1, .vec rs2, .vec fn, .vec off]
  | .sc ⟨rd, rs1, csr⟩ => [.vec rd, .vec rs1, .vec csr, .zeros 28]
  | .sn => [.zeros 50]
  | .ts ⟨d, ar, rs1, rs2, imm⟩ => [.vec d, .vec ar, .vec rs1, .vec rs2, .vec imm]
  | .tx ⟨as_, ad, rt, nrow, cnt⟩ => [.vec as_, .vec ad, .vec rt, .vec nrow, .vec cnt, .zeros 16]
  | .tr ⟨_, cnt, rc, xc, rv, uimm⟩ => [.vec cnt, .vec rc, .flag xc, .vec rv, .vec uimm]
  | .tb ⟨kind, ch0, nch, en, clr⟩ => [.vec kind, .vec ch0, .vec nch, .flag en, .flag clr, .zeros 19]
  | .vr ⟨vd, dm, vs1, m1, vs2, m2, vs3, ty, pd, inc, xf, fn⟩ =>
    [.vec vd, .flag dm, .vec vs1, .flag m1, .vec vs2, .flag m2, .vec vs3, .vec ty, .vec pd, .flag inc, .vec xf, .vec fn]
  | .mx ⟨slm, bank, set, ar, fmt, m0, mcnt, sfb, ofmt, mode, acc, inc, st⟩ =>
    [.vec slm, .vec bank, .flag set, .vec ar, .vec fmt, .vec m0, .vec mcnt, .vec sfb, .vec ofmt, .vec mode, .flag acc, .flag inc, .flag st, .zeros 3]

/-- Without header bit I a TR word has no immediate (R101). -/
@[simp] def Opnd.immFits : Opnd → Prop
  | .tr f => f.i = true ∨ f.uimm.toNat = 0
  | _ => True

theorem Opnd.totalWidth_fields (o : Opnd) : totalWidth o.fields = 50 := by
  cases o with
  | sa f => obtain ⟨rd, rs1, fn, src2⟩ := f; cases src2 <;> rfl
  | _ => rfl

theorem Opnd.area_eq_pack (o : Opnd) : o.area = pack o.fields := by
  cases o with
  | sa f =>
    obtain ⟨rd, rs1, fn, src2⟩ := f
    cases src2 <;> simp [Opnd.area, pack, Nat.add_assoc]
  | _ => simp [Opnd.area, pack, Nat.add_assoc]

theorem Opnd.area_eq_iff_holds {x : Nat} (hx : x < 2 ^ 50) (o : Opnd) : o.area = x ↔ Holds x o.fields := by
  have h := pack_eq_iff_holds x o.fields
  rwa [o.totalWidth_fields, Nat.mod_eq_of_lt hx, ← o.area_eq_pack] at h

/-! ### The decoder's fields -/

theorem fv_eq_iff {w x hi lo : Nat} (h : hi + 1 - lo = w) (v : BitVec w) : fv w x hi lo = v ↔ x / 2 ^ lo % 2 ^ w = v.toNat := by
  rw [← BitVec.toNat_inj, fv, BitVec.toNat_ofNat, bits, h, Nat.mod_mod]

theorem bit_eq_iff (x i : Nat) (b : Bool) : bit x i = b ↔ x / 2 ^ i % 2 = b2n b := by
  cases b <;> simp [bit, b2n]

theorem layout_of_decodeArea {l : Layout} {i : Bool} {x : Nat} {o : Opnd} (h : decodeArea l i x = some o) : o.layout = l := by
  cases l <;> simp only [decodeArea] at h <;> split_ifs at h
  all_goals
    cases h
    rfl

/-- For each format: what the decoder reads at each place is what the encoder puts there. The decoder asks for the zero bits first, so that the two sides list
the same fields in another order. -/
theorem decodeArea_eq_some_iff {x : Nat} (hx : x < 2 ^ 50) (i : Bool) (o : Opnd) :
    decodeArea o.layout i x = some o ↔ o.bitI = i ∧ o.immFits ∧ o.area = x := by
  rw [Opnd.area_eq_iff_holds hx]
  cases o with
  | sn =>
    have hall : x % 1125899906842624 = x := Nat.mod_eq_of_lt hx
    simp [decodeArea, Opnd.bitI, hall]
  | sb f | ts f | vr f =>
    cases f
    simp [decodeArea, Opnd.bitI, fv_eq_iff, bit_eq_iff]
  | sm f | sc f | tx f | tb f | mx f =>
    cases f
    simp [decodeArea, Opnd.bitI, bits, fv_eq_iff, bit_eq_iff]
    tauto
  | sa f =>
    obtain ⟨rd, rs1, fn, src2⟩ := f
    cases src2 with
    | imm v => cases i <;> simp [decodeArea, Opnd.bitI, fv_eq_iff]
    | reg rs2 =>
      cases i
      · simp [decodeArea, Opnd.bitI, bits, fv_eq_iff]
        tauto
      · simp [decodeArea, Opnd.bitI]
  | tr f =>
    cases f
    cases i
    · simp [decodeArea, Opnd.bitI, bits, fv_eq_iff, bit_eq_iff]
      grind
    · simp [decodeArea, Opnd.bitI, fv_eq_iff, bit_eq_iff]
      tauto

/-! ### The word (R100, R104) -/

theorem Mn.slot_lt (mn : Mn) : mn.slot < 2 ^ 2 := by cases mn <;> decide

theorem Mn.op_lt (mn : Mn) : mn.op < 2 ^ 6 := by cases mn <;> decide

theorem Opnd.area_lt (o : Opnd) : o.area < 2 ^ 50 := by
  rw [o.area_eq_pack, ← o.totalWidth_fields]
  exact pack_lt o.fields

/-- The opcode map names each mnemonic once, at its slot and opcode. -/
theorem mnOf_eq_some_iff {slot op : Nat} (hslot : slot < 4) (hop : op < 64) (mn : Mn) : mnOf slot op = some mn ↔ mn.slot = slot ∧ mn.op = op := by
  constructor
  · have hmap : ∀ slot < 4, ∀ op < 64, ∀ mn ∈ mnOf slot op, mn.slot = slot ∧ mn.op = op := by decide
    exact hmap slot hslot op hop mn
  · rintro ⟨rfl, rfl⟩
    cases mn <;> rfl

/-- The fields of an instruction word, E first. -/
def RWord.fields (e : Bool) (w : RWord) : List BitField :=
  [.flag e, ⟨2, w.mn.slot, w.mn.slot_lt⟩, ⟨6, w.mn.op, w.mn.op_lt⟩, .flag w.f.bitI, .vec w.g.pg, .flag w.g.pn, ⟨50, w.f.area, w.f.area_lt⟩]

theorem encodeWord_eq_pack (e : Bool) (w : RWord) : encodeWord e w = pack (w.fields e) := by
  simp [encodeWord, RWord.fields, pack, Nat.add_assoc]

theorem encodeWord_lt (e : Bool) (w : RWord) : encodeWord e w < 2 ^ 64 := by
  rw [encodeWord_eq_pack]
  exact pack_lt (w.fields e)

/-- What the encoder puts at each place of the header. -/
theorem encodeWord_eq_iff {n : Nat} (hn : n < 2 ^ 64) (e : Bool) (w : RWord) :
    encodeWord e w = n ↔ bit n 63 = e ∧ w.mn.slot = bits n 62 61 ∧ w.mn.op = bits n 60 55 ∧ w.f.bitI = bit n 54 ∧
      fv 3 n 53 51 = w.g.pg ∧ bit n 50 = w.g.pn ∧ w.f.area = bits n 49 0 := by
  have h := pack_eq_iff_holds n (w.fields e)
  rw [show totalWidth (w.fields e) = 64 from rfl, Nat.mod_eq_of_lt hn, ← encodeWord_eq_pack] at h
  rw [h, eq_comm (a := w.mn.slot), eq_comm (a := w.mn.op), eq_comm (a := w.f.bitI), eq_comm (a := w.f.area)]
  simp [RWord.fields, bits, fv_eq_iff, bit_eq_iff]

/-- A word decodes to an instruction exactly when its operands have the mnemonic's format and it is their encoding. -/
theorem decodeWord_eq_iff {n : Nat} (hn : n < 2 ^ 64) (e : Bool) (w : RWord) :
    decodeWord n = (e, some w) ↔ w.f.layout = w.mn.layout ∧ w.f.immFits ∧ encodeWord e w = n := by
  have harea : bits n 49 0 < 2 ^ 50 := bits_lt n 49 0
  have hmap := mnOf_eq_some_iff (bits_lt n 62 61) (bits_lt n 60 55)
  obtain ⟨mn, ⟨pg, pn⟩, f⟩ := w
  rw [encodeWord_eq_iff hn]
  dsimp only
  constructor
  · intro h
    rw [decodeWord] at h
    obtain ⟨he, hw⟩ := Prod.mk.inj h
    split at hw
    · cases hw
    · next m hm =>
      obtain ⟨o, ho, heq⟩ := Option.map_eq_some_iff.1 hw
      cases heq
      have hlayout := layout_of_decodeArea ho
      rw [← hlayout] at ho
      obtain ⟨hi, himm, hfields⟩ := (decodeArea_eq_some_iff harea _ _).1 ho
      obtain ⟨hslot, hop⟩ := (hmap _).1 hm
      exact ⟨hlayout, himm, he, hslot, hop, hi, rfl, rfl, hfields⟩
  · rintro ⟨hlayout, himm, he, hslot, hop, hi, hpg, hpn, hfields⟩
    have ho := (decodeArea_eq_some_iff harea _ f).2 ⟨hi, himm, hfields⟩
    rw [hlayout] at ho
    rw [decodeWord, (hmap mn).2 ⟨hslot, hop⟩]
    dsimp only
    rw [ho, he, hpg, hpn]
    rfl

/-- A legal word has its mnemonic's format. -/
theorem RWord.layout_of_legal {w : RWord} (h : w.legal = true) : w.f.layout = w.mn.layout ∧ w.f.immFits := by
  obtain ⟨mn, g, f⟩ := w
  cases f with
  | tr f =>
    simp only [RWord.legal, trLegal, Bool.and_eq_true, beq_iff_eq, Bool.or_eq_true] at h
    obtain ⟨hlayout, ⟨-, himm⟩, -⟩ := h
    exact ⟨hlayout.symm, himm.imp_right (fun h => by rw [h]; rfl)⟩
  | sn => exact ⟨(beq_iff_eq.1 h).symm, trivial⟩
  | _ =>
    simp only [RWord.legal, Bool.and_eq_true, beq_iff_eq] at h
    obtain ⟨hlayout, -⟩ := h
    exact ⟨hlayout.symm, trivial⟩

end Sys2Proof.Machine

open Sys2Proof Sys2Proof.Machine

/-- Settles O57: `decodeWord_eq_iff` in both directions; a legal word keeps what the format asks. -/
theorem ralokDecodeEncode : Obligations.RalokDecodeEncode := by
  refine ⟨fun e w hlegal => ⟨encodeWord_lt e w, ?_⟩, fun n e w hn hdec => ?_⟩
  · obtain ⟨hlayout, himm⟩ := RWord.layout_of_legal hlegal
    exact (decodeWord_eq_iff (encodeWord_lt e w) e w).2 ⟨hlayout, himm, rfl⟩
  · obtain ⟨-, -, henc⟩ := (decodeWord_eq_iff hn e w).1 hdec
    exact henc
end

section
/-! SUPPORT. The statement of CSR accesses, FENCE, BAR and MSEST (R108, R109, R126, R133 to R135, R161, R437). -/

namespace Sys2Proof.Machine
open Sys2Proof

/-! ### An instruction whose results are on their way (R98, R106) -/

section
variable {s : State} {t k : Nat} {mn : Mn} {g : Guard} {o : Opnd} {ps : List PendWr} (hmn : mn.slot ≠ 2 ∧ mn ≠ .YIELD ∧ mn ≠ .HALT)
  (hg : (s.ctxOf t k).guardS g = true) (lock : Bool)
include hmn hg

/-- The instruction changes its context by `f`, which the results `ps` do not read. -/
theorem issueNow_updCtx {f : Ctx → Ctx} (he : effOf s t k s ⟨mn, g, o⟩ = s.updCtx t k (fun c => { f c with pend := (f c).pend ++ ps })) :
    IssuedOnly (s.updCtx t k f) (s.issueNow t k [⟨mn, g, o⟩] lock) t k ⟨mn, g, o⟩ ps := by
  obtain ⟨hslot, hyield, hhalt⟩ := hmn
  refine issueNow_enabled (Ctx.enables_of_guardS hslot hg) hyield hhalt he rfl (fun x hx => ?_) ?_ (fun j hj => ?_) ?_
  · rw [State.updCtx, State.setCtx, State.tile_updTile_ne hx, State.updCtx, State.setCtx, State.tile_updTile_ne hx]
  · simp [State.tile_updCtx, Tile.setCtx]
  · rw [State.ctxOf_updCtx_ne (.inr hj), State.ctxOf_updCtx_ne (.inr hj)]
  · rw [State.ctxOf_updCtx_same, State.ctxOf_updCtx_same]

/-- The instruction does nothing at its issue but to set its results on their way. -/
theorem issueNow_pending (he : effOf s t k s ⟨mn, g, o⟩ = s.updCtx t k (fun c => { c with pend := c.pend ++ ps })) :
    IssuedOnly s (s.issueNow t k [⟨mn, g, o⟩] lock) t k ⟨mn, g, o⟩ ps := by
  obtain ⟨hslot, hyield, hhalt⟩ := hmn
  refine issueNow_enabled (Ctx.enables_of_guardS hslot hg) hyield hhalt he rfl (fun x hx => State.tile_updTile_ne hx ..) ?_
    (fun j hj => State.ctxOf_updCtx_ne (.inr hj) ..) (State.ctxOf_updCtx_same ..)
  simp [State.tile_updCtx, Tile.setCtx]

/-- The instruction writes no register; `s1` is what its effect leaves. -/
theorem issueNow_unpending {s1 : State} (he : effOf s t k s ⟨mn, g, o⟩ = s1) : IssuedOnly s1 (s.issueNow t k [⟨mn, g, o⟩] lock) t k ⟨mn, g, o⟩ [] := by
  obtain ⟨hslot, hyield, hhalt⟩ := hmn
  exact issueNow_enabled (Ctx.enables_of_guardS hslot hg) hyield hhalt he rfl (fun _ _ => rfl) rfl (fun _ _ => rfl) (by rw [List.append_nil])

end

/-! ### CSRs (R108, R109, R126) -/

/-- FFLAGS after a CSRWR of `v`: what is written 1 is cleared, and the flags of this clock stand. -/
theorem Ctx.testBit_fflags_csrWrite (c : Ctx) (v : Nat) {i : Nat} (hi : i < 6) :
    (c.csrWrite 3 v).fflags.testBit i = ((c.fflags.testBit i && !v.testBit i) || c.newFl.testBit i) := by
  have hmask : (63 - v % 64).testBit i = !v.testBit i := by
    rw [show 63 - v % 64 = 2 ^ 6 - (v % 2 ^ 6 + 1) by omega, Nat.testBit_two_pow_sub_succ (Nat.mod_lt v (by decide)), Nat.testBit_mod_two_pow,
      decide_eq_true hi]
    rfl
  change (Nat.lor (c.fflags &&& (63 - v % 64)) c.newFl).testBit i = _
  rw [show Nat.lor (c.fflags &&& (63 - v % 64)) c.newFl = (c.fflags &&& (63 - v % 64)) ||| c.newFl from rfl, Nat.testBit_or, Nat.testBit_and, hmask]

/-- The bits of AWRAP that exist, as a CSRWR of `v` stores them. -/
def wrapWord (v : Nat) : DWord := BitVec.ofNat 64 (bits v 28 16 * 65536 + bits v 11 0)

theorem Ctx.csrWrite_awrap {n : Nat} (hn : n ≠ 3) (c : Ctx) (v : Nat) : c.csrWrite n v = { c with awrap := c.awrap.set 0 (n - 16) (wrapWord v) } := if_neg hn

theorem getLsbD_wrapWord (v : Nat) {i : Nat} (hi : i < 64) :
    (wrapWord v).getLsbD i = (v.testBit i && (decide (i < 12) || (decide (16 ≤ i) && decide (i < 29)))) := by
  have hlow : bits v 11 0 < 2 ^ 16 := Nat.lt_of_lt_of_le (bits_lt v 11 0) (by decide)
  rw [wrapWord, BitVec.getLsbD_ofNat, decide_eq_true hi, Bool.true_and, show bits v 28 16 * 65536 = 2 ^ 16 * bits v 28 16 from Nat.mul_comm ..,
    Nat.testBit_two_pow_mul_add _ hlow, testBit_bits, testBit_bits]
  by_cases h16 : i < 16
  · simp [h16, Nat.not_le.2 h16, Bool.and_comm]
  · rw [if_neg h16, Nat.add_sub_cancel' (Nat.not_lt.1 h16)]
    have h12 : ¬ i < 12 := by omega
    have h29 : i - 16 < 13 ↔ i < 29 := by omega
    simp [h12, h29, Nat.not_lt.1 h16, Bool.and_comm]

/-- A CSR access reads the CSR and has the value on its way. -/
def State.csrResult (s : State) (t : Nat) (f : SC) (v : Nat) : PendWr := ⟨(s.tile t).clk + 2, none, .s f.rd.toNat (BitVec.ofNat 64 v)⟩

section
variable {s : State} {t k v : Nat} {f : SC} (hv : s.csrValue t k f.csr.toNat = some v) (g : Guard)
include hv

theorem effOf_csrrd : effOf s t k s ⟨.CSRRD, g, .sc f⟩ = s.updCtx t k (fun c => { c with pend := c.pend ++ [s.csrResult t f v] }) := by
  change s.updCtx t k (fun c => c.push _ (.s f.rd.toNat (BitVec.ofNat 64 ((s.csrValue t k f.csr.toNat).getD 0)))) = _
  rw [hv]
  rfl

theorem effOf_csrwr : effOf s t k s ⟨.CSRWR, g, .sc f⟩ =
    s.updCtx t k (fun c => { c.csrWrite f.csr.toNat ((s.ctxOf t k).rdS f.rs1.toNat).toNat with
      pend := (c.csrWrite f.csr.toNat ((s.ctxOf t k).rdS f.rs1.toNat).toNat).pend ++ [s.csrResult t f v] }) := by
  change s.updCtx t k (fun c => (c.csrWrite _ _).push _ (.s f.rd.toNat (BitVec.ofNat 64 ((s.csrValue t k f.csr.toNat).getD 0)))) = _
  rw [hv]
  rfl

end

/-! ### BAR (R134) -/

/-- A BAR that its guard enables and nothing holds has had its completion. -/
theorem State.woken_of_bar_not_held {s : State} {t k : Nat} {g : Guard} {f : TB} (hg : (s.ctxOf t k).guardS g = true)
    (hfree : s.holdOf t k [⟨.BAR, g, .tb f⟩] = none) : (s.ctxOf t k).bar = .woken := by
  have hen : (s.ctxOf t k).enables ⟨.BAR, g, .tb f⟩ = true := hg
  have hact : (s.ctxOf t k).active [⟨.BAR, g, .tb f⟩] = [⟨.BAR, g, .tb f⟩] := by simp [Ctx.active, hen]
  have hbar : [(⟨.BAR, g, .tb f⟩ : RWord)].any (fun w => w.mn == .BAR) = true := rfl
  unfold State.holdOf at hfree
  dsimp only at hfree
  rw [hact, if_pos hbar] at hfree
  cases hst : (s.ctxOf t k).bar with
  | woken => rfl
  | sent | no =>
    rw [hst] at hfree
    dsimp only at hfree
    split_ifs at hfree

/-! ### MSEST (R135, R161, R437) -/

/-- A fold of updates at the `n` keys from `c`. -/
theorem Tab.get_foldl_put {α : Type} (d : α) (c n : Nat) (f : α → α) (st : Tab α) (j : Nat) :
    ((List.range n).foldl (fun st i => st.put (c + i) (f (st.get d (c + i)))) st).get d j = if c ≤ j ∧ j < c + n then f (st.get d j) else st.get d j := by
  induction n with
  | zero => rw [if_neg (by omega), List.range_zero, List.foldl_nil]
  | succ n ih =>
    rw [List.range_succ, List.foldl_append, List.foldl_cons, List.foldl_nil]
    by_cases hj : j = c + n
    · subst hj
      rw [Tab.get_put_same, ih, if_neg (by omega), if_pos (by omega)]
    · rw [Tab.get_put_ne hj, ih]
      exact if_congr (by omega) rfl rfl

/-- A channel after an MSEST that names it. -/
def StatCh.msest (f : TB) (h : StatCh) : StatCh := if f.clr then ⟨0, 0, f.en⟩ else { h with en := f.en }

theorem Tile.stat_msest (x : Tile) (f : TB) (j : Nat) :
    (x.msest f).stat.get StatCh.zero j =
      if f.ch0.toNat ≤ j ∧ j < f.ch0.toNat + f.nch.toNat then (x.flushSamples.stat.get StatCh.zero j).msest f else x.flushSamples.stat.get StatCh.zero j :=
  Tab.get_foldl_put StatCh.zero _ _ (StatCh.msest f) _ j

theorem Tile.msest_only (x : Tile) (f : TB) : x.msest f = { x with stat := (x.msest f).stat, samples := [], drop := (x.msest f).drop } := rfl

theorem Tile.mem_drop_msest {f : TB} (hclr : f.clr = true) (x : Tile) {j : Nat} (hlo : f.ch0.toNat ≤ j) (hhi : j < f.ch0.toNat + f.nch.toNat) :
    (x.clk + 1, j) ∈ (x.msest f).drop := by
  have hmem : (x.clk + 1, j) ∈ (List.range f.nch.toNat).map (fun i => (x.clk + 1, f.ch0.toNat + i)) :=
    List.mem_map.2 ⟨j - f.ch0.toNat, List.mem_range.2 (by omega), by rw [Nat.add_sub_cancel' hlo]⟩
  have hdrop : (x.msest f).drop = _ := if_pos hclr
  rw [hdrop]
  exact List.mem_append_right _ hmem

end Sys2Proof.Machine

open Sys2Proof Sys2Proof.Machine

/-- Settles O18: the issue of one word, whose effect is a result on its way, a write of the CSR with one, none, or `Tile.msest`. -/
theorem controlRegistersFencesStatistics : Obligations.ControlRegistersFencesStatistics := by
  refine ⟨fun t k g f v s hg hv => ⟨fun hs => ?_, fun hs => ⟨fun hcsr => ?_, fun hcsr => ?_⟩⟩, fun t k g f s hg => ⟨fun hs => ?_, fun hs => ?_, fun hs => ?_⟩⟩
  · exact ⟨_, exec_issues rfl hs, issueNow_pending (by decide) hg _ (effOf_csrrd hv g)⟩
  · have hissue := issueNow_updCtx (by decide) hg (s.flag .TILE_CTRL (tix t.val) 1) (effOf_csrwr hv g)
    simp only [hcsr] at hissue
    exact ⟨_, _, exec_issues rfl hs, fun i hi => Ctx.testBit_fflags_csrWrite _ _ hi, hissue⟩
  · have hissue := issueNow_updCtx (by decide) hg (s.flag .TILE_CTRL (tix t.val) 1) (effOf_csrwr hv g)
    simp only [Ctx.csrWrite_awrap hcsr] at hissue
    exact ⟨_, _, exec_issues rfl hs, fun i hi => getLsbD_wrapWord _ hi, hissue⟩
  · exact ⟨_, exec_issues rfl hs, issueNow_unpending (by decide) hg _ rfl⟩
  · have hissue := issueNow_unpending (by decide) hg (s.flag .TILE_CTRL (tix t.val) 1) (o := .tb f) (mn := .BAR) rfl
    have hexec := exec_issues (i := .bar t k g f) rfl hs
    obtain ⟨-, -, hfree, -⟩ := hs
    refine ⟨State.woken_of_bar_not_held hg hfree, _, hexec, hissue, ?_⟩
    obtain ⟨-, -, -, hctx⟩ := hissue
    rw [hctx]
    rfl
  · refine ⟨_, (s.tile t.val).msest f, exec_issues rfl hs, issueNow_unpending (by decide) hg _ rfl, Tile.msest_only ..,
      fun j => ⟨fun hin => ?_, fun hout => ?_⟩, fun hclr j hlo hhi => Tile.mem_drop_msest hclr _ hlo hhi⟩
    · rw [Tile.stat_msest, if_pos hin, StatCh.msest]
    · rw [Tile.stat_msest, if_neg (by omega)]
end

section
/-! SUPPORT. The statement of integer arithmetic, LDN and STN (R113, R122, R123). -/

namespace Sys2Proof.Machine
open Sys2Proof

/-! ### An instruction that leaves a state and has its results on their way (R98, R106) -/

/-- `s1` is what the effect of an enabled word leaves, but for the results `ps` on their way. -/
theorem issueNow_leaves {s s1 : State} {t k : Nat} {mn : Mn} {g : Guard} {o : Opnd} {ps : List PendWr} (hen : (s.ctxOf t k).enables ⟨mn, g, o⟩ = true)
    (hmn : mn ≠ .YIELD ∧ mn ≠ .HALT) (he : effOf s t k s ⟨mn, g, o⟩ = s1.updCtx t k (fun c => { c with pend := c.pend ++ ps })) (lock : Bool) :
    IssuedOnly s1 (s.issueNow t k [⟨mn, g, o⟩] lock) t k ⟨mn, g, o⟩ ps := by
  obtain ⟨hyield, hhalt⟩ := hmn
  refine issueNow_enabled hen hyield hhalt he rfl (fun x hx => State.tile_updTile_ne hx ..) ?_ (fun j hj => State.ctxOf_updCtx_ne (.inr hj) ..)
    (State.ctxOf_updCtx_same ..)
  simp [State.tile_updCtx, Tile.setCtx]

/-- An issue touches no memory of its own. -/
theorem IssuedOnly.mem {s u : State} {t k : Nat} {w : RWord} {ps : List PendWr} (h : IssuedOnly s u t k w ps) : u.mem = s.mem := by
  obtain ⟨⟨hu, -⟩, -⟩ := h
  rw [hu]

/-! ### Integer arithmetic (R122) -/

/-- An SA instruction has its result on its way. -/
theorem issueNow_sa {s : State} {t k : Nat} {mn : Mn} {g : Guard} (f : SA) (hmn : mn.slot ≠ 2 ∧ mn ≠ .YIELD ∧ mn ≠ .HALT)
    (hg : (s.ctxOf t k).guardS g = true) (lock : Bool) :
    IssuedOnly s (s.issueNow t k [⟨mn, g, .sa f⟩] lock) t k ⟨mn, g, .sa f⟩
      [⟨(s.tile t).clk + 1, none, saDst f ((s.ctxOf t k).saResult mn f)⟩] :=
  issueNow_pending hmn hg lock rfl

/-- The W form of SHL is sign-extended from its 32 bits. -/
theorem sext32_zeroExtend (v : Word) : sext32 (v.zeroExtend 64) = v.signExtend 64 := by simp [sext32]

/-! ### Little-endian bytes -/

theorem Mem.rdBytes_getD (m : Mem) (a : Nat) {n i : Nat} (hi : i < n) : (m.rdBytes a n).getD i 0 = m.rd (a + i) := by
  induction n generalizing a i with
  | zero => omega
  | succ n ih =>
    cases i with
    | zero => rfl
    | succ i =>
      rw [Mem.rdBytes, List.getD_cons_succ, ih (a + 1) (by omega), show a + 1 + i = a + (i + 1) by omega]

theorem testBit_leNat (bs : List Byte) (i : Nat) : (leNat bs).testBit i = (bs.getD (i / 8) 0).getLsbD (i % 8) := by
  induction bs generalizing i with
  | nil => simp [leNat]
  | cons b bs ih =>
    rw [leNat, Nat.add_comm, Nat.testBit_two_pow_mul_add (i := 8) _ b.isLt]
    by_cases hi : i < 8
    · rw [if_pos hi, Nat.div_eq_of_lt hi, Nat.mod_eq_of_lt hi]
      rfl
    · rw [if_neg hi, ih, show i / 8 = (i - 8) / 8 + 1 by omega, List.getD_cons_succ, show (i - 8) % 8 = i % 8 by omega]

theorem leBytes_getD {n i : Nat} (hi : i < n) (v : Nat) : ((leBytes n v).getD i 0).toNat = v / 256 ^ i % 256 := by
  induction n generalizing i v with
  | zero => omega
  | succ n ih =>
    cases i with
    | zero => simp [leBytes]
    | succ i => rw [leBytes, List.getD_cons_succ, ih (by omega), Nat.div_div_eq_div_mul, Nat.pow_succ']

/-! ### LDN (R123) -/

/-- Two's complement reading of the low bits, as the library's. -/
theorem toSigned_eq_toInt {w : Nat} (hw : 0 < w) (v : Nat) : toSigned w v = (BitVec.ofNat w v).toInt := by
  have hpow : 2 ^ w = 2 * 2 ^ (w - 1) := by rw [← Nat.pow_succ', Nat.succ_eq_add_one, Nat.sub_add_cancel hw]
  have hiff : v % 2 ^ w < 2 ^ (w - 1) ↔ 2 * (v % 2 ^ w) < 2 ^ w := by omega
  rw [toSigned, BitVec.toInt_eq_toNat_cond, BitVec.toNat_ofNat]
  exact if_congr hiff rfl rfl

theorem ofNat_ofSigned (w : Nat) (v : Int) : BitVec.ofNat w (ofSigned w v) = BitVec.ofInt w v := by
  refine BitVec.eq_of_toNat_eq ?_
  rw [BitVec.toNat_ofNat, BitVec.toNat_ofInt, ofSigned]
  refine Nat.mod_eq_of_lt ?_
  have := Int.emod_lt_of_pos v (b := ((2 ^ w : Nat) : Int)) (by positivity)
  have := Int.emod_nonneg v (b := ((2 ^ w : Nat) : Int)) (by positivity)
  omega

/-- A number of `w` bits, sign-extended to 64 bits. -/
theorem getLsbD_ofSigned_toSigned {w i : Nat} (hw : 0 < w) (hi : i < 64) (v : Nat) :
    (BitVec.ofNat 64 (ofSigned 64 (toSigned w v))).getLsbD i = v.testBit (if i < w then i else w - 1) := by
  rw [ofNat_ofSigned, toSigned_eq_toInt hw]
  change ((BitVec.ofNat w v).signExtend 64).getLsbD i = _
  rw [BitVec.getLsbD_signExtend, decide_eq_true hi, Bool.true_and, BitVec.msb_eq_getLsbD_last, BitVec.getLsbD_ofNat, BitVec.getLsbD_ofNat]
  split
  · next h => rw [decide_eq_true h, Bool.true_and]
  · rw [decide_eq_true (show w - 1 < w by omega), Bool.true_and]

theorem smSize_eq (f : SM) : smSize f = 2 ^ (f.fn.toNat % 4) := by simp [smSize, bits]

theorem smSize_pos (f : SM) : 0 < smSize f := Nat.two_pow_pos _

theorem smSize_le (f : SM) : smSize f ≤ 8 := by
  rw [smSize_eq]
  exact Nat.pow_le_pow_right (j := 3) (by decide) (by omega)

/-- The bits of what an LDN writes: those of its bytes, and above them zeros or the sign. -/
theorem State.getLsbD_ldnValue (s : State) (t k : Nat) (f : SM) {i : Nat} (hi : i < 64) :
    (s.ldnValue t k f).getLsbD i =
      if i < 8 * smSize f then (s.mem.rd (spadBase t + (s.ctxOf t k).smAddr f + i / 8)).getLsbD (i % 8)
      else f.fn.getLsbD 2 && (s.mem.rd (spadBase t + (s.ctxOf t k).smAddr f + smSize f - 1)).getLsbD 7 := by
  have hpos := smSize_pos f
  have hbit : ∀ j, j < 8 * smSize f → (leNat (s.spRd t ((s.ctxOf t k).smAddr f) (smSize f))).testBit j =
      (s.mem.rd (spadBase t + (s.ctxOf t k).smAddr f + j / 8)).getLsbD (j % 8) := fun j hj => by
    rw [testBit_leNat, State.spRd, Mem.rdBytes_getD _ _ (by omega)]
  have hbeyond : ∀ j, ¬ j < 8 * smSize f → (leNat (s.spRd t ((s.ctxOf t k).smAddr f) (smSize f))).testBit j = false := fun j hj => by
    rw [testBit_leNat, List.getD_eq_default _ _ (by rw [State.spRd, Mem.rdBytes_length]; omega)]
    exact BitVec.getLsbD_zero
  unfold State.ldnValue
  dsimp only
  cases hsign : f.fn.getLsbD 2
  · rw [if_neg Bool.false_ne_true, BitVec.getLsbD_ofNat, decide_eq_true hi, Bool.true_and, Bool.false_and]
    split
    · next h => exact hbit i h
    · next h => exact hbeyond i h
  · rw [if_pos rfl, getLsbD_ofSigned_toSigned (by omega) hi, Bool.true_and]
    split
    · next h => exact hbit i h
    · next h =>
      rw [hbit _ (by omega), show (8 * smSize f - 1) % 8 = 7 by omega,
        show spadBase t + (s.ctxOf t k).smAddr f + (8 * smSize f - 1) / 8 = spadBase t + (s.ctxOf t k).smAddr f + smSize f - 1 by omega]

/-- The post-increment of an LDN or STN, on its way until `due` (R113). -/
def State.smInc (s : State) (t k : Nat) (f : SM) (due : Nat) : List PendWr :=
  if smPost f then [⟨due, none, .a f.ab.toNat ((s.ctxOf t k).postInc f.ab.toNat f.imm.toInt)⟩] else []

/-- The state whose scratchpad an STN has written. -/
def State.stnStored (s : State) (t k : Nat) (f : SM) : State :=
  s.spWr t ((s.ctxOf t k).smAddr f) (leBytes (smSize f) ((s.ctxOf t k).stnValue f).toNat)

section
variable {s : State} {t k : Nat} {g : Guard} (hg : (s.ctxOf t k).guardS g = true) (f : SM) (lock : Bool)
include hg

theorem issueNow_ldn :
    IssuedOnly s (s.issueNow t k [⟨.LDN, g, .sm f⟩] lock) t k ⟨.LDN, g, .sm f⟩
      ([⟨(s.tile t).clk + 4, none, if smIsA f then .a f.rd.toNat (s.ldnValue t k f) else .s f.rd.toNat (s.ldnValue t k f)⟩] ++
        s.smInc t k f ((s.tile t).clk + 4)) := by
  refine issueNow_pending (by decide) hg lock ?_
  change s.updCtx t k (fun c => if smPost f then (c.push _ _).push _ _ else c.push _ _) = _
  unfold State.smInc
  cases smPost f
  · rfl
  · simp [Ctx.push]

theorem issueNow_stn :
    IssuedOnly (s.stnStored t k f) (s.issueNow t k [⟨.STN, g, .sm f⟩] lock) t k ⟨.STN, g, .sm f⟩ (s.smInc t k f ((s.tile t).clk + 1)) := by
  have heff : effOf s t k s ⟨.STN, g, .sm f⟩ = if smPost f then (s.stnStored t k f).updCtx t k (fun c => c.push ((s.tile t).clk + 1)
      (.a f.ab.toNat ((s.ctxOf t k).postInc f.ab.toNat f.imm.toInt))) else s.stnStored t k f := rfl
  unfold State.smInc
  by_cases hpost : smPost f = true
  · rw [if_pos hpost] at heff ⊢
    exact issueNow_leaves (Ctx.enables_of_guardS (show Mn.STN.slot ≠ 2 by decide) hg) ⟨by decide, by decide⟩ heff lock
  · rw [if_neg hpost] at heff ⊢
    exact issueNow_unpending (by decide) hg lock heff

end

theorem State.rd_stnStored {s : State} (hm : s.mem.wf = true) (t k : Nat) (f : SM) {i : Nat} (hi : i < smSize f) :
    ((s.stnStored t k f).mem.rd (spadBase t + (s.ctxOf t k).smAddr f + i)).toNat = ((s.ctxOf t k).stnValue f).toNat / 256 ^ i % 256 := by
  change ((Mem.wrBytes ..).rd _).toNat = _
  rw [Mem.rd_wrBytes hm, leBytes_length, if_pos (by omega), Nat.add_sub_cancel_left, leBytes_getD hi]

theorem State.sameOutside_stnStored {s : State} (hm : s.mem.wf = true) (t k : Nat) (f : SM) :
    SameOutside s (s.stnStored t k f) (spadBase t + (s.ctxOf t k).smAddr f) (smSize f) := fun x hx => by
  change (Mem.wrBytes ..).rd x = _
  rw [Mem.rd_wrBytes hm, leBytes_length, if_neg hx]

end Sys2Proof.Machine

open Sys2Proof Sys2Proof.Machine

/-- Settles O17: an SA instruction has `aluResult` on its way, an LDN its value; an STN writes the low bytes of its register. -/
theorem scalarArithmeticAndMemory : Obligations.ScalarArithmeticAndMemory := by
  refine ⟨fun t k g f x y s hg hx hy => ?_, fun t k g f s a n hg ha hn => ⟨fun hs => ?_, fun hInv hs => ?_⟩⟩
  · subst hx hy
    refine ⟨fun hs => ⟨_, exec_issues rfl hs, issueNow_sa f (by decide) hg _⟩, fun hs => ⟨_, exec_issues rfl hs, issueNow_sa f (by decide) hg _⟩,
      fun hs => ⟨_, exec_issues rfl hs, issueNow_sa f (by decide) hg _⟩, fun hs => ⟨_, exec_issues rfl hs, issueNow_sa f (by decide) hg _⟩,
      fun hs => ⟨_, exec_issues rfl hs, issueNow_sa f (by decide) hg _⟩, fun hs => ?_, fun hs => ⟨_, exec_issues rfl hs, issueNow_sa f (by decide) hg _⟩⟩
    rw [← sext32_zeroExtend]
    exact ⟨_, exec_issues rfl hs, issueNow_sa f (by decide) hg _⟩
  all_goals
    have hsize : smSize f = n := (smSize_eq f).trans hn.symm
    have haddr : (s.ctxOf t.val k.val).smAddr f = a := ha.symm
  · have hissue := issueNow_ldn hg f (s.flag .TILE_CTRL (tix t.val) 1)
    refine ⟨_, s.ldnValue t.val k.val f, exec_issues rfl hs, hissue.mem, fun i hi => ?_, hissue⟩
    rw [State.getLsbD_ldnValue _ _ _ _ hi, hsize, haddr]
  · have hissue := issueNow_stn hg f (s.flag .TILE_CTRL (tix t.val) 1)
    have hmem := hissue.mem
    obtain ⟨hwf, -, -⟩ := hInv
    refine ⟨_, exec_issues rfl hs, ?_, fun i hi => ?_, fun x hx => ?_⟩
    · rw [hmem]
      exact hissue
    · rw [hmem, ← haddr, State.rd_stnStored hwf t.val k.val f (by rw [hsize]; exact hi)]
      rfl
    · rw [hmem]
      exact State.sameOutside_stnStored hwf t.val k.val f x (by rw [haddr, hsize]; exact hx)
end

section
/-! SUPPORT. The statement of branches, calls, loops, YIELD and HALT (R85, R87, R110, R111, R124, R125). -/

namespace Sys2Proof.Machine
open Sys2Proof

/-! ### Where a context goes on (R124, R125) -/

/-- The address of the next bundle behind one word. -/
def Ctx.seqPc (c : Ctx) : Nat := (c.pc + 8) % 2 ^ 48

/-- A taken branch, which CALL and RET pair with the return stack. -/
theorem Ctx.advance_taken {c : Ctx} {w : RWord} {tgt : Nat} (hbranch : c.branch w = some tgt) :
    c.advance [w] = { c with pc := tgt,
                             rets := if w.mn = .CALL ∧ c.guardS w.g = true then c.seqPc :: c.rets
                                     else if w.mn = .RET ∧ c.guardS w.g = true then c.rets.drop 1 else c.rets } := by
  simp only [Ctx.advance, List.findSome?_cons, hbranch, List.any_cons, List.any_nil, Bool.or_false, Bool.and_eq_true, beq_iff_eq,
    List.length_singleton, Nat.mul_one, Ctx.seqPc]

/-- No branch is taken and no loop opens: only the end of a loop counts. -/
theorem Ctx.advance_on {c : Ctx} {w : RWord} (hbranch : c.branch w = none) (hloop : w.mn ≠ .LOOP) :
    c.advance [w] = { c with loops := (loopEnd c.pc c.loops).1, pc := (loopEnd c.pc c.loops).2.getD c.seqPc } := by
  simp only [Ctx.advance, List.findSome?_cons, List.findSome?_nil, hbranch, List.length_singleton, Nat.mul_one, Ctx.seqPc]
  split
  · rfl
  · next hlp =>
    split at hlp
    · next hlp' =>
      split at hlp'
      · next hmn _ => exact absurd hmn hloop
      · cases hlp'
    · cases hlp

/-- Only CALL and RET touch the return stack. -/
theorem Ctx.rets_advance_brc (c : Ctx) (g : Guard) (f : SB) : (c.advance [⟨.BRC, g, .sb f⟩]).rets = c.rets := by
  cases hbranch : c.branch ⟨.BRC, g, .sb f⟩ with
  | some tgt => rw [Ctx.advance_taken hbranch, if_neg (by simp), if_neg (by simp)]
  | none => rw [Ctx.advance_on hbranch (show Mn.BRC ≠ .LOOP by decide)]

/-- A LOOP is no branch: it opens its body, or with a count of 0 goes to the body's end. -/
theorem Ctx.advance_loop {c : Ctx} {g : Guard} {f : SB} (hg : c.guardS g = true) :
    c.advance [⟨.LOOP, g, .sb f⟩] =
      if (c.rdS f.rs1.toNat).toNat = 0 then
        match (loopEnd c.pc c.loops).2 with
        | some b => { c with loops := (loopEnd c.pc c.loops).1, pc := b }
        | none => { c with loops := (loopEnd c.pc c.loops).1, pc := sbTarget c.pc f, skip := some (sbTarget c.pc f) }
      else { c with loops := ⟨c.seqPc, sbTarget c.pc f, (c.rdS f.rs1.toNat).toNat⟩ :: (loopEnd c.pc c.loops).1,
                    pc := (loopEnd c.pc c.loops).2.getD c.seqPc } := by
  have hbranch : c.branch ⟨.LOOP, g, .sb f⟩ = none := by simp [Ctx.branch, hg]
  simp only [Ctx.advance, List.findSome?_cons, List.findSome?_nil, hbranch, hg, if_pos, List.length_singleton, Nat.mul_one, Ctx.seqPc]
  cases (loopEnd c.pc c.loops).2 <;> rfl

theorem sbTarget_eq {pc tgt : Nat} {f : SB} (h : (tgt : Int) = ((pc : Int) + f.off.toInt) % 2 ^ 48) : sbTarget pc f = tgt := by
  have hcast : ((2 ^ 48 : Nat) : Int) = 2 ^ 48 := by norm_num
  rw [sbTarget, ofSigned, hcast, ← h, Int.toNat_natCast]

/-- The condition of a BRC holds. -/
theorem brCond_true {fn : BitVec 8} {x y : DWord}
    (h : (fn = 0 ∧ x = y) ∨ (fn = 1 ∧ x ≠ y) ∨ (fn = 2 ∧ x.toInt < y.toInt) ∨ (fn = 3 ∧ y.toInt ≤ x.toInt) ∨ (fn = 4 ∧ x.toNat < y.toNat) ∨
      (fn = 5 ∧ y.toNat ≤ x.toNat)) : brCond fn.toNat x y = true := by
  rcases h with ⟨rfl, h⟩ | ⟨rfl, h⟩ | ⟨rfl, h⟩ | ⟨rfl, h⟩ | ⟨rfl, h⟩ | ⟨rfl, h⟩ <;> simpa [brCond, BitVec.slt, BitVec.ult] using h

/-- The condition of a BRC fails. -/
theorem brCond_false {fn : BitVec 8} {x y : DWord}
    (h : (fn = 0 ∧ x ≠ y) ∨ (fn = 1 ∧ x = y) ∨ (fn = 2 ∧ y.toInt ≤ x.toInt) ∨ (fn = 3 ∧ x.toInt < y.toInt) ∨ (fn = 4 ∧ y.toNat ≤ x.toNat) ∨
      (fn = 5 ∧ x.toNat < y.toNat)) : brCond fn.toNat x y = false := by
  rcases h with ⟨rfl, h⟩ | ⟨rfl, h⟩ | ⟨rfl, h⟩ | ⟨rfl, h⟩ | ⟨rfl, h⟩ | ⟨rfl, h⟩ <;> simpa [brCond, BitVec.slt, BitVec.ult] using h

/-- A BRC branches where its condition holds. -/
theorem Ctx.branch_brc {c : Ctx} {g : Guard} {f : SB} (hg : c.guardS g = true) :
    c.branch ⟨.BRC, g, .sb f⟩ = if brCond f.fn.toNat (c.rdS f.rs1.toNat) (c.rdS f.rs2.toNat) then some (sbTarget c.pc f) else none := by
  simp [Ctx.branch, hg]

/-- BR and CALL always branch. -/
theorem Ctx.branch_always {c : Ctx} {mn : Mn} {g : Guard} {f : SB} (hg : c.guardS g = true) (hmn : mn = .BR ∨ mn = .CALL) :
    c.branch ⟨mn, g, .sb f⟩ = some (sbTarget c.pc f) := by
  rcases hmn with rfl | rfl <;> simp [Ctx.branch, hg]

theorem Ctx.branch_ret {c : Ctx} {g : Guard} (hg : c.guardS g = true) : c.branch ⟨.RET, g, .sn⟩ = c.rets.head? := by simp [Ctx.branch, hg]

/-- After an issue the context stands where `advance` has sent it. -/
theorem IssuedOnly.goesOn {s u : State} {t k : Nat} {w : RWord} {ps : List PendWr} (h : IssuedOnly s u t k w ps) {c : Ctx}
    (hc : (s.ctxOf t k).advance [w] = c) :
    (u.ctxOf t k).pc = c.pc ∧ (u.ctxOf t k).loops = c.loops ∧ (u.ctxOf t k).rets = c.rets ∧ (u.ctxOf t k).skip = c.skip := by
  obtain ⟨-, -, -, hctx⟩ := h
  rw [hctx, Ctx.issued, hc]
  exact ⟨rfl, rfl, rfl, rfl⟩

/-- Where a bundle of one enabled word does not fault, the word does not (R116). -/
theorem State.faultOf_of_issues {s : State} {t k : Nat} {w : RWord} (hen : (s.ctxOf t k).enables w = true) (hs : s.issues t k w) :
    s.faultOf t k w = none := by
  obtain ⟨-, -, -, hfault⟩ := hs
  have hact : (s.ctxOf t k).active [w] = [w] := by simp [Ctx.active, hen]
  rw [State.bundleFault, hact, List.findSome?_singleton] at hfault
  exact hfault

/-- A RET that issues finds a return address. -/
theorem State.rets_of_issues {s : State} {t k : Nat} {g : Guard} (hg : (s.ctxOf t k).guardS g = true) (hs : s.issues t k ⟨.RET, g, .sn⟩) :
    (s.ctxOf t k).rets ≠ [] := by
  have hen : (s.ctxOf t k).enables ⟨.RET, g, .sn⟩ = true := hg
  have hfault : (if (s.ctxOf t k).rets = [] then some fSTK else none) = none := State.faultOf_of_issues hen hs
  intro hnil
  rw [if_pos hnil] at hfault
  cases hfault

/-! ### YIELD and HALT (R85, R87, R110, R111) -/

/-- A tile of which context `k` has issued: the others have left RUN. -/
def Tile.issuedBy (x : Tile) (k : Nat) : Tile :=
  { x with cur := k, sel := some k, turn := false,
           ctx := ⟨x.ctx.entries.map (fun e => (e.1, if e.1 ≠ k ∧ e.2.st = .run then { e.2 with st := .ready } else e.2))⟩ }

/-- The state in which context `k` has issued and become `f` of what it was. -/
def State.issuedAs (s : State) (t k : Nat) (f : Ctx → Ctx) : State := (s.updTile t (·.issuedBy k)).updCtx t k f

section
variable (s : State) (t k : Nat) (f : Ctx → Ctx)

theorem State.ctxOf_issuedBy (j : Nat) : (s.updTile t (·.issuedBy k)).ctxOf t j =
    if j ≠ k ∧ (s.ctxOf t j).st = .run then { s.ctxOf t j with st := .ready } else s.ctxOf t j := by
  rw [State.ctxOf, State.tile_updTile_same]
  exact Tile.context_yield _ k j

theorem State.ctxOf_issuedAs : (s.issuedAs t k f).ctxOf t k = f (s.ctxOf t k) := by
  rw [State.issuedAs, State.ctxOf_updCtx_same, State.ctxOf_issuedBy, if_neg (fun h => h.1 rfl)]

theorem State.onlyTile_issuedAs : OnlyTile s (s.issuedAs t k f) t := (s.onlyTile_updTile ..).trans (State.onlyTile_updCtx ..)

theorem State.othersYield_issuedAs : OthersYield s (s.issuedAs t k f) t k := fun j hj => by
  rw [State.issuedAs, State.ctxOf_updCtx_ne (.inr hj), State.ctxOf_issuedBy]
  exact if_congr (and_iff_right hj) rfl rfl

theorem State.sameTile_issuedAs : SameTileButContexts s (s.issuedAs t k f) t k := by
  rw [SameTileButContexts, State.issuedAs, State.tile_updCtx, State.tile_updTile_same]
  rfl

end

theorem Ctx.advance_regs (c : Ctx) (ws : List RWord) :
    (c.advance ws).s = c.s ∧ (c.advance ws).a = c.a ∧ (c.advance ws).v = c.v ∧ (c.advance ws).p = c.p := by
  rw [Ctx.advance_only]
  exact ⟨rfl, rfl, rfl, rfl⟩

/-- A context that has issued `w` and is in state `st`. -/
def Ctx.issuedIn (c : Ctx) (w : RWord) (st : CtxSt) : Ctx := { c.advance [w] with st := st, held := none, woken := false, bar := .no }

theorem Ctx.issuedIn_eq (c : Ctx) (w : RWord) (st : CtxSt) : c.issuedIn w st = { c.issued w [] with st := st } := by
  rw [Ctx.issuedIn, Ctx.issued, List.append_nil, Ctx.advance_only]

section
variable {s : State} {t k : Nat} {g : Guard} (hg : (s.ctxOf t k).guardS g = true) (lock : Bool)
include hg

theorem issueNow_yield :
    s.issueNow t k [⟨.YIELD, g, .sn⟩] lock = s.issuedAs t k (fun c => c.issuedIn ⟨.YIELD, g, .sn⟩ (if lock then .run else .ready)) := by
  have hen : (s.ctxOf t k).enables ⟨.YIELD, g, .sn⟩ = true := hg
  unfold State.issueNow
  simp only [Ctx.active, List.filter, hen, List.foldl, List.any]
  cases lock <;> rfl

theorem issueNow_halt :
    s.issueNow t k [⟨.HALT, g, .sn⟩] lock = (s.issuedAs t k (fun c => c.issuedIn ⟨.HALT, g, .sn⟩ .run)).haltCtx t k := by
  have hen : (s.ctxOf t k).enables ⟨.HALT, g, .sn⟩ = true := hg
  unfold State.issueNow
  simp only [Ctx.active, List.filter, hen, List.foldl, List.any]
  cases lock <;> rfl

end

/-- The slices of a context that winds down begin their release. -/
theorem Tile.slice_releaseAll {x : Tile} {j k : Nat} (hj : j < 4) (howner : (x.slice j).owner = some k) : ((x.releaseAll k).slice j).releasing = true := by
  unfold Tile.releaseAll
  refine foldl_at (view := Tile.slice) (R := fun y z => y.owner = some k → z.releasing = true) (fun x i hij => ?_) (fun x hx => ?_)
    List.nodup_range (List.mem_range.2 hj) x howner
  · dsimp only
    split
    · exact Tile.slice_setSlice_ne hij ..
    · rfl
  · dsimp only
    split
    · rw [Tile.slice_setSlice]
    · next hkept => simpa [hx] using hkept

theorem Tile.slice_setCtx (x : Tile) (k : Nat) (c : Ctx) (j : Nat) : (x.setCtx k c).slice j = x.slice j := rfl

theorem State.slice_windDown {s : State} {t j k : Nat} (hj : j < 4) (howner : ((s.tile t).slice j).owner = some k) :
    (((s.windDown t k).tile t).slice j).releasing = true := by
  have howner' : (((s.discardReqs t k).tile t).slice j).owner = some k := by
    rw [(s.discarded_discardReqs t k).tile]
    exact howner
  unfold State.windDown
  generalize s.discardReqs t k = d at howner' ⊢
  rw [State.tile_updCtx, State.tile_updTile_same, Tile.slice_setCtx]
  exact Tile.slice_releaseAll hj howner'

section
variable {s : State} {t k : Nat} (hreqs : (s.tile t).reqs = [])

theorem State.haltCtx_tiles : (s.haltCtx t k).tiles = ((s.windDown t k).updCtx t k (fun c => { c with st := .halted })).tiles := State.tell_tiles ..

theorem State.tile_haltCtx (x : Nat) : (s.haltCtx t k).tile x = ((s.windDown t k).updCtx t k (fun c => { c with st := .halted })).tile x := by
  rw [State.tile, State.haltCtx_tiles]
  rfl

theorem State.ctxOf_haltCtx : (s.haltCtx t k).ctxOf t k = { (s.ctxOf t k).unslotted with st := .halted } := by
  rw [State.ctxOf_congr State.haltCtx_tiles, State.ctxOf_updCtx_same, (s.woundDown_windDown t k).ctx]

theorem State.ctxOf_haltCtx_ne {j : Nat} (hj : j ≠ k) : (s.haltCtx t k).ctxOf t j = s.ctxOf t j := by
  rw [State.ctxOf_congr State.haltCtx_tiles, State.ctxOf_updCtx_ne (.inr hj), (s.woundDown_windDown t k).ctxs j hj]

theorem State.tile_haltCtx_ne {x : Nat} (hx : x ≠ t) : (s.haltCtx t k).tile x = s.tile x := by
  rw [State.tile_haltCtx, (State.onlyTile_updCtx ..).2 x hx, (s.woundDown_windDown t k).others x hx]

theorem State.slice_haltCtx {j : Nat} (hj : j < 4) (howner : ((s.tile t).slice j).owner = some k) :
    (((s.haltCtx t k).tile t).slice j).releasing = true := by
  rw [State.tile_haltCtx, State.tile_updCtx, Tile.slice_setCtx]
  exact State.slice_windDown hj howner

include hreqs

/-- Without stream requests a HALT touches neither memory nor registers. -/
theorem State.haltCtx_only : s.haltCtx t k = { s with tiles := (s.haltCtx t k).tiles, events := s.events ++ [.halted t k] } := by
  have hwind := (windDown_quiet s t k hreqs).1
  unfold State.haltCtx
  generalize s.windDown t k = d at hwind
  dsimp only
  rw [hwind]
  rfl

end

end Sys2Proof.Machine

open Sys2Proof Sys2Proof.Machine

/-- Settles O19: the branches and LOOP are `Ctx.advance` of one word; YIELD is an issue that ends in READY, HALT one that winds down. -/
theorem controlFlowYieldHalt : Obligations.ControlFlowYieldHalt := by
  refine ⟨fun t k g f x y s tgt seq hg htgt hseq hx hy => ?_, fun t k g s hg => ⟨fun hs => ?_, fun hs hreqs => ?_⟩⟩
  · subst hx hy hseq
    have htgt := sbTarget_eq htgt
    refine ⟨fun hs => ?_, fun hs => ?_, fun hs => ?_, fun hs => ?_, fun hs => ?_⟩
    · have hissue := issueNow_unpending (by decide) hg (s.flag .TILE_CTRL (tix t.val) 1) (s1 := s) (o := .sb f) (mn := .BR) rfl
      obtain ⟨hpc, hloops, hrets, -⟩ := hissue.goesOn (Ctx.advance_taken (Ctx.branch_always hg (.inl rfl)))
      exact ⟨_, exec_issues rfl hs, hissue, hpc.trans htgt, hloops, hrets⟩
    · have hissue := issueNow_unpending (by decide) hg (s.flag .TILE_CTRL (tix t.val) 1) (s1 := s) (o := .sb f) (mn := .BRC) rfl
      have hbranch := Ctx.branch_brc (f := f) hg
      refine ⟨_, exec_issues rfl hs, hissue, ?_, fun hcond => ?_, fun hcond => ?_⟩
      · obtain ⟨-, -, hrets, -⟩ := hissue.goesOn rfl
        exact hrets.trans (Ctx.rets_advance_brc ..)
      · rw [brCond_true hcond] at hbranch
        obtain ⟨hpc, hloops, -⟩ := hissue.goesOn (Ctx.advance_taken hbranch)
        exact ⟨hpc.trans htgt, hloops⟩
      · rw [brCond_false hcond] at hbranch
        obtain ⟨hpc, hloops, -⟩ := hissue.goesOn (Ctx.advance_on hbranch (show Mn.BRC ≠ .LOOP by decide))
        exact ⟨hpc, hloops⟩
    · have hissue := issueNow_unpending (by decide) hg (s.flag .TILE_CTRL (tix t.val) 1) (s1 := s) (o := .sb f) (mn := .CALL) rfl
      obtain ⟨hpc, -, hrets, -⟩ := hissue.goesOn (Ctx.advance_taken (Ctx.branch_always hg (.inr rfl)))
      exact ⟨_, exec_issues rfl hs, hissue, hpc.trans htgt, hrets.trans (if_pos ⟨rfl, hg⟩)⟩
    · have hissue := issueNow_unpending (by decide) hg (s.flag .TILE_CTRL (tix t.val) 1) (s1 := s) (o := .sn) (mn := .RET) rfl
      obtain ⟨r, rs, hr⟩ := List.exists_cons_of_ne_nil (State.rets_of_issues hg hs)
      obtain ⟨hpc, -, hrets, -⟩ := hissue.goesOn (Ctx.advance_taken (tgt := r) (by rw [Ctx.branch_ret hg, hr, List.head?_cons]))
      rw [if_neg (by simp), if_pos ⟨rfl, hg⟩, hr] at hrets
      exact ⟨_, r, rs, exec_issues rfl hs, hr, hissue, hpc, hrets⟩
    · have hissue := issueNow_unpending (by decide) hg (s.flag .TILE_CTRL (tix t.val) 1) (s1 := s) (o := .sb f) (mn := .LOOP) rfl
      have hadv := Ctx.advance_loop (f := f) hg
      rw [htgt] at hadv
      have hcount : ((s.ctxOf t.val k.val).rdS f.rs1.toNat).toNat = 0 ↔ (s.ctxOf t.val k.val).rdS f.rs1.toNat = 0 :=
        (BitVec.toNat_eq (y := 0)).symm
      refine ⟨_, exec_issues rfl hs, hissue, fun hne => ?_, fun b hzero hback => ?_, fun hzero hback => ?_⟩
      · rw [if_neg (mt hcount.1 hne)] at hadv
        obtain ⟨hpc, hloops, -⟩ := hissue.goesOn hadv
        exact ⟨hloops, hpc⟩
      · rw [if_pos (hcount.2 hzero), hback] at hadv
        obtain ⟨hpc, -⟩ := hissue.goesOn hadv
        exact hpc
      · rw [if_pos (hcount.2 hzero), hback] at hadv
        obtain ⟨hpc, hloops, -, hskip⟩ := hissue.goesOn hadv
        exact ⟨hpc, hskip, hloops⟩
  · refine ⟨_, exec_issues rfl hs, ?_⟩
    rw [issueNow_yield hg]
    exact ⟨State.onlyTile_issuedAs .., State.sameTile_issuedAs .., State.othersYield_issuedAs s t.val k.val _, by rw [State.ctxOf_issuedAs, Ctx.issuedIn_eq]⟩
  · refine ⟨_, exec_issues rfl hs, ?_⟩
    rw [issueNow_halt hg]
    have hctx := s.ctxOf_issuedAs t.val k.val (fun c => c.issuedIn ⟨.HALT, g, .sn⟩ .run)
    have htile : SameTileButContexts .. := s.sameTile_issuedAs t.val k.val (fun c => c.issuedIn ⟨.HALT, g, .sn⟩ .run)
    have hyield := s.othersYield_issuedAs t.val k.val (fun c => c.issuedIn ⟨.HALT, g, .sn⟩ .run)
    obtain ⟨honly, hothers⟩ := s.onlyTile_issuedAs t.val k.val (fun c => c.issuedIn ⟨.HALT, g, .sn⟩ .run)
    generalize s.issuedAs t.val k.val (fun c => c.issuedIn ⟨.HALT, g, .sn⟩ .run) = d at hctx htile hyield honly hothers
    have hreqs' : (d.tile t.val).reqs = [] := by rw [htile]; exact hreqs
    obtain ⟨hsreg, ha, hv, hp⟩ := (s.ctxOf t.val k.val).advance_regs [⟨.HALT, g, .sn⟩]
    have hhalt := State.ctxOf_haltCtx (s := d) (t := t.val) (k := k.val)
    rw [hctx] at hhalt
    refine ⟨?_, ?_, fun j hj => ?_, fun x hx => ?_, ?_⟩
    · rw [State.haltCtx_only hreqs', honly]
    · rw [State.haltCtx_only hreqs', honly]
    · rw [State.ctxOf_haltCtx_ne hj, hyield j hj]
    · rw [State.tile_haltCtx_ne hx, hothers x hx]
    · rw [hhalt]
      refine ⟨rfl, rfl, hsreg, ha, hv, hp, fun j hj howner => State.slice_haltCtx hj ?_⟩
      rw [htile]
      exact howner
end

section
/-! SUPPORT. The statement of SOPEN, SIDX, SBLK and SLAND (R127 to R129, R192 to R195). -/

namespace Sys2Proof.Machine
open Sys2Proof

/-! ### Rows and landing flags (R91, R112, R195) -/

theorem mem_rowsOf {a n row : Nat} : row ∈ rowsOf a n ↔ row < 4096 ∧ 0 < n ∧ a < 256 * row + 256 ∧ 256 * row < a + n := by
  unfold rowsOf
  split
  · next hn => simp [hn]
  · next hn =>
    rw [List.mem_filter, List.mem_map, decide_eq_true_eq]
    constructor
    · rintro ⟨⟨i, hi, rfl⟩, hrow⟩
      rw [List.mem_range] at hi
      omega
    · rintro ⟨hrow, hpos, hlo, hhi⟩
      exact ⟨⟨row - a / 256, List.mem_range.2 (by omega), by omega⟩, hrow⟩

theorem Tile.mem_unlanded_clearLanded (x : Tile) (rows : List Nat) {row : Nat} :
    row ∈ (x.clearLanded rows).unlanded ↔ row ∈ x.unlanded ∨ row ∈ rows := by
  simp only [Tile.clearLanded, List.mem_append, List.mem_filter, List.contains_eq_mem, Bool.not_eq_true', decide_eq_false_iff_not]
  tauto

theorem spadCheck_none {a n al : Nat} (h : spadCheck a n al = none) : a % al = 0 := by
  unfold spadCheck at h
  split_ifs at h with hfit halign
  exact Decidable.not_not.1 halign

/-! ### SOPEN (R127, R189, R190) -/

theorem Mem.take_rdBytes (m : Mem) (a : Nat) {i n : Nat} (hi : i ≤ n) : (m.rdBytes a n).take i = m.rdBytes a i := by
  induction n generalizing a i with
  | zero => rw [Nat.le_zero.1 hi]; rfl
  | succ n ih =>
    cases i with
    | zero => rfl
    | succ i => rw [Mem.rdBytes, List.take_succ_cons, ih (a + 1) (by omega), Mem.rdBytes]

/-- BASE of a valid descriptor is increased by the offset. -/
theorem base_of_descOf {bs : List Byte} {off : Int} {d : Desc} (h : descOf bs off = some d) : (d.base : Int) = leNat (bs.take 8) + off := by
  obtain ⟨hok, hd⟩ := Option.ite_none_right_eq_some.1 h
  rw [Bool.and_eq_true, Bool.and_eq_true] at hok
  obtain ⟨⟨-, hbase⟩, -⟩ := hok
  rw [Bool.and_eq_true, Bool.and_eq_true, decide_eq_true_eq] at hbase
  obtain ⟨⟨hpos, -⟩, -⟩ := hbase
  cases hd
  exact Int.toNat_of_nonneg hpos

/-- An SOPEN that issues finds a valid descriptor. -/
theorem State.sopenDesc_of_issues {s : State} {t k : Nat} {g : Guard} {f : TS} (hg : (s.ctxOf t k).guardS g = true) (hs : s.issues t k ⟨.SOPEN, g, .ts f⟩) :
    ∃ d, s.sopenDesc t k f = some d := by
  have hen : (s.ctxOf t k).enables ⟨.SOPEN, g, .ts f⟩ = true := hg
  have hfault : s.faultT t k ⟨.SOPEN, g, .ts f⟩ = none := State.faultOf_of_issues hen hs
  unfold State.faultT at hfault
  dsimp only at hfault
  split at hfault
  · cases hfault
  · split_ifs at hfault with hpoison hdesc
    exact Option.ne_none_iff_exists'.1 (fun hnone => hdesc (by rw [hnone]; rfl))

theorem State.base_of_sopenDesc {s : State} {t k : Nat} {f : TS} {d : Desc} (h : s.sopenDesc t k f = some d) :
    (d.base : Int) = leNat (s.spRd t ((s.ctxOf t k).addrImm f.ar.toNat f.imm) 8) + ((s.ctxOf t k).rdS f.rs1.toNat).toInt := by
  rw [base_of_descOf h, State.spRd, Mem.take_rdBytes _ _ (by decide), State.spRd]

/-! ### SIDX and SBLK (R128, R192 to R195) -/

/-- The request that context `k` puts into its queue. -/
def State.newReq (s : State) (t k : Nat) (d : Desc) (addr n first : Nat) : Req :=
  { id := (s.tile t).nid, ctx := k, pc := (s.ctxOf t k).pc, mctx := s.mmuCtx t k, d := d, addr := addr, c := n, f := first, iss := (s.tile t).clk,
    idx := .empty, bad := [], nextIdx := first, next := 0, plan := [], fills := [], landed := .empty, badRows := [], cut := [], disc := [], failed := [],
    starved := false, queued := true }

/-- The tile with one more request; a read clears the landing flags of its rows. -/
def Tile.withReq (x : Tile) (r : Req) : Tile :=
  let y := { x with nid := x.nid + 1, reqs := x.reqs ++ [r] }
  if r.d.isWrite then y else y.clearLanded r.rows

theorem Tile.withReq_only (x : Tile) (r : Req) :
    x.withReq r = { x with nid := (x.withReq r).nid, reqs := x.reqs ++ [r], unlanded := (x.withReq r).unlanded } := by
  unfold Tile.withReq
  dsimp only
  split <;> rfl

theorem Tile.unlanded_withReq_write (x : Tile) {r : Req} (h : r.d.isWrite = true) : (x.withReq r).unlanded = x.unlanded := by rw [Tile.withReq, if_pos h]

theorem Tile.mem_unlanded_withReq_read (x : Tile) {r : Req} (h : r.d.isWrite = false) {row : Nat} :
    row ∈ (x.withReq r).unlanded ↔ row ∈ x.unlanded ∨ row ∈ r.rows := by
  rw [Tile.withReq, if_neg (by rw [h]; decide), Tile.mem_unlanded_clearLanded]

theorem effOf_request {mn : Mn} (hmn : mn = .SIDX ∨ mn = .SBLK) (s : State) (t k : Nat) (g : Guard) (f : TS) :
    effOf s t k s ⟨mn, g, .ts f⟩ =
      match (s.ctxOf t k).requestOf mn f with
      | some (d, n, first) => s.setTile t ((s.tile t).withReq (s.newReq t k d ((s.ctxOf t k).addrImm f.ar.toNat f.imm) n first))
      | none => s := by
  rcases hmn with rfl | rfl <;> rfl

end Sys2Proof.Machine

open Sys2Proof Sys2Proof.Machine

/-- Settles O20: SOPEN puts its descriptor into a slot, SIDX and SBLK are `Tile.withReq`, SLAND is `Tile.clearLanded`. -/
theorem streamInstructions : Obligations.StreamInstructions := by
  intro t k g f s a hg ha
  have haddr : (s.ctxOf t.val k.val).addrImm f.ar.toNat f.imm = a := ha.symm
  refine ⟨fun hs => ?_, fun i mn hrow hs => ?_, fun hs => ?_⟩
  · obtain ⟨d, hd⟩ := State.sopenDesc_of_issues hg hs
    have heff : effOf s t.val k.val s ⟨.SOPEN, g, .ts f⟩ = s.updCtx t.val k.val (fun c => { c with d := c.d.put f.d.toNat d }) := by
      change (match s.sopenDesc t.val k.val f with | some d => _ | none => s) = _
      rw [hd]
    rw [← haddr]
    exact ⟨_, d, exec_issues rfl hs, hd, State.base_of_sopenDesc hd, issueNow_unpending (by decide) hg _ heff⟩
  · have hi : i.ralok = some (t, k, ⟨mn, g, .ts f⟩) := by rcases hrow with ⟨rfl, rfl⟩ | ⟨rfl, rfl⟩ <;> rfl
    have hmn : mn = .SIDX ∨ mn = .SBLK := hrow.imp And.right And.right
    have hslot : mn.slot ≠ 2 ∧ mn ≠ .YIELD ∧ mn ≠ .HALT := by rcases hmn with rfl | rfl <;> decide
    have heff := effOf_request hmn s t.val k.val g f
    refine ⟨fun hnone => ?_, fun d n first hreq => ?_⟩
    · rw [hnone] at heff
      exact ⟨_, exec_issues hi hs, issueNow_unpending hslot hg _ heff⟩
    · rw [hreq] at heff
      exact ⟨_, _, _, exec_issues hi hs, issueNow_unpending hslot hg _ heff, Tile.withReq_only .., rfl, rfl, rfl, rfl, haddr, rfl, rfl, rfl, rfl, rfl,
        fun hw => Tile.unlanded_withReq_write _ hw, fun hr row hrow => by
          rw [Tile.mem_unlanded_withReq_read _ hr, Req.rows, mem_rowsOf, haddr]
          exact or_congr_right (and_iff_right hrow)⟩
  · have hfault : s.faultT t.val k.val ⟨.SLAND, g, .ts f⟩ = none := State.faultOf_of_issues (w := ⟨.SLAND, g, .ts f⟩) hg hs
    refine ⟨_, (s.tile t.val).clearLanded (rowsOf a ((s.ctxOf t.val k.val).slandBytes f)), exec_issues rfl hs, ?_, rfl, fun row hrow => ?_⟩
    · rw [← haddr]
      exact issueNow_unpending (by decide) hg _ rfl
    · have halign : (s.ctxOf t.val k.val).slandBytes f = 0 ∨ a % 256 = 0 := by
        rw [← haddr]
        by_cases hzero : (s.ctxOf t.val k.val).slandBytes f = 0
        · exact .inl hzero
        · exact .inr (spadCheck_none ((if_neg hzero).symm.trans hfault))
      rw [Tile.mem_unlanded_clearLanded, mem_rowsOf]
      unfold Ctx.slandBytes at halign ⊢
      exact or_congr_right (by omega)
end

section
/-! SUPPORT. The statement of SEND, RNADD, RNSET and RNWAIT (R130 to R132). -/

namespace Sys2Proof.Machine
open Sys2Proof

/-- The state from which an operation on a counter is on its way (R131). -/
def State.withOp (s : State) (m : CtrMsg) : State := { s with fab := { s.fab with ops := s.fab.ops ++ [m] } }

/-- The operation that RNADD or RNSET sends. -/
def Ctx.trOp (c : Ctx) (mn : Mn) (h : TR) : CtrOp := if mn = .RNADD then .add (c.trValue h) else .set (c.trValue h)

section
variable {s : State} {t k : Nat} {mn : Mn} {g : Guard} {h : TR} (hmn : mn = .RNADD ∨ mn = .RNSET)
include hmn

theorem effOf_counter_op : effOf s t k s ⟨mn, g, .tr h⟩ =
    let back := if h.i ∧ h.rv ≠ 0 then some (t, k, h.rv.toNat) else none
    let u := s.withOp ⟨(s.ctxOf t k).trCounter h, (s.ctxOf t k).trOp mn h, t, some (t, k), back⟩
    if back.isSome then u.updCtx t k (fun c => { c with oldWait := true }) else u := by
  rcases hmn with rfl | rfl <;> rfl

/-- A register waits for the counter's old value. -/
theorem effOf_counter_op_waits (hwait : h.i = true ∧ h.rv ≠ 0) : effOf s t k s ⟨mn, g, .tr h⟩ =
    (s.withOp ⟨(s.ctxOf t k).trCounter h, (s.ctxOf t k).trOp mn h, t, some (t, k), some (t, k, h.rv.toNat)⟩).updCtx t k
      (fun c => { c with oldWait := true }) := by
  have hback : (if h.i ∧ h.rv ≠ 0 then some (t, k, h.rv.toNat) else none) = some (t, k, h.rv.toNat) := if_pos hwait
  rw [effOf_counter_op hmn]
  dsimp only
  rw [hback]
  rfl

theorem effOf_counter_op_free (hfree : ¬ (h.i = true ∧ h.rv ≠ 0)) : effOf s t k s ⟨mn, g, .tr h⟩ =
    s.withOp ⟨(s.ctxOf t k).trCounter h, (s.ctxOf t k).trOp mn h, t, some (t, k), none⟩ := by
  have hback : (if h.i ∧ h.rv ≠ 0 then some (t, k, h.rv.toNat) else none) = none := if_neg hfree
  rw [effOf_counter_op hmn]
  dsimp only
  rw [hback]
  rfl

end

/-- An RNWAIT that issues names a counter whose value has met its threshold. -/
theorem State.met_of_issues {s : State} {t k : Nat} {g : Guard} {h : TR} (hg : (s.ctxOf t k).guardS g = true) (hs : s.issues t k ⟨.RNWAIT, g, .tr h⟩) :
    (s.ctxOf t k).trValue h ≤ s.reg .RNT_VALk [(s.ctxOf t k).trCounter h] := by
  have hfault : (if 16383 < (s.ctxOf t k).trCounter h then some fRNTRANGE else none) = none := State.faultOf_of_issues (w := ⟨.RNWAIT, g, .tr h⟩) hg hs
  have hrange : ¬ 16383 < (s.ctxOf t k).trCounter h := fun hbeyond => by
    rw [if_pos hbeyond] at hfault
    cases hfault
  have hwait : (s.ctxOf t k).rnWait [⟨.RNWAIT, g, .tr h⟩] = some ((s.ctxOf t k).trCounter h, (s.ctxOf t k).trValue h) := by simp [Ctx.rnWait, hg]
  obtain ⟨-, -, hfree, -⟩ := hs
  by_contra hunmet
  have hrn : s.rnUnmet t k [⟨.RNWAIT, g, .tr h⟩] = true := by
    simp only [State.rnUnmet, hwait, Bool.and_eq_true, decide_eq_true_eq]
    omega
  unfold State.holdOf at hfree
  dsimp only at hfree
  rw [if_pos hrn] at hfree
  split_ifs at hfree

end Sys2Proof.Machine

open Sys2Proof Sys2Proof.Machine

/-- Settles O21: SEND adds its job to the tile, RNADD and RNSET are `State.withOp`, and an RNWAIT that is not held has met its threshold. -/
theorem sendAndCounterInstructions : Obligations.SendAndCounterInstructions := by
  intro t k g f h s n v hg hn hv
  subst hn hv
  refine ⟨fun hs => ⟨_, exec_issues rfl hs, issueNow_unpending (by decide) hg _ rfl⟩, fun i mn op hrow hs => ?_, fun hs => ?_⟩
  · have hi : i.ralok = some (t, k, ⟨mn, g, .tr h⟩) := by rcases hrow with ⟨rfl, rfl, -⟩ | ⟨rfl, rfl, -⟩ <;> rfl
    have hmn : mn = .RNADD ∨ mn = .RNSET := by
      rcases hrow with ⟨-, hmn, -⟩ | ⟨-, hmn, -⟩
      exacts [.inl hmn, .inr hmn]
    have hslot : mn.slot ≠ 2 ∧ mn ≠ .YIELD ∧ mn ≠ .HALT := by rcases hmn with rfl | rfl <;> decide
    have hop : (s.ctxOf t.val k.val).trOp mn h = op := by rcases hrow with ⟨-, rfl, rfl⟩ | ⟨-, rfl, rfl⟩ <;> rfl
    subst hop
    refine ⟨fun hfree => ⟨_, exec_issues hi hs, issueNow_unpending hslot hg _ (effOf_counter_op_free hmn ?_)⟩,
      fun hon hrv => ⟨_, exec_issues hi hs, issueNow_unpending hslot hg _ (effOf_counter_op_waits hmn ⟨hon, hrv⟩)⟩⟩
    rintro ⟨hon, hrv⟩
    rcases hfree with hoff | hzero
    · rw [hoff] at hon
      cases hon
    · exact hrv hzero
  · exact ⟨State.met_of_issues hg hs, _, exec_issues rfl hs, issueNow_unpending (by decide) hg _ rfl⟩
end

section
/-! SUPPORT. The statement of vector arithmetic and the special functions (R98, R106, R136 to R139). -/

namespace Sys2Proof.Machine
open Sys2Proof

/-! ### What a V-slot instruction has on its way (R106, R139) -/

/-- A write of a V-slot instruction that issues now. -/
def State.vWrite (s : State) (t k : Nat) (mn : Mn) (f : VR) (d : Dst) : PendWr :=
  ⟨(s.tile t).clk + (s.ctxOf t k).vLatency mn f, some (s.tile t).clk, d⟩

/-- The destination of a V-slot instruction but VCMP. -/
def Ctx.vDst (c : Ctx) (mn : Mn) (f : VR) (mask : BitVec 64) (lanes : List Word) : Dst :=
  if f.dm then .row (c.rdA (f.vd.toNat % 16)).toNat (vWidths mn f).1 mask lanes else .v f.vd.toNat mask lanes

/-- The destination with the result `o`. -/
def Ctx.vResult (c : Ctx) (mn : Mn) (f : VR) (o : VOut) : Dst :=
  if mn = .VCMP then .p f.pd.toNat o.mask o.pbits else c.vDst mn f o.mask (o.lanes.map (BitVec.ofNat 32))

/-- Behind its destination: flags, samples and post-increments. -/
def State.vRest (s : State) (t k : Nat) (mn : Mn) (f : VR) (o : VOut) : List PendWr :=
  (if o.fl = 0 then [] else [s.vWrite t k mn f (.flags o.fl)]) ++ o.samples.map (fun p => s.vWrite t k mn f (.sample p.1 p.2)) ++
    (vIncs mn f).map (fun p => s.vWrite t k mn f (.a p.1 ((s.ctxOf t k).postInc p.1 p.2)))

theorem Ctx.foldl_pushV {α : Type} (iss due : Nat) (d : α → Dst) (xs : List α) (c : Ctx) :
    xs.foldl (fun c x => c.pushV iss due (d x)) c = { c with pend := c.pend ++ xs.map (fun x => ⟨due, some iss, d x⟩) } := by
  induction xs generalizing c with
  | nil => rw [List.foldl_nil, List.map_nil, List.append_nil]
  | cons x xs ih =>
    rw [List.foldl_cons, ih, Ctx.pushV, List.map_cons]
    simp only [List.append_assoc, List.singleton_append]

/-- The three destinations are one push. -/
theorem Ctx.pushV_result (c c0 : Ctx) (iss due : Nat) (mn : Mn) (f : VR) (o : VOut) :
    (if mn = .VCMP then c.pushV iss due (.p f.pd.toNat o.mask o.pbits)
      else if f.dm then c.pushV iss due (.row (c0.rdA (f.vd.toNat % 16)).toNat (vWidths mn f).1 o.mask (o.lanes.map (BitVec.ofNat 32)))
      else c.pushV iss due (.v f.vd.toNat o.mask (o.lanes.map (BitVec.ofNat 32)))) = c.pushV iss due (c0.vResult mn f o) := by
  unfold Ctx.vResult Ctx.vDst
  split
  · rfl
  · split <;> rfl

theorem Ctx.pushV_flags (c : Ctx) (iss due fl : Nat) :
    (if fl = 0 then c else c.pushV iss due (.flags fl)) = { c with pend := c.pend ++ if fl = 0 then [] else [⟨due, some iss, .flags fl⟩] } := by
  split
  · rw [List.append_nil]
  · rfl

section
variable {s : State} {t k : Nat} {mn : Mn} {g : Guard} {f : VR}

theorem State.vRest_of_no_samples {o : VOut} (h : o.samples = []) : s.vRest t k mn f o =
    (if o.fl = 0 then [] else [s.vWrite t k mn f (.flags o.fl)]) ++
      (vIncs mn f).map (fun p => s.vWrite t k mn f (.a p.1 ((s.ctxOf t k).postInc p.1 p.2))) := by
  rw [State.vRest, h, List.map_nil, List.append_nil]

theorem effOf_vector (hmask : (s.ctxOf t k).guardMask g ≠ 0) :
    effOf s t k s ⟨mn, g, .vr f⟩ = s.updCtx t k (fun c => { c with
      pend := c.pend ++ s.vWrite t k mn f ((s.ctxOf t k).vResult mn f (s.vCompute t k mn f ((s.ctxOf t k).guardMask g))) ::
        s.vRest t k mn f (s.vCompute t k mn f ((s.ctxOf t k).guardMask g)) }) := by
  change effV s t k mn g f s = _
  unfold effV
  dsimp only
  rw [if_neg hmask]
  generalize s.vCompute t k mn f ((s.ctxOf t k).guardMask g) = o
  refine congrArg (s.setCtx t k) ?_
  dsimp only
  rw [Ctx.pushV_flags, Ctx.pushV_result _ (s.ctxOf t k), Ctx.foldl_pushV, Ctx.foldl_pushV]
  simp only [Ctx.pushV, State.vRest, State.vWrite, List.append_assoc, List.cons_append, List.nil_append]

theorem Ctx.enables_of_guardMask {c : Ctx} {w : RWord} (hslot : w.mn.slot = 2) (hmask : c.guardMask w.g ≠ 0) : c.enables w = true := by
  rw [Ctx.enables, if_pos hslot, bne_iff_ne]
  exact hmask

/-- The issue of a V-slot word with an active lane. -/
theorem issueNow_vector (hslot : mn.slot = 2) (hmask : (s.ctxOf t k).guardMask g ≠ 0) (lock : Bool) :
    IssuedOnly s (s.issueNow t k [⟨mn, g, .vr f⟩] lock) t k ⟨mn, g, .vr f⟩
      (s.vWrite t k mn f ((s.ctxOf t k).vResult mn f (s.vCompute t k mn f ((s.ctxOf t k).guardMask g))) ::
        s.vRest t k mn f (s.vCompute t k mn f ((s.ctxOf t k).guardMask g))) :=
  issueNow_leaves (Ctx.enables_of_guardMask hslot hmask) ⟨fun hmn => (by rw [hmn] at hslot; cases hslot), fun hmn => (by rw [hmn] at hslot; cases hslot)⟩ (effOf_vector hmask) lock

end

/-! ### Lane by lane (R98, R137, R138) -/

theorem testBit_foldl_lor {α : Type} (fl : α → Nat) (xs : List α) (a i : Nat) :
    (xs.foldl (fun a x => Nat.lor a (fl x)) a).testBit i = true ↔ a.testBit i = true ∨ ∃ x ∈ xs, (fl x).testBit i = true := by
  induction xs generalizing a with
  | nil => simp
  | cons x xs ih =>
    have hor : (Nat.lor a (fl x)).testBit i = (a.testBit i || (fl x).testBit i) := Nat.testBit_or a (fl x) i
    rw [List.foldl_cons, ih, hor, Bool.or_eq_true]
    simp only [List.mem_cons, exists_eq_or_imp, or_assoc]

theorem getD_map_range {α : Type} (f : Nat → α) (d : α) {n l : Nat} (hl : l < n) : ((List.range n).map f).getD l d = f l := by
  simp [List.getD, hl]

theorem lanesBy_code (mask : BitVec 64) (res : Nat → LaneRes) {l : Nat} (hl : l < 64) (hact : mask.getLsbD l = true) :
    ((lanesBy mask res).1.map (BitVec.ofNat 32)).getD l 0 = BitVec.ofNat 32 (res l).code := by
  rw [lanesBy, List.map_map, List.map_map, getD_map_range _ _ hl]
  simp [hact]

/-- The flags of the active lanes together. -/
theorem lanesBy_flags (mask : BitVec 64) (res : Nat → LaneRes) (i : Nat) :
    (lanesBy mask res).2.testBit i = true ↔ ∃ l, l < 64 ∧ mask.getLsbD l = true ∧ (res l).fl.testBit i = true := by
  rw [lanesBy, testBit_foldl_lor]
  simp only [Nat.zero_testBit, Bool.false_eq_true, false_or, List.mem_map, List.mem_range]
  constructor
  · rintro ⟨_, ⟨l, hl, rfl⟩, hbit⟩
    split at hbit
    · next hact => exact ⟨l, hl, hact, hbit⟩
    · simp at hbit
  · rintro ⟨l, hl, hact, hbit⟩
    exact ⟨_, ⟨l, hl, rfl⟩, by rw [if_pos hact]; exact hbit⟩

/-- The result of an instruction that works lane by lane. -/
def lanewise (mask : BitVec 64) (res : Nat → LaneRes) : VOut := ⟨mask, (lanesBy mask res).1, 0, (lanesBy mask res).2, []⟩

theorem issueNow_lanewise {s : State} {t k : Nat} {mn : Mn} {g : Guard} {f : VR} {mask : BitVec 64} {res : Nat → LaneRes} (hmn : mn.slot = 2 ∧ mn ≠ .VCMP)
    (hg : mask = (s.ctxOf t k).guardMask g) (hmask : mask ≠ 0) (hres : s.vCompute t k mn f mask = lanewise mask res) (lock : Bool) :
    VIssued s (s.issueNow t k [⟨mn, g, .vr f⟩] lock) t k ⟨mn, g, .vr f⟩ f mask res := by
  subst hg
  obtain ⟨hslot, hcmp⟩ := hmn
  have hissue := issueNow_vector (f := f) hslot hmask lock
  rw [hres, Ctx.vResult, if_neg hcmp, State.vRest_of_no_samples rfl] at hissue
  refine ⟨_, _, ?_, fun l hl hact => lanesBy_code _ res hl hact, fun i => lanesBy_flags _ res i, ?_⟩
  · simp [lanesBy]
  · rw [List.append_assoc, List.singleton_append]
    exact hissue

end Sys2Proof.Machine

open Sys2Proof Sys2Proof.Machine

/-- Settles O22: each of the instructions is `lanewise` over the lane function of its mnemonic. -/
theorem vectorArithmetic : Obligations.VectorArithmetic := by
  intro t k g f s mask hg hmask
  refine ⟨fun i mn hrow hs => ?_, fun hs => ?_, fun hs => ?_, fun i mn hrow hs => ?_⟩
  · have hi : i.ralok = some (t, k, ⟨mn, g, .vr f⟩) := by rcases hrow with ⟨rfl, rfl⟩ | ⟨rfl, rfl⟩ | ⟨rfl, rfl⟩ | ⟨rfl, rfl⟩ <;> rfl
    refine ⟨_, exec_issues hi hs, ?_⟩
    rcases hrow with ⟨-, rfl⟩ | ⟨-, rfl⟩ | ⟨-, rfl⟩ | ⟨-, rfl⟩
    all_goals exact issueNow_lanewise (by decide) hg hmask rfl _
  · exact ⟨_, exec_issues rfl hs, issueNow_lanewise (by decide) hg hmask rfl _⟩
  · exact ⟨_, exec_issues rfl hs, issueNow_lanewise (by decide) hg hmask rfl _⟩
  · have hi : i.ralok = some (t, k, ⟨mn, g, .vr f⟩) := by rcases hrow with ⟨rfl, rfl⟩ | ⟨rfl, rfl⟩ | ⟨rfl, rfl⟩ <;> rfl
    refine ⟨_, exec_issues hi hs, ?_⟩
    rcases hrow with ⟨-, rfl⟩ | ⟨-, rfl⟩ | ⟨-, rfl⟩
    all_goals exact issueNow_lanewise (by decide) hg hmask rfl _
end

section
/-! SUPPORT. The statement of vector conversions, selections, reduction and comparison (R137, R138, R140, R158 to R160). -/

namespace Sys2Proof.Machine
open Sys2Proof

section
variable {s : State} {t k : Nat} {mn : Mn} {f : VR} {o : VOut}

/-- All that a V-slot instruction has on its way is due at its latency point (R106, R136). -/
theorem State.vWrites_due (d : Dst) : ∀ w ∈ s.vWrite t k mn f d :: s.vRest t k mn f o,
    w.due = (s.tile t).clk + (s.ctxOf t k).vLatency mn f ∧ w.vi = some (s.tile t).clk := by
  intro w hw
  rw [State.vRest, List.mem_cons, List.mem_append, List.mem_append] at hw
  rcases hw with rfl | (hw | hw) | hw
  · exact ⟨rfl, rfl⟩
  · split at hw
    · cases hw
    · rw [List.mem_singleton] at hw
      subst hw
      exact ⟨rfl, rfl⟩
  · obtain ⟨p, -, rfl⟩ := List.mem_map.mp hw
    exact ⟨rfl, rfl⟩
  · obtain ⟨p, -, rfl⟩ := List.mem_map.mp hw
    exact ⟨rfl, rfl⟩

/-- The samples on their way are those of the result. -/
theorem State.sample_mem_vRest {c v : Nat} : (∃ w ∈ s.vRest t k mn f o, w.dst = .sample c v) ↔ (c, v) ∈ o.samples := by
  simp only [State.vRest, List.mem_append, List.mem_map]
  constructor
  · rintro ⟨w, (hw | ⟨p, hp, rfl⟩) | ⟨p, -, rfl⟩, hdst⟩
    · split at hw
      · cases hw
      · rw [List.mem_singleton] at hw
        subst hw
        cases hdst
    · cases hdst
      exact hp
    · cases hdst
  · exact fun h => ⟨_, .inl (.inr ⟨_, h, rfl⟩), rfl⟩

theorem Ctx.vResult_of_ne_vcmp (c : Ctx) (h : mn ≠ .VCMP) : c.vResult mn f o = c.vDst mn f o.mask (o.lanes.map (BitVec.ofNat 32)) := if_neg h

end

theorem mem_zipIdx_map_range {α : Type} (h : Nat → α) {n l : Nat} {x : α} :
    (x, l) ∈ ((List.range n).map h).zipIdx ↔ l < n ∧ x = h l := by
  rw [List.mem_zipIdx_iff_getElem?, List.getElem?_map]
  by_cases hl : l < n
  · simp [hl, eq_comm]
  · simp [hl]

/-- A source's elements are the 64 of its lanes. -/
theorem State.vSrc_eq_map_src1 (s : State) (t k : Nat) (mn : Mn) (f : VR) :
    s.vSrc t k f.m1 (if f.m1 then f.vs1.toNat % 16 else f.vs1.toNat) (vWidths mn f).2 = (List.range 64).map (s.src1 t k mn f) := by
  have hlen (isRow : Bool) (i w : Nat) : (s.vSrc t k isRow i w).length = 64 := by cases isRow <;> simp [State.vSrc]
  refine List.ext_getElem (by rw [hlen, List.length_map, List.length_range]) fun l hl _ => ?_
  rw [List.getElem_map, List.getElem_range, State.src1, List.getD_eq_getElem _ _ hl]

/-! ### A mask from its lanes -/

theorem foldl_maskOf (bs : List Bool) (n a : Nat) (ha : a < 2 ^ n) (i : Nat) :
    ((bs.zipIdx n).foldl (fun a p => a + b2n p.1 * 2 ^ p.2) a).testBit i = if i < n then a.testBit i else bs.getD (i - n) false := by
  induction bs generalizing n a with
  | nil =>
    rw [List.zipIdx_nil, List.foldl_nil, List.getD_nil]
    split
    · rfl
    · exact Nat.testBit_lt_two_pow (ha.trans_le (Nat.pow_le_pow_right (by decide) (by omega)))
  | cons b bs ih =>
    have hbit : b2n b < 2 := by cases b <;> decide
    have hnext : a + b2n b * 2 ^ n < 2 ^ (n + 1) := by
      have := Nat.mul_le_mul_right (2 ^ n) (Nat.le_of_lt_succ hbit)
      omega
    rw [List.zipIdx_cons, List.foldl_cons, ih (n + 1) _ hnext, Nat.add_comm a, Nat.mul_comm, Nat.testBit_two_pow_mul_add _ ha]
    rcases Nat.lt_trichotomy i n with hlt | rfl | hgt
    · rw [if_pos (by omega), if_pos hlt, if_pos hlt]
    · rw [if_pos (Nat.lt_succ_self i), if_neg (Nat.lt_irrefl i), if_neg (Nat.lt_irrefl i), Nat.sub_self]
      cases b <;> rfl
    · rw [if_neg (by omega), if_neg (by omega), show i - n = i - (n + 1) + 1 by omega, List.getD_cons_succ]

theorem getLsbD_maskOf (bs : List Bool) {l : Nat} (hl : l < 64) : (maskOf bs).getLsbD l = bs.getD l false := by
  rw [maskOf, BitVec.getLsbD_ofNat, foldl_maskOf bs 0 0 (by decide)]
  simp [hl]

/-! ### The results that are not lane by lane -/

section
variable {s : State} {t k : Nat} {f : VR} {mask : BitVec 64} {chan : Nat → Nat}

/-- The channel of each lane (R158). -/
theorem chan_eq (hchan : ∀ l, chan l = bits f.fn.toNat 9 0 + if f.fn.getLsbD 10 then 0 else l) :
    (fun l => if f.fn.getLsbD 10 then bits f.fn.toNat 9 0 else bits f.fn.toNat 9 0 + l) = chan := by
  funext l
  rw [hchan]
  split <;> rfl

/-- Lane `l` of a VQNT: its code and, with statistics, its sample (R159). -/
def State.quantized (s : State) (t k : Nat) (f : VR) (chan : Nat → Nat) (l : Nat) : LaneRes × Option Nat :=
  laneQnt (tyFmt f.ty.toNat) f.xf.toNat (s.sfEntry t (chan l)) (s.src1 t k .VQNT f l)

/-- The lanes of a VQNT that are active. -/
def State.quantizedLanes (s : State) (t k : Nat) (f : VR) (chan : Nat → Nat) (mask : BitVec 64) : List (Option (LaneRes × Option Nat)) :=
  (List.range 64).map (fun l => if mask.getLsbD l then some (s.quantized t k f chan l) else none)

theorem State.vCompute_vqnt (hchan : ∀ l, chan l = bits f.fn.toNat 9 0 + if f.fn.getLsbD 10 then 0 else l) :
    s.vCompute t k .VQNT f mask = ⟨mask, (s.quantizedLanes t k f chan mask).map (fun r => (r.map (·.1.code)).getD 0), 0,
      (s.quantizedLanes t k f chan mask).foldl (fun x r => Nat.lor x ((r.map (·.1.fl)).getD 0)) 0,
      (s.quantizedLanes t k f chan mask).zipIdx.filterMap (fun p => p.1.bind (fun q => q.2.map (fun v => (chan p.2, v))))⟩ := by
  rw [← chan_eq hchan]
  rfl

theorem State.quantizedLanes_code {l : Nat} (hl : l < 64) (hact : mask.getLsbD l = true) :
    (((s.quantizedLanes t k f chan mask).map (fun r => (r.map (·.1.code)).getD 0)).map (BitVec.ofNat 32)).getD l 0 =
      BitVec.ofNat 32 (s.quantized t k f chan l).1.code := by
  rw [State.quantizedLanes, List.map_map, List.map_map, getD_map_range _ _ hl]
  simp [hact]

theorem State.mem_samples_quantizedLanes {c v : Nat} :
    (c, v) ∈ (s.quantizedLanes t k f chan mask).zipIdx.filterMap (fun p => p.1.bind (fun q => q.2.map (fun v => (chan p.2, v)))) ↔
      ∃ l, l < 64 ∧ mask.getLsbD l = true ∧ chan l = c ∧ (s.quantized t k f chan l).2 = some v := by
  rw [List.mem_filterMap]
  constructor
  · rintro ⟨⟨r, l⟩, hmem, hsome⟩
    rw [State.quantizedLanes, mem_zipIdx_map_range] at hmem
    obtain ⟨hl, rfl⟩ := hmem
    obtain ⟨q, hq, hv⟩ := Option.bind_eq_some_iff.mp hsome
    obtain ⟨v', hv', heq⟩ := Option.map_eq_some_iff.mp hv
    dsimp only at hq heq
    split at hq
    · next hact =>
      cases hq
      cases heq
      exact ⟨l, hl, hact, rfl, hv'⟩
    · cases hq
  · rintro ⟨l, hl, hact, rfl, hv⟩
    refine ⟨(some (s.quantized t k f chan l), l), ?_, ?_⟩
    · rw [State.quantizedLanes, mem_zipIdx_map_range]
      exact ⟨hl, (if_pos hact).symm⟩
    · rw [Option.bind_some, hv, Option.map_some]

/-- Lane `l` of a VCMP: whether the condition holds, and the flags. -/
def State.compared (s : State) (t k : Nat) (f : VR) (l : Nat) : Bool × Nat :=
  laneCmp (bits f.fn.toNat 2 0) f.ty.toNat (s.src1 t k .VCMP f l) (s.src2 t k .VCMP f l)

theorem State.vCompute_vcmp_pbits {l : Nat} (hl : l < 64) (hact : mask.getLsbD l = true) :
    (s.vCompute t k .VCMP f mask).pbits.getLsbD l = (s.compared t k f l).1 := by
  change (maskOf (((List.range 64).map (fun l => if mask.getLsbD l then s.compared t k f l else (false, 0))).map (·.1))).getLsbD l = _
  rw [getLsbD_maskOf _ hl, List.map_map, getD_map_range _ _ hl]
  simp [hact]

theorem State.vCompute_vred : s.vCompute t k .VRED f mask =
    ⟨1, [(laneRed (bits f.fn.toNat 1 0) f.ty.toNat ((List.range 64).map (fun l => mask.getLsbD l)) ((List.range 64).map (s.src1 t k .VRED f))).code], 0,
      (laneRed (bits f.fn.toNat 1 0) f.ty.toNat ((List.range 64).map (fun l => mask.getLsbD l)) ((List.range 64).map (s.src1 t k .VRED f))).fl, []⟩ := by
  rw [← State.vSrc_eq_map_src1]
  rfl

theorem State.vCompute_vcvt : s.vCompute t k .VCVT f mask = lanewise mask
    (fun l => if f.fn.getLsbD 0 then laneCvt f.xf.toNat (tyFmt f.ty.toNat) (s.src1 t k .VCVT f l)
      else laneCvt (tyFmt f.ty.toNat) f.xf.toNat (s.src1 t k .VCVT f l)) := by
  unfold State.vCompute
  dsimp only
  cases f.fn.getLsbD 0 <;> rfl

theorem State.vCompute_vdqnt (hchan : ∀ l, chan l = bits f.fn.toNat 9 0 + if f.fn.getLsbD 10 then 0 else l) :
    s.vCompute t k .VDQNT f mask = lanewise mask
      (fun l => laneDqnt f.xf.toNat (tyFmt f.ty.toNat) (s.sfEntry t (chan l)) (s.src1 t k .VDQNT f l)) := by
  rw [← chan_eq hchan]
  rfl

end

end Sys2Proof.Machine

open Sys2Proof Sys2Proof.Machine

/-- Settles O23: VCVT, VDQNT, VSEL and VPERM are `lanewise`; VQNT adds the samples of its lanes, VRED writes lane 0, and VCMP's predicate is the mask of its comparisons. -/
theorem vectorConversionsAndSelections : Obligations.VectorConversionsAndSelections := by
  intro t k g f s mask chan hg hmask hchan
  refine ⟨fun hs => ?cvt, fun hs => ?dqnt, fun hs => ?qnt, fun hs => ?sel, fun hs => ?perm, fun hs => ?red, fun hs => ?cmp⟩
  case cvt => exact ⟨_, exec_issues rfl hs, issueNow_lanewise (by decide) hg hmask State.vCompute_vcvt _⟩
  case dqnt => exact ⟨_, exec_issues rfl hs, issueNow_lanewise (by decide) hg hmask (State.vCompute_vdqnt hchan) _⟩
  case sel => exact ⟨_, exec_issues rfl hs, issueNow_lanewise (by decide) hg hmask rfl _⟩
  case perm => exact ⟨_, exec_issues rfl hs, issueNow_lanewise (by decide) hg hmask rfl _⟩
  case qnt =>
    subst hg
    obtain ⟨honly, hsame, hyield, hctx⟩ := issueNow_vector (mn := .VQNT) (f := f) rfl hmask _
    refine ⟨_, _, _, exec_issues rfl hs, honly, hyield, hsame, hctx, ⟨(s.vCompute t.val k.val .VQNT f ((s.ctxOf t.val k.val).guardMask g)).lanes.map (BitVec.ofNat 32), ?_, fun l hl hact => ?_⟩, fun c v => ?_, State.vWrites_due _⟩
    · exact Ctx.vResult_of_ne_vcmp _ (show Mn.VQNT ≠ .VCMP by decide)
    · rw [State.vCompute_vqnt hchan]
      exact State.quantizedLanes_code hl hact
    · rw [State.sample_mem_vRest, State.vCompute_vqnt hchan]
      exact State.mem_samples_quantizedLanes
  case red =>
    subst hg
    have hissue := issueNow_vector (mn := .VRED) (f := f) rfl hmask (s.flag .TILE_CTRL (tix t.val) 1)
    rw [State.vCompute_vred, Ctx.vResult_of_ne_vcmp _ (by decide), State.vRest_of_no_samples rfl] at hissue
    refine ⟨_, _, exec_issues rfl hs, rfl, ?_⟩
    rw [List.append_assoc, List.singleton_append]
    exact hissue
  case cmp =>
    subst hg
    obtain ⟨honly, hsame, hyield, hctx⟩ := issueNow_vector (mn := .VCMP) (f := f) rfl hmask _
    exact ⟨_, _, _, exec_issues rfl hs, honly, hyield, hsame, hctx, ⟨_, rfl, fun l hl hact => State.vCompute_vcmp_pbits hl hact⟩, State.vWrites_due _⟩
end

section
/-! SUPPORT. The statement of SEND rows and the regulator (R130, R168, R198, R199). -/

namespace Sys2Proof.Machine
open Sys2Proof

/-! ### What an operation on a counter leaves of a tile -/

/-- Of a tile, a pass over the contexts changes the contexts. -/
theorem State.tile_mapCtx (s : State) (f : Nat → Nat → Ctx → Ctx) (t : Nat) :
    (s.mapCtx f).tile t = { s.tile t with ctx := ((s.mapCtx f).tile t).ctx } := by
  have htile := lookupKey_map (fun t (x : Tile) => { x with ctx := ⟨x.ctx.entries.map (fun (p : Nat × Ctx) => (p.1, f t p.1 p.2))⟩ }) s.tiles.entries t
  unfold State.tile Tab.get Tab.find State.mapCtx
  rw [htile]
  cases lookupKey s.tiles.entries t with
  | none => rfl
  | some x => rfl

/-- Of a tile, an operation on a counter changes the contexts: it wakes waiters (R132). -/
theorem State.tile_counterNow (s : State) (k : Nat) (op : CtrOp) (t : Nat) :
    (s.counterNow k op).tile t = { s.tile t with ctx := ((s.counterNow k op).tile t).ctx } := by
  have htiles : (s.counterOp k op).tile t = s.tile t := by
    rw [State.tile, (s.onlyHighRegs_counterOp k op).only]
    rfl
  rw [← htiles]
  exact State.tile_mapCtx ..

/-- What an update keeps of the tile it changes, it keeps of every tile. -/
theorem State.tile_updTile_keeps {α : Type} {p : Tile → α} {f : Tile → Tile} (h : ∀ x, p (f x) = p x) (s : State) (t x : Nat) :
    p ((s.updTile t f).tile x) = p (s.tile x) := by
  by_cases hx : x = t
  · rw [hx, State.tile_updTile_same, h]
  · rw [State.tile_updTile_ne hx]

/-! ### A row of a SEND arrives -/

/-- A row arrives in the scratchpad, whole: it is poisoned where the row it was copied from was (R130, R196). -/
def Tile.rowArrived (po : Bool) (row : Nat) (x : Tile) : Tile := (if po then x.markPoison row else x.clearPoisonRow row).setLanded row

theorem Tile.rowArrived_sends (po : Bool) (row : Nat) (x : Tile) : (x.rowArrived po row).sends = x.sends := by
  unfold Tile.rowArrived Tile.markPoison
  cases po
  · rfl
  · rw [if_pos rfl]
    by_cases h : x.poison.contains row = true
    · rw [if_pos h]
      rfl
    · rw [if_neg h]
      rfl

theorem Tile.not_mem_unlanded_rowArrived (po : Bool) (row : Nat) (x : Tile) : row ∉ (x.rowArrived po row).unlanded := by
  simp [Tile.rowArrived, Tile.setLanded]

theorem Tile.mem_poison_rowArrived (po : Bool) (row : Nat) (x : Tile) : row ∈ (x.rowArrived po row).poison ↔ po = true := by
  cases po
  · simp [Tile.rowArrived, Tile.setLanded, Tile.clearPoisonRow]
  · by_cases h : row ∈ x.poison <;> simp [Tile.rowArrived, Tile.setLanded, Tile.markPoison, h]

/-- The tile's oldest SEND has read its next row. -/
def State.sendTaken (s : State) (t : Nat) (j : SendJob) (rest : List SendJob) : State :=
  s.updTile t (fun x => { x with sends := if j.left ≤ 1 then rest else { j with src := j.src + 256, dst := j.dst + 256, left := j.left - 1 } :: rest })

/-- The target takes rows of the SEND (R130, R168). -/
def State.takesSend (s : State) (j : SendJob) : Prop := (s.tile j.tgt).ready = true ∧ s.jobOf j.tgt = some j.jid ∧ (s.tile j.tgt).killed = false

/-- The row is copied from tile `t` to the SEND's target, where it lands; the SEND's counter is not counted yet. -/
def State.sendCopied (s : State) (t : Nat) (j : SendJob) (rest : List SendJob) : State :=
  ((s.sendTaken t j rest).spWr j.tgt j.dst (s.spRd t j.src 256)).updTile j.tgt
    (Tile.rowArrived ((s.tile t).poison.contains (j.src / 256)) (j.dst / 256))

section
variable {s : State} {t : Nat} {j : SendJob} {rest : List SendJob}

theorem State.tile_sendTaken_ne {x : Nat} (hx : x ≠ t) : (s.sendTaken t j rest).tile x = s.tile x := State.tile_updTile_ne hx ..

theorem State.takesSend_iff_taken : s.takesSend j ↔
    ((s.sendTaken t j rest).tile j.tgt).ready = true ∧ s.jobOf j.tgt = some j.jid ∧ (!((s.sendTaken t j rest).tile j.tgt).killed) = true := by
  unfold State.takesSend State.sendTaken
  rw [State.tile_updTile_keeps (p := Tile.ready), State.tile_updTile_keeps (p := Tile.killed), Bool.not_eq_true']
  · exact fun _ => rfl
  · exact fun _ => rfl

theorem State.sendRowArrival_waits (hsends : (s.tile t).sends = j :: rest) (hwait : (s.tile t).clk ≤ j.iss) : s.sendRowArrival t = s := by
  simp only [State.sendRowArrival, hsends, hwait, true_or, if_true]

theorem State.sendRowArrival_reads (hsends : (s.tile t).sends = j :: rest) (hdue : j.iss < (s.tile t).clk) (hspare : s.spareHolds j.tgt = false) :
    s.sendRowArrival t =
      if ((s.sendTaken t j rest).tile j.tgt).ready = true ∧ s.jobOf j.tgt = some j.jid ∧ (!((s.sendTaken t j rest).tile j.tgt).killed) = true then
        (s.sendCopied t j rest).counterNow j.cnt (.add 1)
      else (s.sendTaken t j rest).satInc .CLU_SENDDROP [clusterOf j.tgt] 31 0 1 := by
  have hgo : ¬ ((s.tile t).clk ≤ j.iss ∨ s.spareHolds j.tgt = true) := by simp [hspare, hdue]
  simp only [State.sendRowArrival, hsends, hgo, if_false]
  rfl

theorem State.sendRowArrival_arrives (hsends : (s.tile t).sends = j :: rest) (hdue : j.iss < (s.tile t).clk) (hspare : s.spareHolds j.tgt = false)
    (htakes : s.takesSend j) : s.sendRowArrival t = (s.sendCopied t j rest).counterNow j.cnt (.add 1) := by
  rw [State.sendRowArrival_reads hsends hdue hspare, if_pos (State.takesSend_iff_taken.mp htakes)]

theorem State.sendRowArrival_drops (hsends : (s.tile t).sends = j :: rest) (hdue : j.iss < (s.tile t).clk) (hspare : s.spareHolds j.tgt = false)
    (htakes : ¬ s.takesSend j) : s.sendRowArrival t = (s.sendTaken t j rest).satInc .CLU_SENDDROP [clusterOf j.tgt] 31 0 1 := by
  rw [State.sendRowArrival_reads hsends hdue hspare, if_neg (fun h => htakes (State.takesSend_iff_taken.mpr h))]

theorem State.tile_sendCopied_target : (s.sendCopied t j rest).tile j.tgt =
    ((s.sendTaken t j rest).tile j.tgt).rowArrived ((s.tile t).poison.contains (j.src / 256)) (j.dst / 256) := State.tile_updTile_same ..

theorem State.sends_sendCopied : ((s.sendCopied t j rest).tile t).sends =
    if j.left ≤ 1 then rest else { j with src := j.src + 256, dst := j.dst + 256, left := j.left - 1 } :: rest :=
  (State.tile_updTile_keeps (p := Tile.sends) (Tile.rowArrived_sends _ _) ..).trans (congrArg Tile.sends (s.tile_updTile_same t (fun x => { x with
    sends := if j.left ≤ 1 then rest else { j with src := j.src + 256, dst := j.dst + 256, left := j.left - 1 } :: rest })))

theorem State.mem_sendCopied : (s.sendCopied t j rest).mem = s.mem.wrBytes (spadBase j.tgt + j.dst) (s.mem.rdBytes (spadBase t + j.src) 256) := by
  simp only [State.sendCopied, State.spWr, State.spRd, State.sendTaken, State.updTile_mem]

/-- The row lands, and the counter is incremented (R130). -/
theorem State.sendRowArrival_lands (hw : s.regs.wf = true) (hcnt : j.cnt < 16384) (h : s.sendRowArrival t = (s.sendCopied t j rest).counterNow j.cnt (.add 1)) :
    (s.sendRowArrival t).mem = s.mem.wrBytes (spadBase j.tgt + j.dst) (s.mem.rdBytes (spadBase t + j.src) 256) ∧
      (s.sendRowArrival t).reg .RNT_VALk [j.cnt] = (s.reg .RNT_VALk [j.cnt] + 1) % 2 ^ 32 ∧
      j.dst / 256 ∉ ((s.sendRowArrival t).tile j.tgt).unlanded ∧
      (j.dst / 256 ∈ ((s.sendRowArrival t).tile j.tgt).poison ↔ j.src / 256 ∈ (s.tile t).poison) ∧
      ((s.sendRowArrival t).tile t).sends =
        if j.left ≤ 1 then rest else { j with src := j.src + 256, dst := j.dst + 256, left := j.left - 1 } :: rest := by
  rw [h]
  refine ⟨?_, ?_, ?_, ?_, ?_⟩
  · rw [State.counterNow_mem, State.mem_sendCopied]
  · exact State.reg_counterNow (s := s.sendCopied t j rest) hw hcnt (.add 1)
  · rw [State.tile_counterNow, State.tile_sendCopied_target]
    exact Tile.not_mem_unlanded_rowArrived _ _ _
  · rw [State.tile_counterNow, State.tile_sendCopied_target]
    exact (Tile.mem_poison_rowArrived ..).trans List.contains_iff_mem
  · rw [State.tile_counterNow]
    exact State.sends_sendCopied

/-- A counter of 32 bits counts one more, up to its largest value. -/
theorem State.reg_satInc_word {s : State} (hw : s.regs.wf = true) (r : Reg) (is : List Nat) :
    (s.satInc r is 31 0 1).reg r is = min (s.reg r is + 1) (2 ^ 32 - 1) := by
  have hfld (u : State) : u.fld r is 31 0 = u.reg r is := by
    rw [State.fld, bits, Nat.pow_zero, Nat.div_one]
    exact Nat.mod_eq_of_lt (u.reg_lt r is)
  have hcount := State.fld_satInc_same hw r is (hi := 31) (by decide) 0 1
  rwa [hfld, hfld] at hcount

end

/-! ### The regulator (R198, R199) -/

/-- One bucket of the regulator refills, as the model does it. -/
def State.refillBucket (s : State) (cfgR lvlR : Reg) (i u : Nat) : State :=
  if bits (s.reg cfgR [i]) 15 8 < bits (s.reg cfgR [i]) 7 0 then
    (s.setReg lvlR [i] (refilled (s.reg cfgR [i]) (s.reg lvlR [i]) u)).satInc .FAB_REGMIS [] 31 0 1
  else s.setReg lvlR [i] (refilled (s.reg cfgR [i]) (s.reg lvlR [i]) u)

theorem State.regulatorRefill_eq (s : State) (c : Nat) : s.regulatorRefill c =
    (foldState (fun s l => s.refillBucket .FAB_TREGg .FAB_TLVLg (32 * c + l) 512) s (upTo 32)).refillBucket .FAB_CREGc .FAB_CLVLc c 16384 := rfl

/-- A level fits its register: BURST has 8 bits. -/
theorem refilled_lt {cfg level u : Nat} (hu : u ≤ 16384) : refilled cfg level u < 2 ^ 32 := by
  have hburst : bits cfg 15 8 < 2 ^ 8 := bits_lt ..
  have hle := Nat.mul_le_mul (Nat.succ_le_of_lt hburst) hu
  exact (Nat.min_le_right ..).trans_lt (hle.trans_lt (by decide))

section
variable {s : State} {cfgR lvlR : Reg} {i u : Nat}

theorem State.wf_refillBucket (hw : s.regs.wf = true) : (s.refillBucket cfgR lvlR i u).regs.wf = true := by
  unfold State.refillBucket
  split
  · exact State.wf_satInc (State.wf_setReg hw ..) ..
  · exact State.wf_setReg hw ..

theorem State.onlyRegs_refillBucket : OnlyRegs s (s.refillBucket cfgR lvlR i u) [lvlR.adr [i], Reg.adr .FAB_REGMIS []] := by
  obtain ⟨hregs, hkeep⟩ := s.onlyRegs_setReg lvlR [i] (refilled (s.reg cfgR [i]) (s.reg lvlR [i]) u)
  unfold State.refillBucket
  split
  · exact .trans ⟨hregs, hkeep⟩ (State.onlyRegs_satInc ..)
  · exact ⟨hregs, fun a ha => hkeep a (fun h => ha (List.mem_append_left _ h))⟩

/-- The level gains its RATE and is full at its BURST; a count in REGMIS leaves it. -/
theorem State.reg_refillBucket (hw : s.regs.wf = true) (hu : u ≤ 16384) (hmis : lvlR.adr [i] ≠ Reg.adr .FAB_REGMIS []) :
    (s.refillBucket cfgR lvlR i u).reg lvlR [i] = refilled (s.reg cfgR [i]) (s.reg lvlR [i]) u := by
  have hlevel := State.reg_setReg_same hw lvlR [i] (refilled (s.reg cfgR [i]) (s.reg lvlR [i]) u)
  rw [Nat.mod_eq_of_lt (refilled_lt hu)] at hlevel
  unfold State.refillBucket
  split
  · obtain ⟨-, hkeep⟩ := State.onlyRegs_satInc (s.setReg lvlR [i] (refilled (s.reg cfgR [i]) (s.reg lvlR [i]) u)) .FAB_REGMIS [] 31 0 1
    exact (State.reg_congr (hkeep _ (by simpa using hmis))).trans hlevel
  · exact hlevel

end

theorem adr_tlvl_ne {i j : Nat} (h : j ≠ i) : Reg.adr .FAB_TLVLg [j] ≠ Reg.adr .FAB_TLVLg [i] := by
  change 0x410400 + 4 * j ≠ 0x410400 + 4 * i
  omega

theorem adr_tlvl_ne_regmis (i : Nat) : Reg.adr .FAB_TLVLg [i] ≠ Reg.adr .FAB_REGMIS [] := by
  change 0x410400 + 4 * i ≠ 0x410300
  omega

theorem adr_clvl_ne_regmis (c : Nat) : Reg.adr .FAB_CLVLc [c] ≠ Reg.adr .FAB_REGMIS [] := by
  change 0x410600 + 4 * c ≠ 0x410300
  omega

/-- The addresses that are no tile bucket's level in cluster `c`, nor REGMIS. -/
def besideTileLevels (c a : Nat) : Prop := (∀ l, l < 32 → a ≠ Reg.adr .FAB_TLVLg [32 * c + l]) ∧ a ≠ Reg.adr .FAB_REGMIS []

theorem besideTileLevels_treg {c i : Nat} (hi : i < 128) : besideTileLevels c (Reg.adr .FAB_TREGg [i]) := by
  constructor
  · intro l _
    change 0x410000 + 4 * i ≠ 0x410400 + 4 * (32 * c + l)
    omega
  · change 0x410000 + 4 * i ≠ 0x410300
    omega

theorem besideTileLevels_creg {c : Nat} (hc : c < 4) : besideTileLevels c (Reg.adr .FAB_CREGc [c]) := by
  constructor
  · intro l _
    change 0x410200 + 4 * c ≠ 0x410400 + 4 * (32 * c + l)
    omega
  · change 0x410200 + 4 * c ≠ 0x410300
    omega

theorem besideTileLevels_clvl {c : Nat} (hc : c < 4) : besideTileLevels c (Reg.adr .FAB_CLVLc [c]) := by
  constructor
  · intro l hl
    change 0x410600 + 4 * c ≠ 0x410400 + 4 * (32 * c + l)
    omega
  · exact adr_clvl_ne_regmis c

/-- What the refill of tile buckets keeps. -/
structure TileBucketsRefilled (s u : State) (c : Nat) : Prop where
  only : u = { s with regs := u.regs }
  wf : u.regs.wf = true
  kept : ∀ a, besideTileLevels c a → u.rg a = s.rg a

theorem TileBucketsRefilled.step {s u : State} {c l : Nat} (h : TileBucketsRefilled s u c) (hl : l < 32) :
    TileBucketsRefilled s (u.refillBucket .FAB_TREGg .FAB_TLVLg (32 * c + l) 512) c := by
  obtain ⟨honly, hkeep⟩ := State.onlyRegs_refillBucket (s := u) (cfgR := .FAB_TREGg) (lvlR := .FAB_TLVLg) (i := 32 * c + l) (u := 512)
  refine ⟨by rw [honly, h.only], State.wf_refillBucket h.wf, fun a ha => (hkeep a ?_).trans (h.kept a ha)⟩
  obtain ⟨hlevels, hmis⟩ := ha
  simp [hlevels l hl, hmis]

/-- Every tile bucket of the cluster refills; the others' turns leave a bucket as it is (R198). -/
theorem State.tileBucketsRefilled {s : State} (hw : s.regs.wf = true) {c : Nat} (hc : c < 4) {u : State}
    (hu : u = foldState (fun s l => s.refillBucket .FAB_TREGg .FAB_TLVLg (32 * c + l) 512) s (upTo 32)) :
    TileBucketsRefilled s u c ∧ ∀ l, l < 32 →
      u.reg .FAB_TLVLg [32 * c + l] = refilled (s.reg .FAB_TREGg [32 * c + l]) (s.reg .FAB_TLVLg [32 * c + l]) 512 := by
  subst hu
  refine foldState_upTo (ok := (TileBucketsRefilled s · c)) (view := fun l u => u.reg .FAB_TLVLg [32 * c + l])
    (R := fun l old new => new = refilled (s.reg .FAB_TREGg [32 * c + l]) old 512) (fun v l hl hv => hv.step hl) (fun v l hl hv => ?_)
    (fun v l l' hl _ hne hv => ?_) ⟨rfl, hw, fun _ _ => rfl⟩
  · rw [State.reg_refillBucket hv.wf (by decide) (adr_tlvl_ne_regmis _), State.reg_congr (hv.kept _ (besideTileLevels_treg (by omega)))]
  · obtain ⟨-, hkeep⟩ := State.onlyRegs_refillBucket (s := v) (cfgR := .FAB_TREGg) (lvlR := .FAB_TLVLg) (i := 32 * c + l) (u := 512)
    exact State.reg_congr (hkeep _ (by simp [adr_tlvl_ne (show 32 * c + l' ≠ 32 * c + l by omega), adr_tlvl_ne_regmis]))

/-- The cluster's bucket refills behind those of its tiles. -/
theorem State.regulatorRefill_spec {s : State} (hw : s.regs.wf = true) {c : Nat} (hc : c < 4) :
    s.regulatorRefill c = { s with regs := (s.regulatorRefill c).regs } ∧
      (∀ l, l < 32 → (s.regulatorRefill c).reg .FAB_TLVLg [32 * c + l] =
        refilled (s.reg .FAB_TREGg [32 * c + l]) (s.reg .FAB_TLVLg [32 * c + l]) 512) ∧
      (s.regulatorRefill c).reg .FAB_CLVLc [c] = refilled (s.reg .FAB_CREGc [c]) (s.reg .FAB_CLVLc [c]) 16384 ∧
      ∀ a, besideTileLevels c a → a ≠ Reg.adr .FAB_CLVLc [c] → (s.regulatorRefill c).rg a = s.rg a := by
  rw [State.regulatorRefill_eq]
  generalize hu : foldState (fun s l => s.refillBucket .FAB_TREGg .FAB_TLVLg (32 * c + l) 512) s (upTo 32) = u
  obtain ⟨hrest, hlevels⟩ := State.tileBucketsRefilled hw hc hu.symm
  obtain ⟨honly, hkeep⟩ := State.onlyRegs_refillBucket (s := u) (cfgR := .FAB_CREGc) (lvlR := .FAB_CLVLc) (i := c) (u := 16384)
  refine ⟨by rw [honly, hrest.only], fun l hl => ?_, ?_, fun a ha hne => (hkeep a ?_).trans (hrest.kept a ha)⟩
  · have hne : Reg.adr .FAB_TLVLg [32 * c + l] ≠ Reg.adr .FAB_CLVLc [c] := fun h => (besideTileLevels_clvl hc).1 l hl h.symm
    rw [State.reg_congr (hkeep _ (by simp [hne, adr_tlvl_ne_regmis])), hlevels l hl]
  · rw [State.reg_refillBucket hrest.wf (by decide) (adr_clvl_ne_regmis c), State.reg_congr (hrest.kept _ (besideTileLevels_creg hc)),
      State.reg_congr (hrest.kept _ (besideTileLevels_clvl hc))]
  · simp [hne, ha.2]

/-! ### The commands -/

theorem exec_sendRowArrival {s : State} {t : TileId} (h : s.clocked t.val) : exec (.sendRowArrival t) s = .next (s.sendRowArrival t.val) :=
  liveIn_clocked h (·.sendRowArrival t.val)

theorem exec_regulatorRefill {s : State} (hup : s.up = true) (c : Fin 4) : exec (.regulatorRefill c) s = .next (s.regulatorRefill c.val) :=
  congrArg Host.Outcome.next (if_pos hup)

end Sys2Proof.Machine

open Sys2Proof Sys2Proof.Machine

/-- Settles O29: a row waits, lands or is dropped; the buckets refill one after the other, each apart from the rest. -/
theorem sendRowsAndRegulators : Obligations.SendRowsAndRegulators := by
  refine ⟨fun t s j rest hclk hinv _ hsends hspare => ⟨fun hwait => ?waits, fun hdue hready hjob hkilled hcnt => ?lands, fun hdue hno => ?drops⟩,
    fun c s hup hinv => ?refill⟩
  case waits => rw [exec_sendRowArrival hclk, State.sendRowArrival_waits hsends hwait]
  case lands =>
    obtain ⟨-, hw, -⟩ := hinv
    obtain ⟨hmem, hcount, hlanded, hpoison, hleft⟩ :=
      State.sendRowArrival_lands hw hcnt (State.sendRowArrival_arrives hsends hdue hspare ⟨hready, hjob, hkilled⟩)
    exact ⟨_, exec_sendRowArrival hclk, hmem, hcount, hlanded, hpoison, fun h => by rw [hleft, if_pos h], fun h => by rw [hleft, if_neg (by omega)]⟩
  case drops =>
    obtain ⟨-, hw, -⟩ := hinv
    have htakes : ¬ s.takesSend j := by
      rintro ⟨hready, hjob, hkilled⟩
      rcases hno with h | h | h
      · rw [hready] at h
        cases h
      · exact h hjob
      · rw [hkilled] at h
        cases h
    refine ⟨_, exec_sendRowArrival hclk, ?_⟩
    rw [State.sendRowArrival_drops hsends hdue hspare htakes]
    obtain ⟨-, hkeep⟩ := State.onlyRegs_satInc (s.sendTaken t.val j rest) .CLU_SENDDROP [clusterOf j.tgt] 31 0 1
    exact ⟨rfl, State.reg_satInc_word (s := s.sendTaken t.val j rest) hw _ _, fun a ha => hkeep a (by simpa using ha), fun x hx => State.tile_sendTaken_ne hx⟩
  case refill =>
    obtain ⟨-, hw, -⟩ := hinv
    obtain ⟨honly, htiles, hcluster, hkeep⟩ := State.regulatorRefill_spec hw c.isLt
    exact ⟨_, exec_regulatorRefill hup c, honly, htiles, hcluster, fun a hlevels hclvl hmis => hkeep a ⟨hlevels, hmis⟩ hclvl⟩
end

section
/-! SUPPORT. The statement of scale loads and of the statistics registers (R151, R152, R162). -/

namespace Sys2Proof.Machine
open Sys2Proof

/-! ### Registers of the scale file, of its loader and of the statistics -/

theorem adr_sfLo (t j : Nat) : Reg.adr .TILE_SFj_LO (tix t ++ [j]) = 0x2102000 + 0x1000000 * (t / 34) + 0x10000 * (t % 34) + 0x8 * j := rfl
theorem adr_sfHi (t j : Nat) : Reg.adr .TILE_SFj_HI (tix t ++ [j]) = 0x2102004 + 0x1000000 * (t / 34) + 0x10000 * (t % 34) + 0x8 * j := rfl
theorem adr_sfldLo (t : Nat) : Reg.adr .TILE_SFLD_LO (tix t) = 0x2100300 + 0x1000000 * (t / 34) + 0x10000 * (t % 34) := rfl
theorem adr_sfldHi (t : Nat) : Reg.adr .TILE_SFLD_HI (tix t) = 0x2100304 + 0x1000000 * (t / 34) + 0x10000 * (t % 34) := rfl
theorem adr_sfldCtl (t : Nat) : Reg.adr .TILE_SFLD_CTL (tix t) = 0x2100308 + 0x1000000 * (t / 34) + 0x10000 * (t % 34) := rfl
theorem adr_statSum (t j : Nat) : Reg.adr .TILE_STATj_SUM (tix t ++ [j]) = 0x2104000 + 0x1000000 * (t / 34) + 0x10000 * (t % 34) + 0x8 * j := rfl
theorem adr_statCnt (t j : Nat) : Reg.adr .TILE_STATj_CNT (tix t ++ [j]) = 0x2104004 + 0x1000000 * (t / 34) + 0x10000 * (t % 34) + 0x8 * j := rfl

/-! ### A GO write (R152) -/

theorem State.regWrite_sfldCtl (s : State) (ini : Initiator) (t d : Nat) :
    s.regWrite ini .TILE_SFLD_CTL (tix t) (Reg.adr .TILE_SFLD_CTL (tix t)) (putBits d 31 31 1) =
      (s.stored .TILE_SFLD_CTL (tix t) (putBits d 31 31 1)).startScaleLoad t := by
  have hgo : bit (putBits d 31 31 1) 31 = true := bit_putBits_same d 31 true
  rw [State.regWrite_plain (by decide) (by decide) (by decide)]
  refine (if_pos hgo).trans ?_
  rw [tix_slot]
  rfl

section
variable {s : State} (hw : s.regs.wf = true) (t d : Nat)
include hw

/-- The fields of the request take the data. -/
theorem State.fld_stored_sfldCtl {hi : Nat} (hhi : hi < 27) (lo : Nat) :
    (s.stored .TILE_SFLD_CTL (tix t) d).fld .TILE_SFLD_CTL (tix t) hi lo = bits d hi lo := by
  have hwritten : ∀ i, i < 27 → writtenBit (Reg.desc .TILE_SFLD_CTL) 0x7ffffff (s.reg .TILE_SFLD_CTL (tix t)) d i = d.testBit i := by
    intro i hi
    have hrw : (0x7ffffff : Nat).testBit i = true := by
      rw [show (0x7ffffff : Nat) = 2 ^ 27 - 1 from rfl, Nat.testBit_two_pow_sub_one]
      exact decide_eq_true hi
    have hw1c : (0x20000000 : Nat).testBit i = false := by
      rw [show (0x20000000 : Nat) = 2 ^ 29 from rfl, Nat.testBit_two_pow]
      exact decide_eq_false (by omega)
    simp [writtenBit, Reg.desc, hrw, hw1c]
  apply Nat.eq_of_testBit_eq
  intro i
  rw [State.fld, testBit_bits, testBit_bits]
  by_cases hi' : i < hi + 1 - lo
  · rw [State.testBit_reg_stored hw _ _ _ (by omega)]
    exact congrArg _ (hwritten (lo + i) (by omega))
  · rw [decide_eq_false hi', Bool.false_and, Bool.false_and]

/-- BUSY is no field that a write changes. -/
theorem State.busy_stored_sfldCtl : (s.stored .TILE_SFLD_CTL (tix t) d).flag .TILE_SFLD_CTL (tix t) 30 = s.flag .TILE_SFLD_CTL (tix t) 30 := by
  have hrw : s.writable .TILE_SFLD_CTL (tix t) = 2 ^ 27 - 1 := rfl
  have hw1c : (0x20000000 : Nat).testBit 30 = false := by decide
  rw [State.flag_stored hw _ _ _ (by decide), State.flag, bit_eq, hrw]
  simp only [writtenBit, Reg.desc, hw1c, Nat.testBit_two_pow_sub_one]
  simp

end

/-- The write leaves the address of the load as it was. -/
theorem State.sfldAddress_stored_ctl (s : State) (t d : Nat) :
    (s.stored .TILE_SFLD_CTL (tix t) d).reg64 .TILE_SFLD_LO .TILE_SFLD_HI (tix t) = s.reg64 .TILE_SFLD_LO .TILE_SFLD_HI (tix t) := by
  rw [State.reg64, State.reg_stored_ne (by rw [adr_sfldLo, adr_sfldCtl]; omega), State.reg_stored_ne (by rw [adr_sfldHi, adr_sfldCtl]; omega)]
  rfl

theorem State.startScaleLoad_busy {s : State} {t : Nat} (h : s.flag .TILE_SFLD_CTL (tix t) 30 = true) : s.startScaleLoad t = s := if_pos h

/-- TILE_SFLD_CTL asks for entries that the scale file has. -/
def State.loadFits (s : State) (t : Nat) : Prop :=
  s.fld .TILE_SFLD_CTL (tix t) 20 10 ≠ 0 ∧ s.fld .TILE_SFLD_CTL (tix t) 9 0 + s.fld .TILE_SFLD_CTL (tix t) 20 10 ≤ 1024

/-- The load that TILE_SFLD_CTL asks for, before its first fetch. -/
def State.loadAsked (s : State) (t : Nat) : ScaleLoad :=
  ⟨s.fld .TILE_SFLD_CTL (tix t) 26 21, s.reg64 .TILE_SFLD_LO .TILE_SFLD_HI (tix t), s.fld .TILE_SFLD_CTL (tix t) 9 0,
    s.fld .TILE_SFLD_CTL (tix t) 20 10, 0, 0, []⟩

section
variable {s : State} {t : Nat} (hidle : s.flag .TILE_SFLD_CTL (tix t) 30 = false)
include hidle

theorem State.startScaleLoad_refused (h : ¬ s.loadFits t) : s.startScaleLoad t = s.setFlag .TILE_SFLD_CTL (tix t) 29 true := by
  have hbad : s.fld .TILE_SFLD_CTL (tix t) 20 10 = 0 ∨ 1024 < s.fld .TILE_SFLD_CTL (tix t) 9 0 + s.fld .TILE_SFLD_CTL (tix t) 20 10 := by
    unfold State.loadFits at h
    omega
  exact (if_neg (by rw [hidle]; exact Bool.false_ne_true)).trans (if_pos hbad)

theorem State.startScaleLoad_starts (h : s.loadFits t) :
    s.startScaleLoad t = (s.setFlag .TILE_SFLD_CTL (tix t) 30 true).updTile t (fun x => { x with load := some (s.loadAsked t) }) := by
  obtain ⟨hcount, hlast⟩ := h
  exact (if_neg (by rw [hidle]; exact Bool.false_ne_true)).trans (if_neg (by omega))

/-- A request that does not fit sets ERR and starts nothing. -/
theorem State.startScaleLoad_refused_spec (hw : s.regs.wf = true) (h : ¬ s.loadFits t) :
    (s.startScaleLoad t).flag .TILE_SFLD_CTL (tix t) 29 = true ∧ (s.startScaleLoad t).flag .TILE_SFLD_CTL (tix t) 30 = false ∧
      s.startScaleLoad t = { s with regs := (s.startScaleLoad t).regs } := by
  rw [State.startScaleLoad_refused hidle h]
  exact ⟨State.flag_setFlag_same hw _ _ (by decide) true, (State.flag_setFlag_ne hw _ _ (by decide) (by decide) true).trans hidle, (s.onlyRegs_setReg ..).1⟩

/-- A request that fits sets BUSY, and its load stands at the tile. -/
theorem State.startScaleLoad_starts_spec (hw : s.regs.wf = true) (h : s.loadFits t) :
    (s.startScaleLoad t).flag .TILE_SFLD_CTL (tix t) 30 = true ∧
      s.startScaleLoad t = { s with regs := (s.startScaleLoad t).regs, tiles := (s.startScaleLoad t).tiles } ∧
      (s.startScaleLoad t).tile t = { s.tile t with load := some (s.loadAsked t) } ∧ ∀ x, x ≠ t → (s.startScaleLoad t).tile x = s.tile x := by
  rw [State.startScaleLoad_starts hidle h]
  refine ⟨?_, ?_, ?_, fun x hx => ?_⟩
  · rw [State.flag, State.reg_updTile]
    exact State.flag_setFlag_same hw _ _ (by decide) true
  · obtain ⟨honly, -⟩ := s.onlyRegs_setReg .TILE_SFLD_CTL (tix t) (putBits (s.reg .TILE_SFLD_CTL (tix t)) 30 30 (b2n true))
    rw [State.setFlag, State.setFld]
    generalize s.setReg .TILE_SFLD_CTL (tix t) (putBits (s.reg .TILE_SFLD_CTL (tix t)) 30 30 (b2n true)) = v at honly
    rw [honly]
    rfl
  · rw [State.tile_updTile_same, State.tile_setFlag]
  · rw [State.tile_updTile_ne hx, State.tile_setFlag]

end

/-- A request fits by the fields of the data of its GO write. -/
theorem State.loadFits_stored {s : State} (hw : s.regs.wf = true) (t d : Nat) :
    (s.stored .TILE_SFLD_CTL (tix t) (putBits d 31 31 1)).loadFits t ↔ bits d 20 10 ≠ 0 ∧ bits d 9 0 + bits d 20 10 ≤ 1024 := by
  unfold State.loadFits
  rw [State.fld_stored_sfldCtl hw _ _ (by decide), State.fld_stored_sfldCtl hw _ _ (by decide), bits_putBits_ne (by decide), bits_putBits_ne (by decide)]

theorem State.loadAsked_stored {s : State} (hw : s.regs.wf = true) (t d : Nat) :
    (s.stored .TILE_SFLD_CTL (tix t) (putBits d 31 31 1)).loadAsked t =
      ⟨bits d 26 21, s.reg64 .TILE_SFLD_LO .TILE_SFLD_HI (tix t), bits d 9 0, bits d 20 10, 0, 0, []⟩ := by
  unfold State.loadAsked
  rw [State.sfldAddress_stored_ctl, State.fld_stored_sfldCtl hw _ _ (by decide), State.fld_stored_sfldCtl hw _ _ (by decide),
    State.fld_stored_sfldCtl hw _ _ (by decide), bits_putBits_ne (by decide), bits_putBits_ne (by decide), bits_putBits_ne (by decide)]

/-! ### The end of a load (R152) -/

theorem State.endLoad_done (s : State) (t : Nat) : s.endLoad t false = (s.updTile t Tile.unloaded).setFlag .TILE_SFLD_CTL (tix t) 30 false := rfl

/-- A load that ends has written no register but that of the loader. -/
theorem State.tileWorked_endLoad (s : State) (t : Nat) (err : Bool) : TileWorked s (s.endLoad t err) t (· ≠ Reg.adr .TILE_SFLD_CTL (tix t)) := by
  have hdone : TileWorked s (s.endLoad t false) t (· ≠ Reg.adr .TILE_SFLD_CTL (tix t)) :=
    (s.tileWorked_updTile t Tile.unloaded _).trans (State.tileWorked_setReg (fun _ => id) _ t _)
  cases err
  case false => exact hdone
  case true => exact hdone.trans (State.tileWorked_setReg (fun _ => id) _ t _)

theorem State.tile_endLoad (s : State) (t : Nat) (err : Bool) : (s.endLoad t err).tile t = (s.tile t).unloaded := by
  cases err
  case false => rw [State.endLoad_done, State.tile_setFlag, State.tile_updTile_same]
  case true => rw [State.endLoad_cut, State.tile_setFlag, State.tile_setFlag, State.tile_updTile_same]

theorem State.load_endLoad (s : State) (t : Nat) (err : Bool) : ((s.endLoad t err).tile t).load = none := by
  rw [State.tile_endLoad]
  rfl

theorem State.mem_endLoad (s : State) (t : Nat) (err : Bool) : (s.endLoad t err).mem = s.mem := by
  cases err
  case false => rw [State.endLoad_done, State.setFlag_mem, State.updTile_mem]
  case true => rw [State.endLoad_cut, State.setFlag_mem, State.setFlag_mem, State.updTile_mem]

section
variable {s : State} (hw : s.regs.wf = true) (t : Nat)
include hw

/-- BUSY is 0 when a load has ended. -/
theorem State.busy_endLoad (err : Bool) : (s.endLoad t err).flag .TILE_SFLD_CTL (tix t) 30 = false := by
  have hdone : (s.endLoad t false).flag .TILE_SFLD_CTL (tix t) 30 = false := State.flag_setFlag_same (s := s.updTile t Tile.unloaded) hw _ _ (by decide) false
  cases err
  case false => exact hdone
  case true =>
    rw [State.endLoad_cut, ← State.endLoad_done, State.flag_setFlag_ne ((s.tileWorked_endLoad t false).wf hw) _ _ (by decide) (by decide)]
    exact hdone

/-- ERR is 1 when a load was cut short. -/
theorem State.err_endLoad_cut : (s.endLoad t true).flag .TILE_SFLD_CTL (tix t) 29 = true := by
  rw [State.endLoad_cut, ← State.endLoad_done]
  exact State.flag_setFlag_same ((s.tileWorked_endLoad t false).wf hw) _ _ (by decide) true

/-- An entry of the scale file changes whole (R151). -/
theorem State.sfEntry_putScale (j e : Nat) : (s.putScale t j e).sfEntry t j = e % 2 ^ 56 := by
  have hne : Reg.adr .TILE_SFj_LO (tix t ++ [j]) ≠ Reg.adr .TILE_SFj_HI (tix t ++ [j]) := by
    rw [adr_sfLo, adr_sfHi]
    omega
  change (s.setReg64 .TILE_SFj_LO .TILE_SFj_HI (tix t ++ [j]) (e % 2 ^ 56)).reg64 .TILE_SFj_LO .TILE_SFj_HI (tix t ++ [j]) = _
  rw [State.setReg64, State.reg64, State.reg_setReg_ne hne, State.reg_setReg_same hw, State.reg_setReg_same (State.wf_setReg hw ..)]
  omega

theorem State.wf_putScale (j e : Nat) : (s.putScale t j e).regs.wf = true := State.wf_setReg (State.wf_setReg hw ..) ..

end

/-- The end of a load leaves the scale file; no entry stands at the loader's register. -/
theorem State.sfEntry_endLoad (s : State) (t : Nat) (err : Bool) (j : Nat) : (s.endLoad t err).sfEntry t j = s.sfEntry t j := by
  have hrg := (s.tileWorked_endLoad t err).rg
  unfold State.sfEntry State.reg64
  rw [State.reg_congr (hrg _ (by rw [adr_sfLo, adr_sfldCtl]; omega)), State.reg_congr (hrg _ (by rw [adr_sfHi, adr_sfldCtl]; omega))]

/-! ### Returned bytes (R151, R152) -/

/-- A read of good bytes outside every sealed region reports nothing (R306). -/
theorem State.memRead_good {s : State} {a n : Nat} (hblocked : s.blockedRegions = []) (hgood : s.poisoned a n = false) (src : Nat) :
    s.memRead a n src .clean = (⟨s.mem.rdBytes a n, false⟩, s) := by
  have htags : ∀ i, i < n → s.inTags (a + i) = false := fun i _ => by rw [State.inTags, hblocked, List.any_nil]
  have hseals : s.badLines a n = [] := by
    have hnone : ∀ l, s.sealedAt l = none := fun l => by rw [State.sealedAt, hblocked, List.find?_nil]
    simp [State.badLines, hnone]
  have hread : s.memRead a n src .clean = (⟨(s.memRead a n src .clean).1.bytes, s.poisoned a n || decide (Ecc.clean = .uncorrectable) || s.badLines a n != []⟩,
      (if s.poisoned a n then s else s).sealReport (s.badLines a n)) := rfl
  rw [hread, State.memRead_bytes htags, hgood, hseals]
  rfl

theorem State.readPieces_good {s : State} {g : Seg} (hblocked : s.blockedRegions = []) (hgood : s.poisoned g.pa g.len = false) (src : Nat) :
    s.readPieces src .clean [g] = ([(g, s.mem.rdBytes g.pa g.len, false)], s) := by
  simp only [State.readPieces, State.memRead_good hblocked hgood]

/-- The tile's only fetch is one of the loader's, and its bytes are there. -/
def State.loaderHolds (s : State) (t : Nat) (f : Fetch) (bs : List Byte) : State := s.updTile t (fun x => { x with fetches := [{ f with bytes := bs }] })

section
variable {s : State} {t : Nat} {f : Fetch}

theorem Fetch.isScale_of_kind {n : Nat} (h : f.kind = .scale n) : f.isScale = true := by rw [Fetch.isScale, h]

theorem takeNth_only {α : Type} {p : α → Bool} {x : α} (h : p x = true) : takeNth p 0 [x] = some (x, []) := by simp [takeNth, h]

/-- A fetch of the loader that failed cuts the load short. -/
theorem State.scaleLoadData_fails (hfetches : (s.tile t).fetches = [f]) (hscale : f.isScale = true) (hbytes : f.bytes = []) (hfail : f.fail = true) (ecc : Ecc) :
    s.scaleLoadData t 0 ecc = s.endLoad t true := by
  have htake := takeNth_only (p := fun (f : Fetch) => f.isScale && f.bytes == []) (x := f) (by simp [hscale, hbytes])
  simp only [State.scaleLoadData, hfetches, htake, hfail, if_true]

/-- The bytes of a fetch come back good. -/
theorem State.scaleLoadData_good {g : Seg} {n : Nat} (hfetches : (s.tile t).fetches = [f]) (hkind : f.kind = .scale n) (hbytes : f.bytes = [])
    (hsegs : f.segs = [g]) (hfail : f.fail = false) (hblocked : s.blockedRegions = []) (hgood : s.poisoned g.pa g.len = false) :
    s.scaleLoadData t 0 .clean = (s.loaderHolds t f (s.mem.rdBytes g.pa g.len)).drainScales t 256 := by
  have hscale := Fetch.isScale_of_kind hkind
  have htake := takeNth_only (p := fun (f : Fetch) => f.isScale && f.bytes == []) (x := f) (by simp [hscale, hbytes])
  simp only [State.scaleLoadData, State.loaderHolds, State.updTile, hfetches, htake, hfail, hsegs, State.readPieces_good hblocked hgood]
  simp [updFirst, hscale, hfail, hsegs]

/-- The tile whose only fetch, of one entry, has been written to the scale file. -/
def Tile.entryWritten (l : ScaleLoad) (x : Tile) : Tile := { x with fetches := [], load := some { l with done := l.done + 1 } }

/-- The last entry of a load is written, and the load ends. -/
theorem State.drainScales_last {l : ScaleLoad} (hload : (s.tile t).load = some l) (hfetches : (s.tile t).fetches = [f]) (hkind : f.kind = .scale 0)
    (hlen : f.bytes.length = 8) (hlast : l.count ≤ l.done + 1) (n : Nat) :
    s.drainScales t (n + 1) =
      ((s.putScale t l.first (leNat f.bytes)).updTile t (Tile.entryWritten l)).endLoad t false := by
  have htake : takeFirst (fun (f : Fetch) => f.isScale) [f] = some (f, []) := by simp [takeFirst, Fetch.isScale_of_kind hkind]
  have hbytes : f.bytes ≠ [] := List.ne_nil_of_length_pos (by omega)
  have hentry : parseEntries 8 0 1 f.bytes = [(0, leNat f.bytes)] := by
    rw [parseEntries, parseEntries, List.take_of_length_le (by omega)]
  simp only [State.drainScales, hload, hfetches, htake, hkind, hlen, Nat.div_self, Nat.zero_lt_succ, hentry]
  rw [if_neg hbytes, if_pos hlast]
  rfl

/-- The bytes of a load's only entry come back good: the entry changes whole, and the load ends. -/
theorem State.scaleLoadData_last {l : ScaleLoad} {g : Seg} (hload : (s.tile t).load = some l) (hfetches : (s.tile t).fetches = [f]) (hkind : f.kind = .scale 0)
    (hbytes : f.bytes = []) (hsegs : f.segs = [g]) (hfail : f.fail = false) (hlen : g.len = 8) (hlast : l.count ≤ l.done + 1)
    (hblocked : s.blockedRegions = []) (hgood : s.poisoned g.pa 8 = false) :
    s.scaleLoadData t 0 .clean =
      (((s.loaderHolds t f (s.mem.rdBytes g.pa 8)).putScale t l.first (s.mem.rdLE g.pa 8)).updTile t (Tile.entryWritten l)).endLoad t false := by
  have htile : (s.loaderHolds t f (s.mem.rdBytes g.pa 8)).tile t = { s.tile t with fetches := [{ f with bytes := s.mem.rdBytes g.pa 8 }] } :=
    State.tile_updTile_same ..
  rw [← hlen] at hgood
  rw [State.scaleLoadData_good hfetches hkind hbytes hsegs hfail hblocked hgood, hlen]
  exact State.drainScales_last (f := { f with bytes := s.mem.rdBytes g.pa 8 }) (by rw [htile]; exact hload) (by rw [htile]) hkind (Mem.rdBytes_length ..) hlast 255

end

theorem State.wf_updTile {s : State} (hw : s.regs.wf = true) (t : Nat) (f : Tile → Tile) : (s.updTile t f).regs.wf = true := hw

theorem State.sfEntry_updTile (s : State) (t : Nat) (f : Tile → Tile) (u j : Nat) : (s.updTile t f).sfEntry u j = s.sfEntry u j := rfl

theorem State.mem_putScale (s : State) (t j e : Nat) : (s.putScale t j e).mem = s.mem := rfl

/-! ### Snapshots (R162) -/

/-- The statistics registers of a channel: its sum and its count. -/
def State.snapshot (s : State) (t j : Nat) : Nat × Nat := (s.reg .TILE_STATj_SUM (tix t ++ [j]), s.reg .TILE_STATj_CNT (tix t ++ [j]))

/-- A live channel is copied to its registers. -/
def State.snapChannel (t : Nat) (s : State) (e : Nat × StatCh) : State :=
  (s.setReg .TILE_STATj_SUM (tix t ++ [e.1]) e.2.sum).setReg .TILE_STATj_CNT (tix t ++ [e.1]) e.2.cnt

theorem State.statSnap_eq (s : State) (t : Nat) :
    s.statSnap t = (s.tile t).stat.entries.foldl (State.snapChannel t) (s.zeroRegs (tileWin t + 0x4000) (tileWin t + 0x6000)) := rfl

theorem State.snapshot_snapChannel_same {s : State} (hw : s.regs.wf = true) (t j : Nat) (h : StatCh) :
    (s.snapChannel t (j, h)).snapshot t j = (h.sum % 2 ^ 32, h.cnt % 2 ^ 32) := by
  have hne : Reg.adr .TILE_STATj_SUM (tix t ++ [j]) ≠ Reg.adr .TILE_STATj_CNT (tix t ++ [j]) := by
    rw [adr_statSum, adr_statCnt]
    omega
  rw [State.snapshot, State.snapChannel, State.reg_setReg_ne hne, State.reg_setReg_same hw, State.reg_setReg_same (State.wf_setReg hw ..)]

theorem State.snapshot_snapChannel_ne {t j : Nat} {e : Nat × StatCh} (hj : e.1 ≠ j) (s : State) : (s.snapChannel t e).snapshot t j = s.snapshot t j := by
  unfold State.snapshot State.snapChannel
  congr 1
  · rw [State.reg_setReg_ne (by rw [adr_statSum, adr_statCnt]; omega), State.reg_setReg_ne (by rw [adr_statSum, adr_statSum]; omega)]
  · rw [State.reg_setReg_ne (by rw [adr_statCnt, adr_statCnt]; omega), State.reg_setReg_ne (by rw [adr_statCnt, adr_statSum]; omega)]

theorem State.wf_snapChannel {s : State} (hw : s.regs.wf = true) (t : Nat) (e : Nat × StatCh) : (s.snapChannel t e).regs.wf = true :=
  State.wf_setReg (State.wf_setReg hw ..) ..

theorem State.wf_zeroRegs {s : State} (hw : s.regs.wf = true) (lo hi : Nat) : (s.zeroRegs lo hi).regs.wf = true := Tab.wf_filter hw _

theorem State.snapChannels_only (t : Nat) (es : List (Nat × StatCh)) (s : State) :
    es.foldl (State.snapChannel t) s = { s with regs := (es.foldl (State.snapChannel t) s).regs } := by
  induction es generalizing s with
  | nil => rfl
  | cons e es ih => exact ih (s.snapChannel t e)

/-- A channel that is not listed is not copied. -/
theorem State.snapshot_snapChannels_unlisted {t j : Nat} {es : List (Nat × StatCh)} (h : lookupKey es j = none) (s : State) :
    (es.foldl (State.snapChannel t) s).snapshot t j = s.snapshot t j := by
  induction es generalizing s with
  | nil => rfl
  | cons e es ih =>
    unfold lookupKey at h
    split at h
    · cases h
    · next hne => exact (ih h _).trans (State.snapshot_snapChannel_ne hne s)

/-- Every listed channel is copied; the channels rise, so that no later one stands in its place. -/
theorem State.snapshot_snapChannels {s : State} (hw : s.regs.wf = true) {t b j : Nat} {h : StatCh} {es : List (Nat × StatCh)} (hrise : risingFrom b es = true)
    (hj : lookupKey es j = some h) : (es.foldl (State.snapChannel t) s).snapshot t j = (h.sum % 2 ^ 32, h.cnt % 2 ^ 32) := by
  induction es generalizing s b with
  | nil => cases hj
  | cons e es ih =>
    obtain ⟨a, v⟩ := e
    simp only [risingFrom, Bool.and_eq_true] at hrise
    by_cases ha : a = j
    · obtain rfl : v = h := by simpa [lookupKey, ha] using hj
      subst ha
      exact (State.snapshot_snapChannels_unlisted (lookupKey_below hrise.2 (Nat.lt_succ_self a)) _).trans (State.snapshot_snapChannel_same hw t a v)
    · exact ih (State.wf_snapChannel hw ..) hrise.2 (by simpa [lookupKey, ha] using hj)

/-- SNAP copies every live channel and writes nothing but registers. -/
theorem State.statSnap_spec {s : State} (hw : s.regs.wf = true) (t : Nat) :
    s.statSnap t = { s with regs := (s.statSnap t).regs } ∧
      ∀ j h, (s.tile t).stat.wf = true → (s.tile t).stat.find j = some h → (s.statSnap t).snapshot t j = (h.sum % 2 ^ 32, h.cnt % 2 ^ 32) := by
  rw [State.statSnap_eq]
  exact ⟨State.snapChannels_only .., fun j h hrise hj => State.snapshot_snapChannels (State.wf_zeroRegs hw ..) hrise hj⟩

/-! ### CLR (R162) -/

/-- A channel with its live sum and count at zero. -/
def StatCh.cleared (h : StatCh) : StatCh := { h with sum := 0, cnt := 0 }

/-- CLR zeroes the live sum and count of every channel; one that is not listed has none. -/
theorem State.stat_statClr (s : State) (t j : Nat) : ((s.statClr t).tile t).stat.get StatCh.zero j = ((s.tile t).stat.get StatCh.zero j).cleared := by
  have hlook := lookupKey_map (fun _ => StatCh.cleared) (s.tile t).stat.entries j
  rw [State.statClr, State.tile_updTile_same]
  change (lookupKey ((s.tile t).stat.entries.map (fun e => (e.1, e.2.cleared))) j).getD StatCh.zero = _
  rw [hlook, Tab.get, Tab.find]
  cases lookupKey (s.tile t).stat.entries j <;> rfl

/-- TILE_STATCTL holds no field: a write of it stores nothing. -/
theorem State.rg_stored_statCtl {s : State} (hw : s.regs.wf = true) (t d a : Nat) : (s.stored .TILE_STATCTL (tix t) d).rg a = s.rg a := by
  by_cases ha : a = Reg.adr .TILE_STATCTL (tix t)
  · subst ha
    apply BitVec.eq_of_toNat_eq
    change (s.stored .TILE_STATCTL (tix t) d).reg .TILE_STATCTL (tix t) = s.reg .TILE_STATCTL (tix t)
    have hold : storeBits (Reg.desc .TILE_STATCTL) (s.writable .TILE_STATCTL (tix t)) (s.reg .TILE_STATCTL (tix t)) d = s.reg .TILE_STATCTL (tix t) := by
      apply Nat.eq_of_testBit_eq
      intro i
      rw [storeBits_writtenBit]
      simp [writtenBit, Reg.desc, State.writable]
    rw [State.stored, hold, State.reg_setReg_same hw, Nat.mod_eq_of_lt (s.reg_lt ..)]
  · exact State.rg_stored_ne ha s d

theorem State.regWrite_statCtl (s : State) (ini : Initiator) (t d : Nat) :
    s.regWrite ini .TILE_STATCTL (tix t) (Reg.adr .TILE_STATCTL (tix t)) d =
      (s.stored .TILE_STATCTL (tix t) d).writeEffect ini .TILE_STATCTL (tix t) (s.reg .TILE_STATCTL (tix t)) d := by
  rw [State.regWrite_plain (by decide) (by decide) (by decide)]
  rfl

/-! ### The commands -/

section
variable {ini : Initiator} {t : TileId} {s : State}

theorem exec_scaleLoadGo_takes {data : Word} (h : s.takes ini .TILE_SFLD_CTL (tix t.val) (putBits data.toNat 31 31 1)) :
    exec (.scaleLoadGo ini t data) s = .next ((s.stored .TILE_SFLD_CTL (tix t.val) (putBits data.toNat 31 31 1)).startScaleLoad t.val) := by
  rw [← State.regWrite_sfldCtl s ini]
  exact live_wr h

theorem exec_scaleLoadData (h : s.clocked t.val) (n : Nat) (ecc : Ecc) : exec (.scaleLoadData t n ecc) s = .next (s.scaleLoadData t.val n ecc) :=
  liveIn_clocked h (·.scaleLoadData t.val n ecc)

theorem exec_statSnap_takes (h : s.takes ini .TILE_STATCTL (tix t.val) 1) :
    exec (.statSnap ini t) s = .next ((s.stored .TILE_STATCTL (tix t.val) 1).statSnap t.val) := by
  refine (live_wr h).trans (congrArg Host.Outcome.next ?_)
  rw [State.regWrite_statCtl]
  change State.statSnap _ (34 * nth (tix t.val) 0 + nth (tix t.val) 1) = _
  rw [tix_slot]

theorem exec_statClr_takes (h : s.takes ini .TILE_STATCTL (tix t.val) 2) :
    exec (.statClr ini t) s = .next ((s.stored .TILE_STATCTL (tix t.val) 2).statClr t.val) := by
  refine (live_wr h).trans (congrArg Host.Outcome.next ?_)
  rw [State.regWrite_statCtl]
  change State.statClr _ (34 * nth (tix t.val) 0 + nth (tix t.val) 1) = _
  rw [tix_slot]
  exact congrArg (State.statClr · t.val) (if_neg (by decide))

end

end Sys2Proof.Machine

open Sys2Proof Sys2Proof.Machine

/-- Settles O30: what a GO, the bytes that return, SNAP and CLR do to the scale file, its loader and the statistics. -/
theorem scaleLoadsAndStatistics : Obligations.ScaleLoadsAndStatistics := by
  rintro ini t data s ⟨-, hw, -⟩
  refine ⟨fun htk => ?go, fun f g l ecc hclk hfetches hload hkind hbytes _ hsegs hfail hlen _ hcount hdone hblocked hgood hecc => ?data,
    fun f ecc hclk hfetches hscale hbytes hfail => ?cut, fun htk => ?snap, fun htk => ?clr⟩
  case go =>
    have hbusy := State.busy_stored_sfldCtl hw t.val (putBits data.toNat 31 31 1)
    have hfits := State.loadFits_stored hw t.val data.toNat
    have hasked := State.loadAsked_stored hw t.val data.toNat
    have hw' := State.wf_stored hw .TILE_SFLD_CTL (tix t.val) (putBits data.toNat 31 31 1)
    rw [exec_scaleLoadGo_takes htk]
    refine ⟨fun hon => ⟨_, rfl, ?_⟩, fun hoff hbad => ⟨_, rfl, ?_⟩, fun hoff hcount hlast => ⟨_, rfl, ?_⟩⟩
    · rw [State.startScaleLoad_busy (hbusy.trans hon)]
      exact ⟨rfl, rfl⟩
    · exact State.startScaleLoad_refused_spec (hbusy.trans hoff) hw' (fun h => by have := hfits.mp h; omega)
    · rw [← hasked]
      exact State.startScaleLoad_starts_spec (hbusy.trans hoff) hw' (hfits.mpr ⟨hcount, hlast⟩)
  case data =>
    subst hecc
    have hholds : (s.loaderHolds t.val f (s.mem.rdBytes g.pa 8)).regs.wf = true := State.wf_updTile hw ..
    have hput := State.wf_putScale hholds t.val l.first (s.mem.rdLE g.pa 8)
    rw [exec_scaleLoadData hclk, State.scaleLoadData_last hload hfetches hkind hbytes hsegs hfail hlen (by omega) hblocked hgood]
    refine ⟨_, rfl, ?_, State.busy_endLoad (State.wf_updTile hput _ _) _ _, State.load_endLoad .., ?_⟩
    · exact (State.sfEntry_endLoad ..).trans ((State.sfEntry_updTile ..).trans (State.sfEntry_putScale hholds ..))
    · rw [State.mem_endLoad, State.updTile_mem, State.mem_putScale, State.loaderHolds, State.updTile_mem]
  case cut =>
    rw [exec_scaleLoadData hclk, State.scaleLoadData_fails hfetches hscale hbytes hfail]
    exact ⟨_, rfl, State.err_endLoad_cut hw _, State.busy_endLoad hw _ _, State.load_endLoad .., fun j _ => (State.sfEntry_endLoad ..).symm⟩
  case snap =>
    obtain ⟨honly, hsnap⟩ := State.statSnap_spec (State.wf_stored hw .TILE_STATCTL (tix t.val) 1) t.val
    exact ⟨_, exec_statSnap_takes htk, honly, fun j h _ hrise hj _ => Prod.mk.inj (hsnap j h hrise hj)⟩
  case clr =>
    exact ⟨_, exec_statClr_takes htk, State.stat_statClr _ _, fun x hx => State.tile_updTile_ne hx .., fun a => State.rg_stored_statCtl hw ..⟩
end
